-- ==== Sys2Proof/Word.lean ====
section
/-!
DEFINITION. The plainest types of the model: bytes, and tables of a fixed number of entries.

The BL-6 counts its objects from 1 (00_scope.md, "Numbering"). Inside the model an object of `n` is named by
a `Fin n`, so that no reference can leave its table; `number i` is the number the spec and the ports use.
-/

namespace Sys2Proof

/-- A byte as the ports carry it (11_message_and_record_layouts.md). -/
abbrev Byte := BitVec 8

/-- The number, counted from 1, of the object that a `Fin` names. -/
abbrev number {n : Nat} (i : Fin n) : Nat := i.val + 1

/-- The object of `n` that a number on the wire names; none outside 1 to `n`. -/
def indexOf (n raw : Nat) : Option (Fin n) :=
  if h : 1 ≤ raw ∧ raw ≤ n then some ⟨raw - 1, by omega⟩ else none

/-- A table of exactly `n` entries. -/
structure Table (n : Nat) (α : Type) where
  entries : List α
  size : entries.length = n
deriving DecidableEq, Repr

/-- The entry of object `i`. -/
def Table.get {n : Nat} {α : Type} (t : Table n α) (i : Fin n) : α :=
  t.entries[i.val]'(by rw [t.size]; exact i.isLt)

/-- The table with the entry of object `i` replaced. -/
def Table.set {n : Nat} {α : Type} (t : Table n α) (i : Fin n) (x : α) : Table n α :=
  ⟨t.entries.set i.val x, by rw [List.length_set]; exact t.size⟩

/-- The table with the entry of object `i` changed by `f`. -/
def Table.modify {n : Nat} {α : Type} (t : Table n α) (i : Fin n) (f : α → α) : Table n α :=
  t.set i (f (t.get i))

/-- The table with every entry changed by `f`. -/
def Table.map {n : Nat} {α β : Type} (f : α → β) (t : Table n α) : Table n β :=
  ⟨t.entries.map f, by rw [List.length_map]; exact t.size⟩

/-- The table with the same entry for every object. -/
def Table.fill (n : Nat) {α : Type} (x : α) : Table n α :=
  ⟨List.replicate n x, List.length_replicate⟩

/-- The lowest-numbered object whose entry meets `p`. -/
def Table.find? {n : Nat} {α : Type} (t : Table n α) (p : α → Bool) : Option (Fin n) :=
  match t.entries.findIdx? p with
  | some k => if h : k < n then some ⟨k, h⟩ else none
  | none => none

/-- How many entries meet `p`. -/
def Table.count {n : Nat} {α : Type} (t : Table n α) (p : α → Bool) : Nat :=
  t.entries.countP p

end Sys2Proof
end

