-- ==== Sys2Proof/Syntax.lean ====
section
/-!
DEFINITION. The commands of the engine: one constructor of `Instr` for each row of spec/opcode_table.json.

A command is one of the spec's whole and indivisible events: a valid frame that carries a request completes on a
port (R178), a field input changes, or one of the engine's timers expires. A request command carries the port it
arrives on, the frame's tag, and the fields of the request's body in the order of "Request codes and request bodies"
(11), as the numbers the wire carries; enumerations stay raw codes, since an unlisted code is judged by the
request's own BAD_FIELD check (R191). An event command names its arm, probe, injector, order slot or port by a
`Fin` or a name, since the field has no input for another.
-/

namespace Sys2Proof

/-- The two ports (00_scope.md). -/
inductive PortId where
  | terminal
  | console
deriving DecidableEq, Repr

/-- The two pulse channels of a meter (03). -/
inductive Channel where
  | a
  | b
deriving DecidableEq, Repr

/-- The two bay permissives (R111). -/
inductive Permissive where
  | ground
  | overfill
deriving DecidableEq, Repr

/-- The positions of the calibration switch (R148). -/
inductive SwitchPosition where
  | amend
  | locked
deriving DecidableEq, Repr

/-- An order line entry as POST ORDER and AMEND ORDER carry it (11): raw field values. -/
structure LineSpec where
  compartment : Nat
  product : Nat
  preset : Nat
  basis : Nat
  recipe : Nat
deriving DecidableEq, Repr

/-- A point of a meter-factor curve: a flow in L/min and a meter factor in units of 0.00001 (R150). -/
structure CurvePoint where
  flow : Nat
  factor : Nat
deriving DecidableEq, Repr

/-- The commands, one constructor a row of spec/opcode_table.json, in the table's order. -/
inductive Instr where
  | setClock (port : PortId) (tag : Byte) (day second : Nat)
  | writePermit (port : PortId) (tag : Byte) (permit carrier : Nat) (classes : BitVec 8) (expiry state : Nat)
  | barPermit (port : PortId) (tag : Byte) (permit : Nat)
  | deletePermit (port : PortId) (tag : Byte) (permit : Nat)
  | readPermit (port : PortId) (tag : Byte) (permit : Nat)
  | writeProduct (port : PortId) (tag : Byte) (slot nameLength : Nat) (name : List Byte) (cls coefA coefB : Nat)
  | writeArmSetup (port : PortId) (tag : Byte) (arm product lowStart restart topOff overrunLimit : Nat)
  | postOrder (port : PortId) (tag : Byte) (order permit carrier tanker : Nat) (lines : List LineSpec)
  | amendOrder (port : PortId) (tag : Byte) (order permit tanker : Nat) (lines : List LineSpec)
  | presentPermit (port : PortId) (tag : Byte) (permit tanker order : Nat)
  | releaseClaim (port : PortId) (tag : Byte) (order : Nat)
  | claimTimeout (slot : Fin 24)
  | idleOrderTimeout (slot : Fin 24)
  | finishOrder (port : PortId) (tag : Byte) (order : Nat)
  | cancelOrder (port : PortId) (tag : Byte) (order : Nat)
  | readOrder (port : PortId) (tag : Byte) (order slot part : Nat)
  | meterEdge (arm : Fin 6) (channel : Channel)
  | meteringSample (arm : Fin 6)
  | gateCompletion
  | gateTimeout
  | readStatistics (port : PortId) (tag : Byte) (arm : Nat)
  | readAndClearStatistics (port : PortId) (tag : Byte) (arm : Nat)
  | startLine (port : PortId) (tag : Byte) (arm order line : Nat)
  | noFlowTimeout (arm : Fin 6)
  | endLine (port : PortId) (tag : Byte) (arm : Nat)
  | suspendTimeout (arm : Fin 6)
  | clearLockout (port : PortId) (tag : Byte) (arm : Nat)
  | readArm (port : PortId) (tag : Byte) (arm : Nat)
  | suspendArm (port : PortId) (tag : Byte) (arm : Nat)
  | holdArm (port : PortId) (tag : Byte) (arm : Nat)
  | resumeArm (port : PortId) (tag : Byte) (arm : Nat)
  | releaseArm (port : PortId) (tag : Byte) (arm : Nat)
  | permissiveLoss (input : Permissive)
  | permissiveInputReturn (input : Permissive)
  | permissiveRestored (input : Permissive)
  | estopActivation
  | estopInputRelease
  | estopReleaseTimeout
  | deadmanWarning
  | deadmanExpiry
  | deadmanPress (pressed : Bool)
  | readBay (port : PortId) (tag : Byte)
  | writeRecipe (port : PortId) (tag : Byte) (slot additive rate tolerance : Nat)
  | assignInjector (port : PortId) (tag : Byte) (arm position injector : Nat)
  | removeInjector (port : PortId) (tag : Byte) (arm position : Nat)
  | assignStandby (port : PortId) (tag : Byte) (primary standby : Nat)
  | releaseStandby (port : PortId) (tag : Byte) (injector : Nat)
  | returnInjector (port : PortId) (tag : Byte) (injector : Nat)
  | injectorFeedbackPulse (injector : Fin 8)
  | verifyWindowExpiry (injector : Fin 8)
  | readInjector (port : PortId) (tag : Byte) (injector : Nat)
  | writeCalibrationKFactor (port : PortId) (tag : Byte) (arm kFactor : Nat)
  | writeCalibrationCurve (port : PortId) (tag : Byte) (arm : Nat) (points : List CurvePoint)
  | writeCalibrationOffset (port : PortId) (tag : Byte) (arm : Nat) (offset : Int)
  | writeCalibrationInjector (port : PortId) (tag : Byte) (injector additive shotSize kFactor : Nat)
  | calibrationSwitchChange (position : SwitchPosition)
  | setSeal (port : PortId) (tag : Byte) (level : Nat)
  | writeTrialFactor (port : PortId) (tag : Byte) (arm factor : Nat)
  | readTotals (port : PortId) (tag : Byte) (part : Nat)
  | collectNote (port : PortId) (tag : Byte) (sequenceNumber : Nat)
  | markPrinted (port : PortId) (tag : Byte) (sequenceNumber : Nat)
  | readNote (port : PortId) (tag : Byte) (sequenceNumber part : Nat)
  | listNotes (port : PortId) (tag : Byte)
  | powerFailSave
  | powerFailWarningDeassert
  | coldStart
  | restart (port : PortId) (tag : Byte)
  | fetchNotice (port : PortId) (tag : Byte)
  | noticeDone (port : PortId) (tag : Byte)
  | setNoticeLevels (port : PortId) (tag : Byte) (designator safety batch dosing record : Nat) (enables : BitVec 16)
  | frameGapTimeout (port : PortId)
  | characterFault (port : PortId)
  | frameBadCrc (port : PortId)
  | unknownRequest (port : PortId) (tag code : Byte) (body : List Byte)
  | frameWhileBusy (port : PortId) (tag code : Byte) (body : List Byte)
  | transmissionEnd (port : PortId)
  | linkReset (port : PortId)
  | clockAdvance
  | referenceEdge
  | probeEdge (probe : Fin 6)
  | characterReceived (port : PortId) (character : Byte)
deriving DecidableEq, Repr

end Sys2Proof
end

