-- ==== Sys2Proof/Decode.lean ====
section
/-!
DEFINITION. Reading a command from a word of spec/opcode_table.json. The table gives none of its 81 rows bits: the
BL-6's commands are frames of a serial port, field events and expiries of timers. How a frame's bytes become a request is
the port controller's work, in Machine/Ports.lean.
-/

namespace Sys2Proof

/-- The command that a word spells by the table's bits: none, since no row of the table has bits. -/
def decodeTableWord (_nbits _w : Nat) : Option Instr := none

end Sys2Proof
end

