-- ==== Sys2Proof/Config.lean ====
section
/-!
DEFINITION. The engine's constants, and the values the spec leaves open (free values: constants with no body).

Durations are in milliseconds. A free value is an opaque constant: nothing in Lean can evaluate it, so a claim
about it holds whatever it is (notes/assumptions/11.md, notes/assumptions/12.md).
-/

namespace Sys2Proof

/-- FREE VALUE. What a 32-bit count of the spec (range 0 to 4,294,967,295 with no stated behaviour at its top:
sample count, line counted pulses, line corrected pulses, stage gross) holds when the exact sum lies above its
range; a function of the exact sum. DESIGN CHOICE, notes/assumptions/11.md. -/
opaque Config.countBeyond : Nat → BitVec 32

/-- FREE VALUE. What a reply field of `width` bytes carries when the value it reports does not fit it; a function
of the width and the value. DESIGN CHOICE, notes/assumptions/12.md. -/
opaque Config.fieldBeyond (width : Nat) (value : Int) : BitVec (8 * width)

/-- The one-second timer of the bay clock (R2). -/
abbrev Config.clockPeriod : Nat := 1000
/-- The metering sample period (R51). -/
abbrev Config.samplePeriod : Nat := 200
/-- The gate timer (R62). -/
abbrev Config.gateTimeout : Nat := 2000
/-- G, the reference gate length in reference pulses (04, "The temperature unit"). -/
abbrev Config.gateLength : Nat := 40000
/-- The claim timer (R30). -/
abbrev Config.claimTimeout : Nat := 600000
/-- The idle timer of an order (R33). -/
abbrev Config.idleTimeout : Nat := 1800000
/-- The no-flow timer (R87). -/
abbrev Config.noFlowTimeout : Nat := 30000
/-- The suspend timer (R94). -/
abbrev Config.suspendTimeout : Nat := 1800000
/-- The restoration and release timers of the bay inputs (R113, R115). -/
abbrev Config.restoreDelay : Nat := 5000
/-- The deadman warning (R117). -/
abbrev Config.deadmanWarning : Nat := 120000
/-- The deadman interval (R117). -/
abbrev Config.deadmanLimit : Nat := 150000
/-- The verify window of a shot (R135). -/
abbrev Config.verifyWindow : Nat := 3000
/-- The gap timer of a frame in progress (R177). -/
abbrev Config.frameGap : Nat := 20
/-- A totalizer continues from 0 past 999,999,999 (R155, R156). -/
abbrev Config.totalizerWrap : Nat := 1000000000
/-- The top of a 32-bit count. -/
abbrev Config.maxCount32 : Nat := 4294967295
/-- The top of a 16-bit count. -/
abbrev Config.maxCount16 : Nat := 65535
/-- The sync byte of a frame (11, "The frame"). -/
abbrev Config.syncByte : Byte := 0xA5#8

end Sys2Proof
end

