-- ==== Sys2Proof/Machine/State.lean ====
section
/-!
DEFINITION. The state of the engine: every piece of state the spec gives the BL-6, as plain data.

Timers are the milliseconds remaining (`none`: stopped), except the deadman timer, which the spec counts upwards.
Outputs that the spec drives from other state (valves by R80, solenoids by R124, attention lines by R185, an
injector's role by R124) are not stored: Machine/Ops.lean computes them. INVENTORY.md lists every field with its
rule and its value at reset.
-/

namespace Sys2Proof.Machine

/-! ### Bay clock and permits (01) -/

/-- A bay time: day number and second of day (01, "The bay clock"). -/
structure BayTime where
  day : Nat
  second : Nat
deriving DecidableEq, Repr

/-- The bay clock with its clock-set flag and its one-second timer (R1, R2). -/
structure Clock where
  day : Nat
  second : Nat
  isSet : Bool
  timer : Nat
deriving DecidableEq, Repr

/-- Whether the control room has withdrawn a permit. -/
inductive PermitState where
  | active
  | barred
deriving DecidableEq, Repr

/-- An occupied entry of the permit table. Bit `c - 1` of `classes` stands for class `c`. -/
structure Permit where
  number : Nat
  carrier : Nat
  classes : BitVec 8
  expiry : Nat
  state : PermitState
  claim : Option (Fin 24)
  lastPresented : Option BayTime
deriving DecidableEq, Repr

/-! ### Products, recipes, arm setups, orders (02, 07) -/

/-- A product definition (02, "The product table"). -/
structure Product where
  name : List Byte
  cls : Nat
  coefA : Nat
  coefB : Nat
deriving DecidableEq, Repr

/-- A recipe (07, "Recipes"). -/
structure Recipe where
  additive : Nat
  rate : Nat
  tolerance : Nat
deriving DecidableEq, Repr

/-- An arm setup record (02, "The arm setup records"); volumes in litres. -/
structure ArmSetup where
  product : Option (Fin 16)
  lowStart : Nat
  restart : Nat
  topOff : Nat
  overrunLimit : Nat
  positions : Table 2 (Option (Fin 8))
deriving DecidableEq, Repr

inductive Basis where
  | gross
  | standard
deriving DecidableEq, Repr

inductive LineResult where
  | complete
  | short
  | aborted
  | notLoaded
deriving DecidableEq, Repr

/-- The line's place in its life. An `active` line is running while its result is absent, else ending (R22). -/
inductive LineState where
  | waiting
  | active (arm : Fin 6)
  | ended
deriving DecidableEq, Repr

/-- The flags of a line record (11, "Line flag bits"). -/
structure LineFlags where
  overrun : Bool
  singleChannel : Bool
  tempHeld : Bool
  trial : Bool
  standbyUsed : Bool
  doseDeviation : Bool
  leak : Bool
  estop : Bool
  suspendTimeout : Bool
  cancel : Bool
deriving DecidableEq, Repr

/-- A totalizer of volume: litres and a remainder in mL (R155). -/
structure Totalizer where
  litres : Nat
  remainder : Nat
deriving DecidableEq, Repr

/-- The gross and standard totalizer readings of a meter at one event (R157). -/
structure Readings where
  gross : Totalizer
  standard : Totalizer
deriving DecidableEq, Repr

/-- The additive quantities fixed at a line's end (R142). -/
structure AdditiveTotals where
  additive : Nat
  dosed : Nat
  required : Nat
deriving DecidableEq, Repr

/-- The line record (02, "The order table"): GV and GSV in mL, and the temperature-weight sum. -/
structure LineRecord where
  gv : Nat
  gsv : Nat
  tsum : Int
  additive : Option AdditiveTotals
  atStart : Option Readings
  atEnd : Option Readings
  counter : Option Nat
deriving DecidableEq, Repr

/-- A line of an order. -/
structure Line where
  compartment : Nat
  product : Fin 16
  preset : Nat
  basis : Basis
  recipe : Option (Fin 16)
  state : LineState
  result : Option LineResult
  flags : LineFlags
  record : LineRecord
deriving DecidableEq, Repr

inductive OrderState where
  | posted
  | claimed
  | loading
  | closing
deriving DecidableEq, Repr

inductive CloseCause where
  | finished
  | cancelled
  | timedOut
  | restart
  | interrupted
deriving DecidableEq, Repr

/-- An occupied slot of the order table. `permit` and `tanker` are 0 for "any". -/
structure Order where
  number : Nat
  permit : Nat
  carrier : Nat
  tanker : Nat
  lines : List Line
  state : OrderState
  claimPermit : Option Nat
  claimTanker : Option Nat
  claimTime : Option BayTime
  closeCause : Option CloseCause
  claimTimer : Option Nat
  idleTimer : Option Nat
deriving DecidableEq, Repr

/-- A line named by its order's slot and its line number, counted from 1. -/
structure LineRef where
  slot : Fin 24
  line : Nat
deriving DecidableEq, Repr

/-! ### Pulse decoders and metering (03) -/

inductive ChannelStatus where
  | normal
  | failed
deriving DecidableEq, Repr

inductive DecoderMode where
  | line
  | stray
deriving DecidableEq, Repr

/-- The four statistics of a meter (R57). -/
structure MeterStatistics where
  missingA : Nat
  missingB : Nat
  channelFailures : Nat
  pulseHolds : Nat
deriving DecidableEq, Repr

/-- A pulse decoder (03, "The pulse decoder"). `lineStarted` says that a line has started on the arm since cold start
(R58). -/
structure Decoder where
  expected : Channel
  statusA : ChannelStatus
  statusB : ChannelStatus
  missA : Nat
  missB : Nat
  mode : DecoderMode
  sampleCount : Nat
  lineCounted : Nat
  lineCorrected : Nat
  lineStarted : Bool
  stats : MeterStatistics
deriving DecidableEq, Repr

/-- A set of sample carries: indicated, gross and standard (R52, R53, R71, R74). -/
structure Carries where
  indicated : Nat
  gross : Nat
  standard : Nat
deriving DecidableEq, Repr

/-! ### Temperature (04) -/

inductive ProbeStatus where
  | unknown
  | valid
  | holding
  | failed
deriving DecidableEq, Repr

/-- A probe (04, "The temperature unit"). `lastGate` is the T of the last gate, absent as R64 says. -/
structure Probe where
  count : Nat
  status : ProbeStatus
  temperature : Int
  invalidRun : Nat
  recoveryRun : Nat
  lastGate : Option Int
deriving DecidableEq, Repr

/-- The bay-wide part of the temperature unit: the reference count and the gate timer (R61). -/
structure Gate where
  referenceCount : Nat
  timer : Nat
deriving DecidableEq, Repr

/-! ### Dosing (07) -/

inductive DosingPhase where
  | accruing
  | finishing
  | disengaged
deriving DecidableEq, Repr

/-- A shot in flight: its feedback count and its retry mark. -/
structure Shot where
  feedback : Nat
  retry : Bool
deriving DecidableEq, Repr

/-- The dosing record of an active line (07, "The dosing record"). Its flags stand in the line's flags. `late` is the
model's own: the injector that failed in this millisecond one pulse short of the target, while that pulse may still come
(R145; notes/assumptions/27.md). -/
structure DosingRecord where
  phase : DosingPhase
  position : Fin 2
  serving : Fin 8
  servingKf : Nat
  additive : Nat
  rate : Nat
  tolerance : Nat
  interval : Nat
  target : Nat
  accumulator : Nat
  owed : Nat
  budget : Nat
  shot : Option Shot
  feedback : Nat
  dosedBefore : Nat
  late : Option (Fin 8)
deriving DecidableEq, Repr

/-- The four statistics of an injector (R143). -/
structure InjectorStatistics where
  firstGood : Nat
  goodAfterRetry : Nat
  failed : Nat
  overspeed : Nat
deriving DecidableEq, Repr

/-- The volatile part of an injector: its standby, its verify window (running exactly in activity SHOT) and its
statistics. Its condition and calibration stand in the store; its role is read from the arm setups and standbys.
`voided` is the model's own: a good shot stopped the window in this millisecond and the next owed shot was issued at once, so
that an expiry taken now is the stopped window's and does not happen (R145; notes/assumptions/3.md). -/
structure Injector where
  standby : Option (Fin 8)
  window : Option Nat
  stats : InjectorStatistics
  voided : Bool
deriving DecidableEq, Repr

/-! ### Arms (05, 06) -/

inductive ArmState where
  | idle
  | lowStart
  | fullFlow
  | topOff
  | closing
  | suspended
  | locked
deriving DecidableEq, Repr

inductive ClosingReason where
  | lineEnd
  | hold
deriving DecidableEq, Repr

/-- The nine hold causes (R103). -/
inductive HoldCause where
  | operator
  | noFlow
  | pulse
  | terminal
  | ground
  | overfill
  | deadman
  | probe
  | additive
deriving DecidableEq, Repr

/-- A hold-cause set: any subset of the nine causes (R103). -/
structure HoldSet where
  operator : Bool
  noFlow : Bool
  pulse : Bool
  terminal : Bool
  ground : Bool
  overfill : Bool
  deadman : Bool
  probe : Bool
  additive : Bool
deriving DecidableEq, Repr

/-- A queued start: an order number and a line number (R83). -/
structure QueuedStart where
  order : Nat
  line : Nat
deriving DecidableEq, Repr

/-- An arm: its setup, its decoder, its metering and dosing state, and its arm controller (05, "The arm record"). -/
structure Arm where
  setup : ArmSetup
  decoder : Decoder
  sampleTimer : Nat
  lineCarries : Carries
  strayCarries : Carries
  flowRate : Nat
  state : ArmState
  reason : Option ClosingReason
  active : Option LineRef
  stageVolume : Nat
  stageGross : Nat
  holds : HoldSet
  queued : Option QueuedStart
  zeroRun : Nat
  closeCount : Nat
  noFlowTimer : Option Nat
  suspendTimer : Option Nat
  stray : Nat
  lastOverrun : Nat
  boundTrial : Option Nat
  dosing : Option DosingRecord
  reducedFlow : Bool
deriving DecidableEq, Repr

/-! ### The calibration store (08) -/

inductive SealLevel where
  | sealOpen
  | sealHeld
  | sealFixed
deriving DecidableEq, Repr

/-- The store's items of one meter; `pendingTrial` is held with the store but is volatile (08). -/
structure MeterStore where
  kFactor : Nat
  curve : List CurvePoint
  offset : Int
  gross : Totalizer
  standard : Totalizer
  pendingTrial : Option Nat
deriving DecidableEq, Repr

/-- A dosing totalizer: mL and a remainder in milli-pulses (R156). -/
structure DosingTotalizer where
  millilitres : Nat
  remainder : Nat
deriving DecidableEq, Repr

/-- The store's items of one injector. -/
structure InjectorStore where
  additive : Nat
  shotSize : Nat
  kFactor : Nat
  failed : Bool
  total : DosingTotalizer
deriving DecidableEq, Repr

/-- The calibration store (08, "The calibration store"). -/
structure Store where
  meters : Table 6 MeterStore
  injectors : Table 8 InjectorStore
  sealLevel : SealLevel
  counter : Nat
deriving DecidableEq, Repr

/-! ### The note journal (09) -/

/-- A line record of a delivery note (09, "The delivery note"). -/
structure NoteLine where
  compartment : Nat
  product : Fin 16
  preset : Nat
  basis : Basis
  result : Option LineResult
  gvLitres : Nat
  gsvLitres : Nat
  average : Option Int
  additive : Option AdditiveTotals
  flags : LineFlags
  atStart : Option Readings
  atEnd : Option Readings
  counter : Option Nat
deriving DecidableEq, Repr

/-- A delivery note. -/
structure Note where
  sequenceNumber : Nat
  order : Nat
  permit : Nat
  carrier : Nat
  tanker : Nat
  claimTime : BayTime
  closeTime : BayTime
  cause : CloseCause
  clockUnset : Bool
  printed : Nat
  lines : List NoteLine
deriving DecidableEq, Repr

/-- A journal slot. -/
inductive JournalSlot where
  | empty
  | stored (note : Note)
  | collected (note : Note)
deriving DecidableEq, Repr

/-- The note journal. `composition` lists the slots that hold a note, the earliest composed first. The save area
holds order images; an image is the order as R173 takes it. -/
structure Journal where
  slots : Table 48 JournalSlot
  composition : List (Fin 48)
  lastSequence : Nat
  saveArea : List Order
deriving DecidableEq, Repr

/-! ### The bay permissive monitor and the bay inputs (06) -/

inductive Recognized where
  | present
  | lost
deriving DecidableEq, Repr

/-- A bay permissive: its input's level, its recognized state and its restoration timer (R111). -/
structure PermissiveInput where
  level : Bool
  recognized : Recognized
  timer : Option Nat
deriving DecidableEq, Repr

/-- The emergency stop: its input's level (true: active), whether it is recognized ACTIVE, its release timer. -/
structure StopInput where
  level : Bool
  active : Bool
  timer : Option Nat
deriving DecidableEq, Repr

/-- The deadman button's level, the elapsed time while the timer runs, and the warning-given item (R116). -/
structure Deadman where
  pressed : Bool
  elapsed : Option Nat
  warned : Bool
deriving DecidableEq, Repr

/-- The bay permissive monitor, the calibration switch and the power-fail warning; `saved` says that the
power-fail save has been made since the last cold start (R172). -/
structure Bay where
  ground : PermissiveInput
  overfill : PermissiveInput
  stop : StopInput
  deadman : Deadman
  switch : SwitchPosition
  powerFail : Bool
  saved : Bool
deriving DecidableEq, Repr

/-! ### Ports and notices (10) -/

/-- The notice kinds, in kind order (10, "The notice unit"). -/
inductive NoticeKind where
  | estop
  | leak
  | permissiveLost
  | lineEnded
  | lineHeld
  | startDropped
  | orderClosed
  | claimExpired
  | probeFault
  | injectorFailed
  | doseDeviation
  | flowReduced
  | noteStored
  | journalNearFull
  | strayFlow
  | deadmanDue
deriving DecidableEq, Repr

/-- A pending notice: kind, subject (an arm, slot or injector number; 0 for none) and raising time. -/
structure Notice where
  kind : NoticeKind
  subject : Nat
  time : BayTime
deriving DecidableEq, Repr

/-- The class levels of a port (R183). -/
structure Levels where
  safety : Nat
  batch : Nat
  dosing : Nat
  record : Nat
deriving DecidableEq, Repr

/-- A reply being sent: its frame, and whether it is a PORT_BUSY reply (R179). -/
structure Transmission where
  frame : List Byte
  portBusy : Bool
deriving DecidableEq, Repr

/-- A port: the frame in progress (empty while hunting) and its gap timer, the reply being sent, the tag and code
of an owed PORT_BUSY, and the notice unit's sets for the port. -/
structure Port where
  receive : List Byte
  gapTimer : Option Nat
  transmit : Option Transmission
  owed : Option (Byte × Byte)
  notices : List Notice
  levels : Levels
  enables : BitVec 16
  inService : List Nat
deriving DecidableEq, Repr

/-! ### The whole state -/

/-- The engine's state. `pending` is the model's queue of the commands that wait, first in, first out; `due` is the model's
own too: the expiries that the last millisecond queued and that have not been taken (notes/assumptions/3.md). -/
structure State where
  clock : Clock
  permits : Table 200 (Option Permit)
  products : Table 16 (Option Product)
  recipes : Table 16 (Option Recipe)
  orders : Table 24 (Option Order)
  arms : Table 6 Arm
  gate : Gate
  probes : Table 6 Probe
  injectors : Table 8 Injector
  store : Store
  journal : Journal
  bay : Bay
  terminal : Port
  console : Port
  pending : List Instr
  due : List Instr
deriving DecidableEq, Repr

/-- A fault would be a stop that the spec describes. The spec describes none: every event the engine takes leaves
it in a next state, a failed check being answered by a reply code that changes nothing (R178). Nobody raises one. -/
inductive Fault where
deriving DecidableEq, Repr

/-- The refusals. -/
inductive Refusal where
  /-- Raised by exec's arm of a command whose meaning is not written yet; safe. No arm raises it: every command of
  spec/opcode_table.json has its meaning. -/
  | notModelled (mnemonic : String)
deriving DecidableEq, Repr

/-- What a step answers. -/
abbrev Outcome := Host.Outcome State Fault Refusal

/-! ### Cold-start values -/

/-- No flag set. -/
def LineFlags.clear : LineFlags :=
  ⟨false, false, false, false, false, false, false, false, false, false⟩

/-- A line record before its line has started (R23). -/
def LineRecord.blank : LineRecord := ⟨0, 0, 0, none, none, none, none⟩

/-- The empty hold-cause set (R104). -/
def HoldSet.clear : HoldSet :=
  ⟨false, false, false, false, false, false, false, false, false⟩

/-- Both bay times and clock at cold start (R1). -/
def Clock.cold : Clock := ⟨0, 0, false, Config.clockPeriod⟩

/-- A decoder at cold start (R43, R58). -/
def Decoder.cold : Decoder :=
  ⟨.a, .normal, .normal, 0, 0, .stray, 0, 0, 0, false, ⟨0, 0, 0, 0⟩⟩

/-- Carries at zero (R56). -/
def Carries.zero : Carries := ⟨0, 0, 0⟩

/-- An arm setup record at cold start (R19). -/
def ArmSetup.cold : ArmSetup := ⟨none, 200, 100, 300, 50, Table.fill 2 none⟩

/-- An arm at cold start (R19, R43, R51, R54, R56, R79, R133). -/
def Arm.cold : Arm where
  setup := ArmSetup.cold
  decoder := Decoder.cold
  sampleTimer := Config.samplePeriod
  lineCarries := Carries.zero
  strayCarries := Carries.zero
  flowRate := 0
  state := .idle
  reason := none
  active := none
  stageVolume := 200
  stageGross := 0
  holds := HoldSet.clear
  queued := none
  zeroRun := 0
  closeCount := 0
  noFlowTimer := none
  suspendTimer := none
  stray := 0
  lastOverrun := 0
  boundTrial := none
  dosing := none
  reducedFlow := false

/-- A probe at cold start (R61). DESIGN CHOICE: its last gate is absent (notes/assumptions/17.md). -/
def Probe.cold : Probe := ⟨0, .unknown, 1500, 0, 0, none⟩

/-- The gate at cold start (R61). -/
def Gate.cold : Gate := ⟨0, Config.gateTimeout⟩

/-- The volatile part of an injector at cold start (R123). -/
def Injector.cold : Injector := ⟨none, none, ⟨0, 0, 0, 0⟩, false⟩

/-- A port at cold start (R181, R183). -/
def Port.cold : Port :=
  ⟨[], none, none, none, [], ⟨0, 2, 3, 6⟩, 0xFFFF#16, []⟩

/-- A meter of a store that has never been written (R146). -/
def MeterStore.blank : MeterStore := ⟨0, [], 0, ⟨0, 0⟩, ⟨0, 0⟩, none⟩

/-- An injector of a store that has never been written (R146). -/
def InjectorStore.blank : InjectorStore := ⟨0, 0, 0, false, ⟨0, 0⟩⟩

/-- A store that has never been written (R146). -/
def Store.blank : Store :=
  ⟨Table.fill 6 MeterStore.blank, Table.fill 8 InjectorStore.blank, .sealOpen, 0⟩

/-- A journal that has never held a note (R160). -/
def Journal.blank : Journal := ⟨Table.fill 48 .empty, [], 0, []⟩

/-- A permissive at cold start, by its input's level at that moment (R111). -/
def PermissiveInput.cold (level : Bool) : PermissiveInput :=
  ⟨level, .lost, if level then some Config.restoreDelay else none⟩

/-- The emergency stop at cold start, by its input's level at that moment (R111). -/
def StopInput.cold (level : Bool) : StopInput :=
  ⟨level, true, if level then none else some Config.restoreDelay⟩

/-- The bay after reset. The cold start gives the monitor's values by the inputs' levels (R111). DESIGN CHOICE, since
the spec states no level: ground and overfill not present, stop inactive, button released, switch in AMEND, power-fail
warning deasserted (notes/assumptions/5.md). -/
def Bay.reset : Bay where
  ground := PermissiveInput.cold false
  overfill := PermissiveInput.cold false
  stop := StopInput.cold false
  deadman := ⟨false, none, false⟩
  switch := .amend
  powerFail := false
  saved := false

/-- The engine right after reset: the cold start of an engine whose calibration store and journal have never been
written (R1, R5, R17, R19, R21, R43, R61, R79, R111, R121, R123, R146, R160, R181, R183). -/
def State.reset : State where
  clock := Clock.cold
  permits := Table.fill 200 none
  products := Table.fill 16 none
  recipes := Table.fill 16 none
  orders := Table.fill 24 none
  arms := Table.fill 6 Arm.cold
  gate := Gate.cold
  probes := Table.fill 6 Probe.cold
  injectors := Table.fill 8 Injector.cold
  store := Store.blank
  journal := Journal.blank
  bay := Bay.reset
  terminal := Port.cold
  console := Port.cold
  pending := []
  due := []

end Sys2Proof.Machine
end

