-- ==== Sys2Proof/Machine/Operands.lean ====
section
/-!
DEFINITION. The operand forms: how fields, codes and frames are read from and written to a port (R190, R191, R192).
-/

namespace Sys2Proof.Machine

/-! ### Fields -/

/-- The low `width` bytes of a number, most significant byte first (11, opening paragraph). -/
def bigEndian : Nat → Nat → List Byte
  | 0, _ => []
  | width + 1, n => BitVec.ofNat 8 (n / 256 ^ width) :: bigEndian width n

/-- The number that a field's bytes spell, most significant byte first. -/
def readBigEndian (bytes : List Byte) : Nat :=
  bytes.foldl (fun acc b => acc * 256 + b.toNat) 0

/-- An unsigned reply field of `width` bytes. A value that does not fit is a free value (notes/assumptions/12.md). -/
def field (width n : Nat) : List Byte :=
  bigEndian width (if n < 256 ^ width then n else (Config.fieldBeyond width n).toNat)

/-- A signed reply field of `width` bytes, two's complement. A value that does not fit is a free value. -/
def signedField (width : Nat) (v : Int) : List Byte :=
  if -(256 ^ width : Int) ≤ 2 * v ∧ 2 * v < (256 ^ width : Int) then
    bigEndian width (v % (256 ^ width : Int)).toNat
  else bigEndian width (Config.fieldBeyond width v).toNat

/-- The number that a signed field's bytes spell, two's complement. -/
def readSigned (bytes : List Byte) : Int :=
  let n := readBigEndian bytes
  if 2 * n < 256 ^ bytes.length then n else (n : Int) - 256 ^ bytes.length

/-- A yes-or-no item: 1 or 0 (11, "Field widths and value codes"). -/
def yesNo (b : Bool) : List Byte := [if b then 1#8 else 0#8]

/-- An optional field or group: a presence byte, then the content, or `width` zero bytes where it is absent (R191). -/
def optionalField {α : Type} (width : Nat) (content : α → List Byte) : Option α → List Byte
  | some x => 1#8 :: content x
  | none => 0#8 :: List.replicate width 0#8

/-- Milliseconds as seconds, a remaining time rounded up (R192). -/
def secondsUp (ms : Nat) : Nat := (ms + 999) / 1000

/-- Milliseconds as seconds, an elapsed time rounded down (R192). -/
def secondsDown (ms : Nat) : Nat := ms / 1000

/-- The seconds remaining on a timer, with its presence byte (R192). -/
def timerField (t : Option Nat) : List Byte := optionalField 2 (fun ms => field 2 (secondsUp ms)) t

/-- A bay time: day number and second of day. -/
def bayTimeField (t : BayTime) : List Byte := field 2 t.day ++ field 4 t.second

/-- A totalizer reading: litres and remainder. -/
def totalizerField (t : Totalizer) : List Byte := field 4 t.litres ++ field 2 t.remainder

/-- A name in a reply: 16 bytes, its characters and then zero bytes (11, "Name"). -/
def nameField (name : List Byte) : List Byte := (name ++ List.replicate 16 0#8).take 16

/-- An object's number, 0 where there is none. -/
def numberOrZero {n : Nat} : Option (Fin n) → Nat
  | some i => number i
  | none => 0

/-! ### Enumerations (11, "Field widths and value codes") -/

def Basis.code : Basis → Nat
  | .gross => 1
  | .standard => 2

def basisOf : Nat → Option Basis
  | 1 => some .gross
  | 2 => some .standard
  | _ => none

def PermitState.code : PermitState → Nat
  | .active => 1
  | .barred => 2

def permitStateOf : Nat → Option PermitState
  | 1 => some .active
  | 2 => some .barred
  | _ => none

def SealLevel.code : SealLevel → Nat
  | .sealOpen => 1
  | .sealHeld => 2
  | .sealFixed => 3

def sealLevelOf : Nat → Option SealLevel
  | 1 => some .sealOpen
  | 2 => some .sealHeld
  | 3 => some .sealFixed
  | _ => none

def portCode : PortId → Nat
  | .terminal => 1
  | .console => 2

def portOf : Nat → Option PortId
  | 1 => some .terminal
  | 2 => some .console
  | _ => none

def LineResult.code : LineResult → Nat
  | .complete => 1
  | .short => 2
  | .aborted => 3
  | .notLoaded => 4

def CloseCause.code : CloseCause → Nat
  | .finished => 1
  | .cancelled => 2
  | .timedOut => 3
  | .restart => 4
  | .interrupted => 5

def OrderState.code : OrderState → Nat
  | .posted => 1
  | .claimed => 2
  | .loading => 3
  | .closing => 4

def ArmState.code : ArmState → Nat
  | .idle => 1
  | .lowStart => 2
  | .fullFlow => 3
  | .topOff => 4
  | .closing => 5
  | .suspended => 6
  | .locked => 7

def ClosingReason.code : ClosingReason → Nat
  | .lineEnd => 1
  | .hold => 2

def ProbeStatus.code : ProbeStatus → Nat
  | .unknown => 1
  | .valid => 2
  | .holding => 3
  | .failed => 4

def ChannelStatus.code : ChannelStatus → Nat
  | .normal => 1
  | .failed => 2

def DecoderMode.code : DecoderMode → Nat
  | .line => 1
  | .stray => 2

def DosingPhase.code : DosingPhase → Nat
  | .accruing => 1
  | .finishing => 2
  | .disengaged => 3

def switchCode : SwitchPosition → Nat
  | .amend => 1
  | .locked => 2

def Recognized.code : Recognized → Nat
  | .present => 1
  | .lost => 2

/-- The notice codes, which follow the kind order (11, "Notice codes"). -/
def NoticeKind.code : NoticeKind → Nat
  | .estop => 1
  | .leak => 2
  | .permissiveLost => 3
  | .lineEnded => 4
  | .lineHeld => 5
  | .startDropped => 6
  | .orderClosed => 7
  | .claimExpired => 8
  | .probeFault => 9
  | .injectorFailed => 10
  | .doseDeviation => 11
  | .flowReduced => 12
  | .noteStored => 13
  | .journalNearFull => 14
  | .strayFlow => 15
  | .deadmanDue => 16

/-- The reply codes (11, "Reply codes"). -/
inductive ReplyCode where
  | ok
  | queued
  | portBusy
  | unknownRequest
  | notPermitted
  | badField
  | noSuch
  | tableFull
  | inUse
  | wrongState
  | timeUnset
  | permitBarred
  | permitExpired
  | permitMismatch
  | permitClass
  | journalFull
  | armBusy
  | armLocked
  | productMismatch
  | permissive
  | probeFault
  | uncalibrated
  | injectorUnavailable
  | held
  | sealed
  | switchLocked
  | counterFull
deriving DecidableEq, Repr

/-- The value of a reply code (11, "Reply codes"). -/
def ReplyCode.byte : ReplyCode → Byte
  | .ok => 0x00#8
  | .queued => 0x01#8
  | .portBusy => 0x02#8
  | .unknownRequest => 0x03#8
  | .notPermitted => 0x04#8
  | .badField => 0x05#8
  | .noSuch => 0x06#8
  | .tableFull => 0x07#8
  | .inUse => 0x08#8
  | .wrongState => 0x09#8
  | .timeUnset => 0x0A#8
  | .permitBarred => 0x0B#8
  | .permitExpired => 0x0C#8
  | .permitMismatch => 0x0D#8
  | .permitClass => 0x0E#8
  | .journalFull => 0x0F#8
  | .armBusy => 0x10#8
  | .armLocked => 0x11#8
  | .productMismatch => 0x12#8
  | .permissive => 0x13#8
  | .probeFault => 0x14#8
  | .uncalibrated => 0x15#8
  | .injectorUnavailable => 0x16#8
  | .held => 0x17#8
  | .sealed => 0x18#8
  | .switchLocked => 0x19#8
  | .counterFull => 0x1A#8

/-! ### Frames (R190) -/

/-- One bit of the CRC: shift left, and combine with 0x1021 when the bit leaving the top differs from the byte's bit. -/
def crcBit (register : BitVec 16) (bit : Bool) : BitVec 16 :=
  if register.msb != bit then (register <<< 1) ^^^ 0x1021#16 else register <<< 1

/-- One byte of the CRC, most significant bit first. -/
def crcByte (register : BitVec 16) (b : Byte) : BitVec 16 :=
  [7, 6, 5, 4, 3, 2, 1, 0].foldl (fun r k => crcBit r (b.getLsbD k)) register

/-- The CRC over a frame's covered bytes, from 0xFFFF (R190). -/
def crc (bytes : List Byte) : BitVec 16 := bytes.foldl crcByte 0xFFFF#16

/-- A whole frame: sync, length, tag, code, body, and the CRC high byte first (11, "The frame"). -/
def encodeFrame (tag code : Byte) (body : List Byte) : List Byte :=
  let covered := Config.syncByte :: BitVec.ofNat 8 body.length :: tag :: code :: body
  covered ++ bigEndian 2 (crc covered).toNat

/-- Whether a received frame's last two bytes are the CRC of the bytes before them (R190). -/
def frameMatches (frame : List Byte) : Bool :=
  let covered := frame.take (frame.length - 2)
  frame.drop (frame.length - 2) == bigEndian 2 (crc covered).toNat

/-! ### Fields of a request's body -/

/-- The `width` bytes of a body from `offset` on, as a number. -/
def fieldAt (body : List Byte) (offset width : Nat) : Nat :=
  readBigEndian ((body.drop offset).take width)

/-- The `count` order line entries of a body from `offset` on, 6 bytes each (11). -/
def lineEntriesAt (body : List Byte) (offset : Nat) : Nat → List LineSpec
  | 0 => []
  | count + 1 =>
    ⟨fieldAt body offset 1, fieldAt body (offset + 1) 1, fieldAt body (offset + 2) 2,
      fieldAt body (offset + 4) 1, fieldAt body (offset + 5) 1⟩ :: lineEntriesAt body (offset + 6) count

/-- The `count` curve points of a body from `offset` on, 6 bytes each (11). -/
def curvePointsAt (body : List Byte) (offset : Nat) : Nat → List CurvePoint
  | 0 => []
  | count + 1 =>
    ⟨fieldAt body offset 2, fieldAt body (offset + 2) 4⟩ :: curvePointsAt body (offset + 6) count

/-- Whether a byte is a printable character (R191). -/
def printable (b : Byte) : Bool := 0x20 ≤ b.toNat && b.toNat ≤ 0x7E

/-- Whether a value lies within a range. -/
def within (low high x : Nat) : Bool := low ≤ x && x ≤ high

end Sys2Proof.Machine
end

