-- ==== Sys2Proof/Machine/Flags.lean ====
section
/-!
DEFINITION. The flag computations: line flags, hold-cause sets, saturating statistics, the standing of lines and arms,
notice levels, and the rounding the spec prescribes.
-/

namespace Sys2Proof.Machine

/-! ### Bits of the wire -/

/-- A bit at a place of a wire field. -/
def bitAt (b : Bool) (place : Nat) : Nat := if b then 2 ^ place else 0

/-- Line flag bits (11). -/
def LineFlags.bits (f : LineFlags) : Nat :=
  bitAt f.overrun 0 + bitAt f.singleChannel 1 + bitAt f.tempHeld 2 + bitAt f.trial 3 + bitAt f.standbyUsed 4
    + bitAt f.doseDeviation 5 + bitAt f.leak 6 + bitAt f.estop 7 + bitAt f.suspendTimeout 8 + bitAt f.cancel 9

/-- Hold-cause set bits (11). -/
def HoldSet.bits (h : HoldSet) : Nat :=
  bitAt h.operator 0 + bitAt h.noFlow 1 + bitAt h.pulse 2 + bitAt h.terminal 3 + bitAt h.ground 4
    + bitAt h.overfill 5 + bitAt h.deadman 6 + bitAt h.probe 7 + bitAt h.additive 8

/-! ### Hold-cause sets (R103) -/

/-- Whether the set holds a cause. -/
def HoldSet.has (h : HoldSet) : HoldCause → Bool
  | .operator => h.operator
  | .noFlow => h.noFlow
  | .pulse => h.pulse
  | .terminal => h.terminal
  | .ground => h.ground
  | .overfill => h.overfill
  | .deadman => h.deadman
  | .probe => h.probe
  | .additive => h.additive

/-- The set with a cause in it or out of it. -/
def HoldSet.put (h : HoldSet) (v : Bool) : HoldCause → HoldSet
  | .operator => { h with operator := v }
  | .noFlow => { h with noFlow := v }
  | .pulse => { h with pulse := v }
  | .terminal => { h with terminal := v }
  | .ground => { h with ground := v }
  | .overfill => { h with overfill := v }
  | .deadman => { h with deadman := v }
  | .probe => { h with probe := v }
  | .additive => { h with additive := v }

/-- Whether the set holds TERMINAL or a self-clearing cause, which RESUME ARM may not clear (R109). -/
def HoldSet.blocksResume (h : HoldSet) : Bool :=
  h.terminal || h.ground || h.overfill || h.deadman || h.probe || h.additive

/-! ### Standing of lines and arms -/

/-- The flowing states (05, "The arm record"). -/
def ArmState.flowing : ArmState → Bool
  | .lowStart => true
  | .fullFlow => true
  | .topOff => true
  | _ => false

def Line.isWaiting (l : Line) : Bool := l.state == .waiting
def Line.isEnded (l : Line) : Bool := l.state == .ended
/-- ACTIVE, running or ending. -/
def Line.isActive (l : Line) : Bool :=
  match l.state with
  | .active _ => true
  | _ => false
/-- ACTIVE with no result (02, "Line states and results"). -/
def Line.isRunning (l : Line) : Bool := l.isActive && l.result.isNone
/-- ACTIVE with its result recorded. -/
def Line.isEnding (l : Line) : Bool := l.isActive && l.result.isSome

/-- The line state code: 1 WAITING, 2 running, 3 ending, 4 ENDED (11). -/
def Line.stateCode (l : Line) : Nat :=
  match l.state with
  | .waiting => 1
  | .active _ => if l.result.isNone then 2 else 3
  | .ended => 4

/-- The arm an ACTIVE line is active on. -/
def Line.arm (l : Line) : Option (Fin 6) :=
  match l.state with
  | .active a => some a
  | _ => none

/-- Delivered: the line's GV in mL on GROSS basis, its GSV in mL on STANDARD basis (05, "Staging and preset"). -/
def Line.delivered (l : Line) : Nat :=
  match l.basis with
  | .gross => l.record.gv
  | .standard => l.record.gsv

/-- The remaining quantity in mL, which may be negative (05). -/
def Line.remaining (l : Line) : Int := (l.preset * 1000 : Int) - l.delivered

/-! ### Saturating and bounded counts -/

/-- A 16-bit count one higher, saturating at 65,535 (R57, R91, R143). -/
def bump16 (n : Nat) : Nat := if n < Config.maxCount16 then n + 1 else Config.maxCount16

/-- A 32-bit count at an exact sum. Above its range the spec states no value: a free value (notes/assumptions/11.md). -/
def count32 (sum : Nat) : Nat :=
  if sum ≤ Config.maxCount32 then sum else (Config.countBeyond sum).toNat

/-! ### Rounding -/

/-- Rounded to nearest, halves up (04, opening). -/
def roundHalfUp (num : Int) (den : Nat) : Int := (2 * num + den) / (2 * den)

/-- Rounded to nearest, halves away from zero (04, opening). -/
def roundHalfAway (num : Int) (den : Nat) : Int :=
  if 0 ≤ num then (2 * num + den) / (2 * den) else -((2 * (-num) + den) / (2 * den))

/-- Millilitres as whole litres (R76). -/
def litres (ml : Nat) : Nat := (ml + 500) / 1000

/-- The average temperature of a line in tenths of a degree, absent when GV is 0 (R77). -/
def LineRecord.average (r : LineRecord) : Option Int :=
  if r.gv = 0 then none else some (roundHalfAway r.tsum (r.gv * 10))

/-! ### Notice levels (R185) -/

/-- The level of a kind at a port: its class's level; `none` stands for level E of ESTOP (10, "The notice unit"). -/
def Levels.ofKind (l : Levels) : NoticeKind → Option Nat
  | .estop => none
  | .leak => some l.safety
  | .permissiveLost => some l.safety
  | .lineEnded => some l.batch
  | .lineHeld => some l.batch
  | .startDropped => some l.batch
  | .orderClosed => some l.batch
  | .claimExpired => some l.batch
  | .probeFault => some l.batch
  | .injectorFailed => some l.dosing
  | .doseDeviation => some l.dosing
  | .flowReduced => some l.dosing
  | .noteStored => some l.record
  | .journalNearFull => some l.record
  | .strayFlow => some l.record
  | .deadmanDue => some l.record

/-- Whether a raising of a kind enters the port's pending set; ESTOP always does (10, "The notice unit"). -/
def Port.enabled (p : Port) (k : NoticeKind) : Bool :=
  k == .estop || p.enables.getLsbD (k.code - 1)

/-- Whether a pending notice is deliverable (R185). -/
def Port.deliverable (p : Port) (n : Notice) : Bool :=
  match p.levels.ofKind n.kind with
  | none => true
  | some level => p.inService.all (fun l => level < l)

/-- The attention line: asserted exactly while the pending set holds a deliverable notice (R185). -/
def Port.attention (p : Port) : Bool := p.notices.any p.deliverable

end Sys2Proof.Machine
end

