-- ==== Sys2Proof/Machine/Ops.lean ====
section
/-!
DEFINITION. The named operations every family shares: reading and changing parts of the state, raising notices,
answering a port, raising and clearing hold causes, the deadman timer, finding permits and orders, and the outputs the
spec drives from other state.
-/

namespace Sys2Proof.Machine

/-! ### Parts of the state -/

/-- The current bay time (R4). -/
def State.now (s : State) : BayTime := ⟨s.clock.day, s.clock.second⟩

def State.arm (s : State) (a : Fin 6) : Arm := s.arms.get a

def State.modifyArm (s : State) (a : Fin 6) (f : Arm → Arm) : State :=
  { s with arms := s.arms.modify a f }

def State.injector (s : State) (i : Fin 8) : Injector := s.injectors.get i

def State.modifyInjector (s : State) (i : Fin 8) (f : Injector → Injector) : State :=
  { s with injectors := s.injectors.modify i f }

def State.meterStore (s : State) (a : Fin 6) : MeterStore := s.store.meters.get a

def State.modifyMeterStore (s : State) (a : Fin 6) (f : MeterStore → MeterStore) : State :=
  { s with store := { s.store with meters := s.store.meters.modify a f } }

def State.injectorStore (s : State) (i : Fin 8) : InjectorStore := s.store.injectors.get i

def State.modifyInjectorStore (s : State) (i : Fin 8) (f : InjectorStore → InjectorStore) : State :=
  { s with store := { s.store with injectors := s.store.injectors.modify i f } }

def State.order (s : State) (slot : Fin 24) : Option Order := s.orders.get slot

def State.setOrder (s : State) (slot : Fin 24) (o : Option Order) : State :=
  { s with orders := s.orders.set slot o }

/-- Change the order in a slot; a FREE slot stays FREE. -/
def State.modifyOrder (s : State) (slot : Fin 24) (f : Order → Order) : State :=
  { s with orders := s.orders.modify slot (Option.map f) }

/-- Line `k` of an order, counted from 1. -/
def Order.line? (o : Order) (k : Nat) : Option Line :=
  if k = 0 then none else o.lines[k - 1]?

def State.lineAt (s : State) (ref : LineRef) : Option Line :=
  (s.order ref.slot).bind (fun o => o.line? ref.line)

/-- Change one line of one order. -/
def State.modifyLine (s : State) (ref : LineRef) (f : Line → Line) : State :=
  s.modifyOrder ref.slot (fun o => { o with lines := o.lines.modify (ref.line - 1) f })

/-- The line active on an arm. -/
def State.activeLine (s : State) (a : Fin 6) : Option Line :=
  (s.arm a).active.bind s.lineAt

/-- Change the line active on an arm. -/
def State.modifyActiveLine (s : State) (a : Fin 6) (f : Line → Line) : State :=
  match (s.arm a).active with
  | some ref => s.modifyLine ref f
  | none => s

/-- Whether the line active on an arm is running (02, "Line states and results"). -/
def State.running (s : State) (a : Fin 6) : Bool :=
  match s.activeLine a with
  | some l => l.isRunning
  | none => false

def State.port (s : State) : PortId → Port
  | .terminal => s.terminal
  | .console => s.console

def State.modifyPort (s : State) (p : PortId) (f : Port → Port) : State :=
  match p with
  | .terminal => { s with terminal := f s.terminal }
  | .console => { s with console := f s.console }

def State.modifyDeadman (s : State) (f : Deadman → Deadman) : State :=
  { s with bay := { s.bay with deadman := f s.bay.deadman } }

def State.permissive (s : State) : Permissive → PermissiveInput
  | .ground => s.bay.ground
  | .overfill => s.bay.overfill

def State.modifyPermissive (s : State) (i : Permissive) (f : PermissiveInput → PermissiveInput) : State :=
  match i with
  | .ground => { s with bay := { s.bay with ground := f s.bay.ground } }
  | .overfill => { s with bay := { s.bay with overfill := f s.bay.overfill } }

/-- The six arms in ascending order. -/
def armList : List (Fin 6) := [0, 1, 2, 3, 4, 5]

/-- Act on every arm in ascending order. -/
def State.forArms (s : State) (f : Fin 6 → State → State) : State :=
  armList.foldl (fun t a => f a t) s

/-! ### Finding permits and orders -/

/-- The entry that holds a permit of this number (01, "The permit table"). -/
def State.findPermit (s : State) (num : Nat) : Option (Fin 200) :=
  s.permits.find? (fun e => match e with | some p => p.number == num | none => false)

/-- The permit of this number. -/
def State.permitNumbered (s : State) (num : Nat) : Option Permit :=
  (s.findPermit num).bind s.permits.get

/-- The slot that holds an order of this number (02, "The order table"). -/
def State.findOrder (s : State) (num : Nat) : Option (Fin 24) :=
  s.orders.find? (fun e => match e with | some o => o.number == num | none => false)

/-- A permit is expired when the day number is greater than its expiry day (R6). -/
def Permit.expired (p : Permit) (day : Nat) : Bool := p.expiry < day

/-- An order that holds a journal reservation (R28). -/
def Order.reserves (o : Order) : Bool :=
  match o.state with
  | .posted => false
  | .claimed => true
  | .loading => true
  | .closing => true

/-- The reservation count: the orders in CLAIMED, LOADING or CLOSING (R28). -/
def State.reservations (s : State) : Nat :=
  s.orders.count (fun e => match e with | some o => o.reserves | none => false)

def JournalSlot.isEmpty : JournalSlot → Bool
  | .empty => true
  | _ => false

def JournalSlot.isStored : JournalSlot → Bool
  | .stored _ => true
  | _ => false

def JournalSlot.isCollected : JournalSlot → Bool
  | .collected _ => true
  | _ => false

/-- The stored count: the number of STORED slots (R160). -/
def State.storedCount (s : State) : Nat := s.journal.slots.count JournalSlot.isStored

/-! ### Outputs and roles read from the state -/

/-- The LOW output of an arm (R80). -/
def Arm.low (a : Arm) : Bool := a.state.flowing

/-- The FULL output of an arm (R80). -/
def Arm.full (a : Arm) : Bool := a.state == .fullFlow && !a.reducedFlow

/-- The solenoid output of an injector: on exactly while it is in SHOT (R124). -/
def Injector.solenoid (i : Injector) : Bool := i.window.isSome

/-- An injector's role (R124). -/
inductive Role where
  | unassigned
  | primary (arm : Fin 6) (position : Fin 2)
  | standby (primary : Fin 8)
deriving DecidableEq, Repr

def positionList : List (Fin 2) := [0, 1]
def injectorList : List (Fin 8) := [0, 1, 2, 3, 4, 5, 6, 7]

/-- The arm and position that hold an injector. -/
def State.positionOf (s : State) (i : Fin 8) : Option (Fin 6 × Fin 2) :=
  armList.findSome? (fun a =>
    (positionList.find? (fun p => (s.arm a).setup.positions.get p == some i)).map (fun p => (a, p)))

/-- The injector whose standby this is. -/
def State.primaryOf (s : State) (i : Fin 8) : Option (Fin 8) :=
  injectorList.find? (fun j => (s.injector j).standby == some i)

/-- An injector's role, as the arm setups and the standbys give it (R124). -/
def State.role (s : State) (i : Fin 8) : Role :=
  match s.positionOf i with
  | some (a, p) => .primary a p
  | none =>
    match s.primaryOf i with
    | some j => .standby j
    | none => .unassigned

/-- The engaged injector of an arm: the one in the engaged position of its open dosing record (R124). -/
def Arm.engaged (a : Arm) : Option (Fin 8) :=
  a.dosing.bind (fun r => a.setup.positions.get r.position)

/-- The arm whose open dosing record engages an injector. -/
def State.engagedBy (s : State) (i : Fin 8) : Option (Fin 6) :=
  armList.find? (fun a => (s.arm a).engaged == some i)

/-! ### Notices (R184) -/

/-- A raising at one port: absorbed when the kind is disabled there or the pair is already pending (R184). -/
def Port.raise (k : NoticeKind) (subject : Nat) (time : BayTime) (p : Port) : Port :=
  if p.enabled k && !p.notices.any (fun n => n.kind == k && n.subject == subject) then
    { p with notices := p.notices ++ [⟨k, subject, time⟩] }
  else p

/-- Raise a notice on both ports at the current bay time (R184). Subject 0 stands for none. -/
def State.raise (s : State) (k : NoticeKind) (subject : Nat) : State :=
  { s with terminal := s.terminal.raise k subject s.now, console := s.console.raise k subject s.now }

/-! ### Answering a port (R178, R179, R190) -/

/-- The port controller returns to hunting with an empty receive buffer (R177). -/
def Port.hunt (p : Port) : Port := { p with receive := [], gapTimer := none }

/-- A reply frame to a request of this tag and code. -/
def replyFrame (tag code : Byte) (body : List Byte) : Transmission := ⟨encodeFrame tag code body, false⟩

/-- The PORT_BUSY reply owed for a request of this tag and code (R179). -/
def portBusyFrame (tag code : Byte) : Transmission := ⟨encodeFrame tag code [ReplyCode.portBusy.byte], true⟩

/-- Compose a reply and send it at once (R178). -/
def State.send (s : State) (p : PortId) (tag code : Byte) (body : List Byte) : State :=
  s.modifyPort p (fun x => { x with transmit := some (replyFrame tag code body) })

/-- A valid frame that completes while the transmitter is busy: owe one PORT_BUSY, or discard the frame (R179). -/
def Port.busyFrame (tag code : Byte) (p : Port) : Port :=
  match p.transmit with
  | none => p
  | some t => if t.portBusy || p.owed.isSome then p else { p with owed := some (tag, code) }

/-- A request's judgement: the state after it, and the reply's body. -/
abbrev Answer := State × List Byte

/-- A refused request: nothing changes, and the body is the reply code alone (R178). -/
def State.refuse (s : State) (c : ReplyCode) : Answer := (s, [c.byte])

/-- A request answered OK with content. -/
def State.ok (s : State) (content : List Byte) : Answer := (s, ReplyCode.ok.byte :: content)

/-- Whether the request code may come from this port (R178, "The request catalogue"). -/
inductive Senders where
  | terminalOnly
  | consoleOnly
  | either
deriving DecidableEq, Repr

def Senders.permits : Senders → PortId → Bool
  | .terminalOnly, .terminal => true
  | .terminalOnly, .console => false
  | .consoleOnly, .terminal => false
  | .consoleOnly, .console => true
  | .either, _ => true

/-- A valid frame completes on a port: it is ignored after the power-fail save (R172), owed PORT_BUSY or discarded
while the transmitter is busy (R179), refused NOT_PERMITTED on the wrong port, and else judged and answered at the
same event (R178). -/
def State.frame (s : State) (p : PortId) (tag code : Byte) (who : Senders) (judge : State → Answer) : State :=
  let s := s.modifyPort p Port.hunt
  if s.bay.saved then s
  else if (s.port p).transmit.isSome then s.modifyPort p (Port.busyFrame tag code)
  else if who.permits p then
    let r := judge s
    r.1.send p tag code r.2
  else s.send p tag code [ReplyCode.notPermitted.byte]

/-- A request's checks, in order: refuse with the code of the first that fails, else act (R178). -/
def State.checked (s : State) (checks : List (Bool × ReplyCode)) (act : Answer) : Answer :=
  match checks.find? (fun c => c.1) with
  | some c => s.refuse c.2
  | none => act

/-! ### Deadman timer (R116) -/

/-- Whether any arm is in a flowing state. -/
def State.anyFlowing (s : State) : Bool := s.arms.entries.any (fun a => a.state.flowing)

/-- The deadman timer restarts from 0 with the warning-given item set to no (R116). -/
def State.restartDeadman (s : State) : State :=
  s.modifyDeadman (fun d => { d with elapsed := some 0, warned := false })

/-- The deadman timer stops when no arm remains in a flowing state (R116). -/
def State.settleDeadman (s : State) : State :=
  if s.anyFlowing then s else s.modifyDeadman (fun d => { d with elapsed := none })

/-! ### Timers and their expiries (notes/assumptions/3.md) -/

/-- A timer that runs and has come to 0. -/
def runOut (timer : Option Nat) : Bool := timer == some 0

/-- Whether the timer of an expiry command shows that it has run out. -/
def State.ranOut (s : State) : Instr → Bool
  | .clockAdvance => s.clock.timer == 0
  | .gateTimeout => s.gate.timer == 0
  | .meteringSample a => (s.arm a).sampleTimer == 0
  | .noFlowTimeout a => runOut (s.arm a).noFlowTimer
  | .suspendTimeout a => runOut (s.arm a).suspendTimer
  | .claimTimeout slot => runOut ((s.order slot).bind Order.claimTimer)
  | .idleOrderTimeout slot => runOut ((s.order slot).bind Order.idleTimer)
  | .verifyWindowExpiry i => runOut (s.injector i).window
  | .permissiveRestored i => runOut (s.permissive i).timer
  | .estopReleaseTimeout => runOut s.bay.stop.timer
  | .deadmanWarning => s.bay.deadman.elapsed == some Config.deadmanWarning
  | .deadmanExpiry => s.bay.deadman.elapsed == some Config.deadmanLimit
  | .frameGapTimeout p => runOut (s.port p).gapTimer
  | _ => false

/-- A timer's expiry is taken. One that the last millisecond queued has its effect only while its timer still shows that it
has run out: behind an event that stopped or restarted the timer it does not happen (R3, R52, R63, R87, R113, R120, R145,
R177). One that no millisecond queued is its sender's own, and has its effect (notes/assumptions/3.md). -/
def State.expiry (s : State) (c : Instr) (act : State → State) : State :=
  if c ∈ s.due then
    let taken := { s with due := s.due.filter (fun i => i ≠ c) }
    if s.ranOut c then act taken else taken
  else act s

/-! ### Hold causes (R90, R105, R106) -/

/-- The close command for a hold (R90). -/
def Arm.closeForHold (a : Arm) : Arm :=
  { a with state := .closing, reason := some .hold, zeroRun := 0, closeCount := 0, noFlowTimer := none }

/-- A cause is raised for an arm: recorded when the arm carries an active line, closing a flowing arm for a hold
(R104, R105). -/
def State.raiseHold (s : State) (a : Fin 6) (c : HoldCause) : State :=
  let arm := s.arm a
  if arm.active.isNone || arm.holds.has c then s
  else
    let held := s.modifyArm a (fun x => { x with holds := x.holds.put true c })
    if arm.state.flowing then (held.modifyArm a Arm.closeForHold).settleDeadman else held

/-- A cause is cleared from an arm's set; the arm does not move (R106). -/
def State.clearHold (s : State) (a : Fin 6) (c : HoldCause) : State :=
  s.modifyArm a (fun x => { x with holds := x.holds.put false c })

/-! ### Claims and queued starts -/

/-- The claim of the permit of this number becomes none (R7). -/
def State.endClaim (s : State) (num : Option Nat) : State :=
  { s with permits := s.permits.map (Option.map (fun p => if num = some p.number then { p with claim := none } else p)) }

/-- A CLAIMED order returns to POSTED: claiming permit, claiming tanker and claim time absent, claim timer stopped
(R10, R29, R30). -/
def Order.unclaim (o : Order) : Order :=
  { o with state := .posted, claimPermit := none, claimTanker := none, claimTime := none, claimTimer := none }

/-- The claim of a CLAIMED order is withdrawn on both sides (R7). -/
def State.withdrawClaim (s : State) (slot : Fin 24) : State :=
  match s.order slot with
  | some o => (s.modifyOrder slot Order.unclaim).endClaim o.claimPermit
  | none => s

/-- Remove an arm's queued start, if it holds one, raising START_DROPPED (R83). -/
def State.dropQueued (s : State) (a : Fin 6) : State :=
  if (s.arm a).queued.isSome then
    (s.modifyArm a (fun x => { x with queued := none })).raise .startDropped (number a)
  else s

/-- Remove every queued start that names an order, raising START_DROPPED for each arm concerned (R83). -/
def State.dropQueuedOf (s : State) (num : Nat) : State :=
  s.forArms (fun a t =>
    match (t.arm a).queued with
    | some q => if q.order = num then t.dropQueued a else t
    | none => t)

/-! ### Totalizers (R155, R156) -/

/-- A volume totalizer advances by millilitres, carrying whole litres and continuing from 0 past its top (R155). -/
def Totalizer.advance (t : Totalizer) (ml : Nat) : Totalizer :=
  ⟨(t.litres + (t.remainder + ml) / 1000) % Config.totalizerWrap, (t.remainder + ml) % 1000⟩

/-- A dosing totalizer advances by one feedback pulse; a pulse of an injector whose Kf is 0 is not totalized (R156). -/
def DosingTotalizer.pulse (t : DosingTotalizer) (kf : Nat) : DosingTotalizer :=
  if kf = 0 then t
  else ⟨(t.millilitres + (t.remainder + 1000000) / kf) % Config.totalizerWrap, (t.remainder + 1000000) % kf⟩

end Sys2Proof.Machine
end

