-- ==== Sys2Proof/Machine/Journal.lean ====
section
/-!
DEFINITION. The note journal (09): composition of a delivery note, and the requests that collect, print, read and list.
-/

namespace Sys2Proof.Machine

/-! ### Composition (R162 to R165) -/

/-- A note's line record from an order line's final record (R163). -/
def noteLine (l : Line) : NoteLine where
  compartment := l.compartment
  product := l.product
  preset := l.preset
  basis := l.basis
  result := l.result
  gvLitres := litres l.record.gv
  gsvLitres := litres l.record.gsv
  average := l.record.average
  additive := l.record.additive
  flags := l.flags
  atStart := l.record.atStart
  atEnd := l.record.atEnd
  counter := l.record.counter

/-- The note of an order (R162). Claiming permit, tanker and time are present in every order that closes with a note;
the zeros stand only in states no run reaches (notes/assumptions/14.md). -/
def noteOf (o : Order) (cause : CloseCause) (seq : Nat) (clock : Clock) : Note where
  sequenceNumber := seq
  order := o.number
  permit := o.claimPermit.getD 0
  carrier := o.carrier
  tanker := o.claimTanker.getD 0
  claimTime := o.claimTime.getD ⟨0, 0⟩
  closeTime := ⟨clock.day, clock.second⟩
  cause := cause
  clockUnset := !clock.isSet
  printed := 0
  lines := o.lines.map noteLine

/-- The note in a slot. -/
def JournalSlot.note? : JournalSlot → Option Note
  | .empty => none
  | .stored n => some n
  | .collected n => some n

/-- The sequence numbers of the notes in the journal. -/
def Journal.sequenceNumbers (j : Journal) : List Nat :=
  j.slots.entries.filterMap (fun e => e.note?.map Note.sequenceNumber)

/-- The number after a sequence number: 1 after 999,999 (R165). -/
def sequenceAfter (n : Nat) : Nat := if 999999 ≤ n then 1 else n + 1

/-- Pass over the numbers carried by notes in the journal (R165). -/
def freshSequence (used : List Nat) : Nat → Nat → Nat
  | 0, n => n
  | fuel + 1, n => if used.contains n then freshSequence used fuel (sequenceAfter n) else n

/-- The sequence number of the next note; at most 48 numbers are passed over (R165). -/
def Journal.nextSequence (j : Journal) : Nat :=
  freshSequence j.sequenceNumbers 48 (sequenceAfter j.lastSequence)

/-- The slot a composition takes: the lowest EMPTY slot, else the COLLECTED slot composed earliest (R164). -/
def Journal.freeSlot (j : Journal) : Option (Fin 48) :=
  match j.slots.find? JournalSlot.isEmpty with
  | some k => some k
  | none => j.composition.find? (fun k => (j.slots.get k).isCollected)

/-- Store a note in a slot, as the latest in the composition order (R164). -/
def Journal.store (j : Journal) (k : Fin 48) (n : Note) : Journal :=
  { j with
    slots := j.slots.set k (.stored n)
    composition := j.composition.filter (fun m => m != k) ++ [k]
    lastSequence := n.sequenceNumber }

/-- Compose the note of an order that closes (R164). By R166 a slot is always free; where none is, in states no run
reaches, the journal is left as it is (notes/assumptions/14.md). -/
def State.compose (s : State) (o : Order) (cause : CloseCause) : State :=
  match s.journal.freeSlot with
  | some k => { s with journal := s.journal.store k (noteOf o cause s.journal.nextSequence s.clock) }
  | none => s

/-! ### Finding a note -/

/-- The slot of the note that carries a sequence number. -/
def Journal.findNote (j : Journal) (seq : Nat) : Option (Fin 48) :=
  j.slots.find? (fun e => match e.note? with | some n => n.sequenceNumber == seq | none => false)

/-- Change the note in a slot, keeping the slot's state. -/
def JournalSlot.mapNote (f : Note → Note) : JournalSlot → JournalSlot
  | .empty => .empty
  | .stored n => .stored (f n)
  | .collected n => .collected (f n)

/-- A slot after COLLECT NOTE (R161). -/
def JournalSlot.collect : JournalSlot → JournalSlot
  | .empty => .empty
  | .stored n => .collected n
  | .collected n => .collected n

def State.setSlots (s : State) (t : Table 48 JournalSlot) : State :=
  { s with journal := { s.journal with slots := t } }

/-- A sequence number outside 1 to 999,999 (R167, R168, R169). -/
def badSequence (seq : Nat) : Bool := !within 1 999999 seq

/-! ### The requests -/

/-- COLLECT NOTE (R167). -/
def collectNote (seq : Nat) (s : State) : Answer :=
  let found := s.journal.findNote seq
  s.checked [(badSequence seq, .badField), (found.isNone, .noSuch),
      ((found.map (fun k => (s.journal.slots.get k).isCollected)).getD false, .wrongState)]
    (match found with
     | some k => (s.setSlots (s.journal.slots.modify k JournalSlot.collect)).ok []
     | none => s.refuse .noSuch)

/-- MARK PRINTED (R168): the printed count saturates at 255. -/
def markPrinted (seq : Nat) (s : State) : Answer :=
  let found := s.journal.findNote seq
  s.checked [(badSequence seq, .badField), (found.isNone, .noSuch)]
    (match found.bind (fun k => ((s.journal.slots.get k).note?).map (fun n => (k, n))) with
     | some (k, n) =>
       let printed := min 255 (n.printed + 1)
       (s.setSlots (s.journal.slots.modify k (JournalSlot.mapNote (fun m => { m with printed := printed })))).ok
         (field 1 printed)
     | none => s.refuse .noSuch)

/-- The header content of READ NOTE part 0 (R192). -/
def noteHeader (n : Note) (slot : Fin 48) (collected : Bool) : List Byte :=
  field 4 n.sequenceNumber ++ field 1 (number slot) ++ field 1 (if collected then 2 else 1) ++ field 4 n.order
    ++ field 4 n.permit ++ field 2 n.carrier ++ field 4 n.tanker ++ bayTimeField n.claimTime
    ++ bayTimeField n.closeTime ++ field 1 n.cause.code ++ yesNo n.clockUnset ++ field 1 n.printed
    ++ field 1 n.lines.length

/-- The four totalizer readings and the counter of a started line (R192). -/
def readingsGroup (l : NoteLine) : Option (Readings × Readings × Nat) :=
  match l.atStart, l.atEnd, l.counter with
  | some b, some e, some c => some (b, e, c)
  | _, _, _ => none

/-- The content of READ NOTE parts 1 to 9 (R192). -/
def noteLineContent (n : Note) (part : Nat) (l : NoteLine) : List Byte :=
  field 4 n.sequenceNumber ++ field 1 part ++ field 1 l.compartment ++ field 1 (number l.product) ++ field 2 l.preset
    ++ field 1 l.basis.code ++ field 1 ((l.result.map LineResult.code).getD 0) ++ field 4 l.gvLitres
    ++ field 4 l.gsvLitres ++ field 2 l.flags.bits ++ optionalField 2 (signedField 2) l.average
    ++ optionalField 9 (fun a => field 1 a.additive ++ field 4 a.dosed ++ field 4 a.required) l.additive
    ++ optionalField 26 (fun (r : Readings × Readings × Nat) =>
        totalizerField r.1.gross ++ totalizerField r.1.standard ++ totalizerField r.2.1.gross
          ++ totalizerField r.2.1.standard ++ field 2 r.2.2) (readingsGroup l)

/-- READ NOTE (R169). -/
def readNote (seq part : Nat) (s : State) : Answer :=
  let found := s.journal.findNote seq
  let note := found.bind (fun k => (s.journal.slots.get k).note?)
  s.checked [(badSequence seq || decide (9 < part), .badField),
      (match note with | some n => decide (n.lines.length < part) | none => true, .noSuch)]
    (match found, note with
     | some k, some n =>
       if part = 0 then s.ok (noteHeader n k (s.journal.slots.get k).isCollected)
       else
         match n.lines[part - 1]? with
         | some l => s.ok (noteLineContent n part l)
         | none => s.refuse .noSuch
     | _, _ => s.refuse .noSuch)

/-- The sequence numbers of the STORED notes in composition order (R170). -/
def Journal.storedNumbers (j : Journal) : List Nat :=
  j.composition.filterMap (fun k =>
    match j.slots.get k with
    | .stored n => some n.sequenceNumber
    | _ => none)

/-- LIST NOTES (R170). -/
def listNotes (s : State) : Answer :=
  let numbers := s.journal.storedNumbers
  s.ok (field 1 numbers.length ++ numbers.flatMap (field 4) ++ field 1 s.storedCount
    ++ field 1 (s.journal.slots.count JournalSlot.isCollected) ++ field 1 (s.journal.slots.count JournalSlot.isEmpty)
    ++ field 1 s.reservations ++ field 4 s.journal.lastSequence)

/-- COLLECT_NOTE (R167). -/
def execCollectNote (p : PortId) (tag : Byte) (seq : Nat) (s : State) : Outcome :=
  .next (s.frame p tag 0x32#8 .terminalOnly (collectNote seq))

/-- MARK_PRINTED (R168). -/
def execMarkPrinted (p : PortId) (tag : Byte) (seq : Nat) (s : State) : Outcome :=
  .next (s.frame p tag 0x47#8 .consoleOnly (markPrinted seq))

/-- READ_NOTE (R169). -/
def execReadNote (p : PortId) (tag : Byte) (seq part : Nat) (s : State) : Outcome :=
  .next (s.frame p tag 0x06#8 .either (readNote seq part))

/-- LIST_NOTES (R170). -/
def execListNotes (p : PortId) (tag : Byte) (s : State) : Outcome :=
  .next (s.frame p tag 0x07#8 .either listNotes)

end Sys2Proof.Machine
end

