-- ==== Sys2Proof/Machine/Orders.lean ====
section
/-!
DEFINITION. Load orders (02): the product table and arm setup records, posting and claiming, the close of an order, and
the requests and timeouts that need no arm to act. CANCEL ORDER and READ ORDER, which do, stand in Machine/Arms.lean.
-/

namespace Sys2Proof.Machine

/-! ### The close of an order (R32, R37) -/

/-- A WAITING line becomes ENDED with result NOT_LOADED (R33, R34, R35, R36, R38). -/
def Line.neverStarted (l : Line) : Line :=
  if l.isWaiting then { l with state := .ended, result := some .notLoaded } else l

/-- Every WAITING line of an order becomes ENDED with result NOT_LOADED. -/
def Order.endWaiting (o : Order) : Order := { o with lines := o.lines.map Line.neverStarted }

/-- Steps 1 to 5 of the close of an order: cause and timers, the note, the claim, the queued starts, the slot (R37). -/
def State.closeQuietly (s : State) (slot : Fin 24) (cause : CloseCause) : State :=
  match s.order slot with
  | some o =>
    let closed := { o with closeCause := some cause, claimTimer := none, idleTimer := none }
    (((s.compose closed cause).endClaim o.claimPermit).dropQueuedOf o.number).setOrder slot none
  | none => s

/-- Step 6 of the close: ORDER_CLOSED with the former slot, and NOTE_STORED (R37). -/
def State.announceClose (s : State) (slot : Fin 24) : State :=
  (s.raise .orderClosed (number slot)).raise .noteStored 0

/-- The close of an order (R37). -/
def State.closeOrder (s : State) (slot : Fin 24) (cause : CloseCause) : State :=
  if (s.order slot).isSome then (s.closeQuietly slot cause).announceClose slot else s

/-- The order table judges an order at a line's passage to ENDED (R32). -/
def State.judgeOrder (s : State) (slot : Fin 24) : State :=
  match s.order slot with
  | none => s
  | some o =>
    if o.lines.all Line.isEnded then
      match o.state with
      | .loading => s.closeOrder slot .finished
      | .closing => s.closeOrder slot .cancelled
      | .posted => s
      | .claimed => s
    else if o.lines.any Line.isActive then s
    else if o.state = .loading then
      s.modifyOrder slot (fun x => { x with idleTimer := some Config.idleTimeout })
    else s

/-! ### Products and arm setups -/

/-- Whether some active line meets `p`. -/
def State.anyActiveLine (s : State) (p : Line → Bool) : Bool :=
  s.orders.entries.any (fun e => match e with | some o => o.lines.any (fun l => l.isActive && p l) | none => false)

/-- Whether a product slot is named by an arm setup or an active line (R18). -/
def State.productInUse (s : State) (k : Fin 16) : Bool :=
  s.arms.entries.any (fun a => a.setup.product == some k) || s.anyActiveLine (fun l => l.product == k)

/-- WRITE PRODUCT (R18, R191). -/
def writeProduct (slot nameLength : Nat) (name : List Byte) (cls coefA coefB : Nat) (s : State) : Answer :=
  match indexOf 16 slot with
  | none => s.refuse .badField
  | some k =>
    let changes := match s.products.get k with
      | some q => q.cls != cls || q.coefA != coefA || q.coefB != coefB
      | none => false
    s.checked
      [(decide (16 < nameLength) || !(name.take nameLength).all printable || !within 1 8 cls
          || decide (1500 < coefA) || decide (9999 < coefB), .badField),
       (changes && s.productInUse k, .inUse)]
      (({ s with products := s.products.set k (some ⟨name.take nameLength, cls, coefA, coefB⟩) } : State).ok [])

/-- WRITE ARM SETUP (R20): product 0 stands for none, and the injector positions are kept. -/
def writeArmSetup (arm product lowStart restart topOff overrunLimit : Nat) (s : State) : Answer :=
  match indexOf 6 arm with
  | none => s.refuse .badField
  | some a =>
    let slot := indexOf 16 product
    s.checked
      [(decide (16 < product) || !within 100 1000 lowStart || !within 50 500 restart || !within 50 2000 topOff
          || !within 10 200 overrunLimit, .badField),
       ((slot.map (fun k => (s.products.get k).isNone)).getD false, .noSuch),
       ((s.arm a).state != .idle, .armBusy)]
      ((s.modifyArm a (fun x => { x with setup := ⟨slot, lowStart, restart, topOff, overrunLimit, x.setup.positions⟩ })).ok
        [])

/-! ### Posting and amending (R24, R25) -/

/-- A value occurs once at most. -/
def distinct : List Nat → Bool
  | [] => true
  | x :: rest => !rest.contains x && distinct rest

/-- The BAD_FIELD test of a list of order line entries (R24). -/
def badLines (lines : List LineSpec) : Bool :=
  !within 1 9 lines.length || !distinct (lines.map LineSpec.compartment)
    || lines.any (fun l => !within 1 9 l.compartment || !within 1 16 l.product || !within 100 40000 l.preset
        || (basisOf l.basis).isNone || decide (16 < l.recipe))

/-- The NO_SUCH test of a list of order line entries: an undefined product or recipe slot (R24). -/
def State.undefinedIn (s : State) (lines : List LineSpec) : Bool :=
  lines.any (fun l =>
    ((indexOf 16 l.product).map (fun k => (s.products.get k).isNone)).getD true
      || ((indexOf 16 l.recipe).map (fun k => (s.recipes.get k).isNone)).getD false)

/-- A new line of an order: WAITING, its result absent, its record empty (R24). -/
def newLine (l : LineSpec) : Line where
  compartment := l.compartment
  product := (indexOf 16 l.product).getD 0
  preset := l.preset
  basis := (basisOf l.basis).getD .gross
  recipe := indexOf 16 l.recipe
  state := .waiting
  result := none
  flags := LineFlags.clear
  record := LineRecord.blank

/-- A new order (R24). -/
def newOrder (num permit carrier tanker : Nat) (lines : List LineSpec) : Order where
  number := num
  permit := permit
  carrier := carrier
  tanker := tanker
  lines := lines.map newLine
  state := .posted
  claimPermit := none
  claimTanker := none
  claimTime := none
  closeCause := none
  claimTimer := none
  idleTimer := none

/-- POST ORDER (R24). -/
def postOrder (num permit carrier tanker : Nat) (lines : List LineSpec) (s : State) : Answer :=
  let free := s.orders.find? Option.isNone
  s.checked
    [(free.isNone, .tableFull), ((s.findOrder num).isSome, .inUse),
     (!within 1 99999999 num || decide (99999999 < permit) || !within 1 65535 carrier || decide (999999 < tanker)
        || badLines lines, .badField),
     (s.undefinedIn lines, .noSuch)]
    (match free with
     | some slot => (s.setOrder slot (some (newOrder num permit carrier tanker lines))).ok (field 1 (number slot))
     | none => s.refuse .tableFull)

/-- AMEND ORDER (R25). -/
def amendOrder (num permit tanker : Nat) (lines : List LineSpec) (s : State) : Answer :=
  match (s.findOrder num).bind (fun k => (s.order k).map (fun o => (k, o))) with
  | none => s.refuse .noSuch
  | some (slot, o) =>
    s.checked
      [(o.state != .posted, .inUse),
       (!within 1 99999999 num || decide (99999999 < permit) || decide (999999 < tanker) || badLines lines, .badField),
       (s.undefinedIn lines, .noSuch)]
      (((s.setOrder slot (some { o with permit := permit, tanker := tanker, lines := lines.map newLine })).dropQueuedOf
        num).ok [])

/-! ### Claiming (R26 to R30) -/

/-- Whether a permit may claim an order for a tanker, the PERMIT_MISMATCH check (R26). -/
def permitMismatch (p : Permit) (o : Order) (tanker : Nat) : Bool :=
  (o.permit != 0 && o.permit != p.number) || (o.permit == 0 && o.carrier != p.carrier)
    || (o.tanker != 0 && o.tanker != tanker) || !within 1 999999 tanker

/-- Whether a permit's class set holds a class (11, "Class set"). -/
def Permit.holdsClass (p : Permit) (cls : Nat) : Bool := p.classes.getLsbD (cls - 1)

/-- Whether the class of some line's product is not in the permit's class set (R26). A product slot, once named by a
line, is defined (R17). -/
def State.classMissing (s : State) (p : Permit) (o : Order) : Bool :=
  o.lines.any (fun l => match s.products.get l.product with | some q => !p.holdsClass q.cls | none => true)

/-- The changes of a successful presentation (R27), and JOURNAL_NEAR_FULL where the sum is then 44 or more (R166). -/
def State.claimOrder (s : State) (entry : Fin 200) (slot : Fin 24) (num tanker : Nat) : State :=
  let claimed := s.modifyOrder slot (fun o =>
    { o with
      state := .claimed
      claimPermit := some num
      claimTanker := some tanker
      claimTime := some s.now
      claimTimer := some Config.claimTimeout })
  let bound := { claimed with
    permits := claimed.permits.modify entry (Option.map (fun p =>
      { p with claim := some slot, lastPresented := some s.now })) }
  if 44 ≤ bound.storedCount + bound.reservations then bound.raise .journalNearFull 0 else bound

/-- PRESENT PERMIT (R26, R27). -/
def presentPermit (num tanker order : Nat) (s : State) : Answer :=
  if !s.clock.isSet then s.refuse .timeUnset
  else
    match (s.findPermit num).bind (fun e => (s.permits.get e).map (fun p => (e, p))),
        (s.findOrder order).bind (fun k => (s.order k).map (fun o => (k, o))) with
    | some (e, p), some (slot, o) =>
      s.checked
        [(p.state == .barred, .permitBarred), (p.expired s.clock.day, .permitExpired), (o.state != .posted, .wrongState),
         (p.claim.isSome, .inUse), (permitMismatch p o tanker, .permitMismatch), (s.classMissing p o, .permitClass),
         (decide (48 ≤ s.storedCount + s.reservations), .journalFull)]
        ((s.claimOrder e slot p.number tanker).ok (field 1 (number slot)))
    | _, _ => s.refuse .noSuch

/-- RELEASE CLAIM (R29). -/
def releaseClaim (order : Nat) (s : State) : Answer :=
  match (s.findOrder order).bind (fun k => (s.order k).map (fun o => (k, o))) with
  | none => s.refuse .noSuch
  | some (slot, o) => s.checked [(o.state != .claimed, .wrongState)] ((s.withdrawClaim slot).ok [])

/-- FINISH ORDER (R34). -/
def finishOrder (order : Nat) (s : State) : Answer :=
  match (s.findOrder order).bind (fun k => (s.order k).map (fun o => (k, o))) with
  | none => s.refuse .noSuch
  | some (slot, o) =>
    s.checked [(o.state != .loading, .wrongState), (o.lines.any Line.isActive, .armBusy)]
      (((s.modifyOrder slot Order.endWaiting).closeOrder slot .finished).ok [])

/-! ### The commands -/

/-- WRITE_PRODUCT (R18). -/
def execWriteProduct (p : PortId) (tag : Byte) (slot nameLength : Nat) (name : List Byte) (cls coefA coefB : Nat)
    (s : State) : Outcome :=
  .next (s.frame p tag 0x24#8 .terminalOnly (writeProduct slot nameLength name cls coefA coefB))

/-- WRITE_ARM_SETUP (R20). -/
def execWriteArmSetup (p : PortId) (tag : Byte) (arm product lowStart restart topOff overrunLimit : Nat)
    (s : State) : Outcome :=
  .next (s.frame p tag 0x26#8 .terminalOnly (writeArmSetup arm product lowStart restart topOff overrunLimit))

/-- POST_ORDER (R24). -/
def execPostOrder (p : PortId) (tag : Byte) (num permit carrier tanker : Nat) (lines : List LineSpec)
    (s : State) : Outcome :=
  .next (s.frame p tag 0x2C#8 .terminalOnly (postOrder num permit carrier tanker lines))

/-- AMEND_ORDER (R25). -/
def execAmendOrder (p : PortId) (tag : Byte) (num permit tanker : Nat) (lines : List LineSpec) (s : State) : Outcome :=
  .next (s.frame p tag 0x2D#8 .terminalOnly (amendOrder num permit tanker lines))

/-- PRESENT_PERMIT (R26, R27). -/
def execPresentPermit (p : PortId) (tag : Byte) (permit tanker order : Nat) (s : State) : Outcome :=
  .next (s.frame p tag 0x40#8 .consoleOnly (presentPermit permit tanker order))

/-- RELEASE_CLAIM (R29). -/
def execReleaseClaim (p : PortId) (tag : Byte) (order : Nat) (s : State) : Outcome :=
  .next (s.frame p tag 0x41#8 .consoleOnly (releaseClaim order))

/-- CLAIM_TIMEOUT (R30): acts on a CLAIMED order whose claim timer runs. -/
def execClaimTimeout (slot : Fin 24) (s : State) : Outcome :=
  .next (s.expiry (.claimTimeout slot) (fun t =>
    match t.order slot with
    | some o =>
      if o.state = .claimed ∧ o.claimTimer.isSome then (t.withdrawClaim slot).raise .claimExpired (number slot) else t
    | none => t))

/-- IDLE_ORDER_TIMEOUT (R33): acts on a LOADING order whose idle timer runs. -/
def execIdleOrderTimeout (slot : Fin 24) (s : State) : Outcome :=
  .next (s.expiry (.idleOrderTimeout slot) (fun t =>
    match t.order slot with
    | some o =>
      if o.state = .loading ∧ o.idleTimer.isSome then
        (t.modifyOrder slot Order.endWaiting).closeOrder slot .timedOut
      else t
    | none => t))

/-- FINISH_ORDER (R34). -/
def execFinishOrder (p : PortId) (tag : Byte) (order : Nat) (s : State) : Outcome :=
  .next (s.frame p tag 0x46#8 .consoleOnly (finishOrder order))

end Sys2Proof.Machine
end

