-- ==== Sys2Proof/Machine/Dosing.lean ====
section
/-!
DEFINITION. Additive dosing (07): recipes, injectors, dosing records, shots, verification, retries and takeover.
-/

namespace Sys2Proof.Machine

/-! ### Formulas of a dosing record -/

/-- The interval I in mL from a shot size and a rate (R130). -/
def dosingInterval (shotSize rate : Nat) : Nat := shotSize * 10000 / rate

/-- The shot target in pulses, rounded up, and at least 1 (R130). -/
def shotTarget (shotSize kf : Nat) : Nat := max 1 ((shotSize * kf + 99999999) / 100000000)

/-- One turn of settling: an interval moves from the accumulator into the owed count (R131). -/
def DosingRecord.settleOnce (r : DosingRecord) : DosingRecord :=
  if r.interval ≤ r.accumulator ∧ r.owed < 3 then
    { r with accumulator := r.accumulator - r.interval, owed := r.owed + 1 }
  else r

/-- Settling (R131). Each turn raises the owed count, which stops at 3, so three turns settle a record. -/
def DosingRecord.settle (r : DosingRecord) : DosingRecord := r.settleOnce.settleOnce.settleOnce

/-- The dosed total in mL (R142). -/
def DosingRecord.dosed (r : DosingRecord) : Nat := r.dosedBefore + r.feedback * 1000000 / r.servingKf

/-- The required total in mL, rounded to nearest, halves up (R142). -/
def DosingRecord.required (r : DosingRecord) (gv : Nat) : Nat := (gv * r.rate + 500000) / 1000000

/-- The dose check: outside the recipe's tolerance (R142). -/
def DosingRecord.deviates (r : DosingRecord) (gv : Nat) : Bool :=
  let required := r.required gv
  decide (0 < required) && decide (r.tolerance * required < ((r.dosed : Int) - required).natAbs * 100)

/-- The totals a line record keeps (R142). -/
def DosingRecord.totals (r : DosingRecord) (gv : Nat) : AdditiveTotals := ⟨r.additive, r.dosed, r.required gv⟩

/-- Whether the record keeps its arm's close open: an owed shot or a shot in flight (R91). -/
def DosingRecord.quiet (r : DosingRecord) : Bool := r.owed == 0 && r.shot.isNone

def State.modifyDosing (s : State) (a : Fin 6) (f : DosingRecord → DosingRecord) : State :=
  s.modifyArm a (fun x => { x with dosing := x.dosing.map f })

/-- An IN_SERVICE injector of an additive (R81, R130, R134). -/
def State.serves (s : State) (i : Fin 8) (additive : Nat) : Bool :=
  !(s.injectorStore i).failed && (s.injectorStore i).additive == additive

/-- The lower-numbered position of an arm that holds an IN_SERVICE injector of an additive (R130). -/
def State.positionServing (s : State) (a : Fin 6) (additive : Nat) : Option (Fin 2 × Fin 8) :=
  positionList.findSome? (fun p =>
    ((s.arm a).setup.positions.get p).bind (fun i => if s.serves i additive then some (p, i) else none))

/-! ### Reduced flow and ADDITIVE (R133, R134) -/

/-- The overspeed condition (R134). -/
def DosingRecord.overspeed (r : DosingRecord) : Bool :=
  r.phase == .accruing && r.owed == 3 && decide (r.interval ≤ r.accumulator)

/-- The overspeed condition is judged: ADDITIVE is raised, and the engaged injector's statistic rises (R134). -/
def State.judgeOverspeed (s : State) (a : Fin 6) : State :=
  match (s.arm a).dosing with
  | some r =>
    if r.overspeed && !(s.arm a).holds.additive then
      let counted := match (s.arm a).engaged with
        | some i => s.modifyInjector i (fun x => { x with stats := { x.stats with overspeed := bump16 x.stats.overspeed } })
        | none => s
      counted.raiseHold a .additive
    else s
  | none => s

/-- The reduced-flow flag is judged (R133). -/
def State.judgeReducedFlow (s : State) (a : Fin 6) : State :=
  match (s.arm a).dosing with
  | some r =>
    if r.owed = 0 then s.modifyArm a (fun x => { x with reducedFlow := false })
    else if 2 ≤ r.owed ∧ s.running a ∧ !(s.arm a).reducedFlow then
      (s.modifyArm a (fun x => { x with reducedFlow := true })).raise .flowReduced (number a)
    else s
  | none => s

/-- ADDITIVE's clearing condition is judged (R134). -/
def State.judgeAdditiveClear (s : State) (a : Fin 6) : State :=
  match (s.arm a).dosing, (s.arm a).engaged with
  | some r, some i =>
    if r.owed = 0 ∧ r.accumulator < r.interval ∧ s.serves i r.additive then s.clearHold a .additive else s
  | _, _ => s

/-- The judgements that follow every dosing event, in the order of R132 (R133, R134; notes/assumptions/21.md). -/
def State.judgeDosing (s : State) (a : Fin 6) : State :=
  ((s.judgeOverspeed a).judgeReducedFlow a).judgeAdditiveClear a

/-! ### Shots (R135 to R139) -/

/-- A shot is issued when the engaged injector is IDLE, a shot is owed and the record is not DISENGAGED (R135). -/
def State.issueShot (s : State) (a : Fin 6) : State :=
  match (s.arm a).dosing, (s.arm a).engaged with
  | some r, some i =>
    if r.phase ≠ .disengaged ∧ 0 < r.owed ∧ (s.injector i).window.isNone then
      (s.modifyDosing a (fun x =>
        ({ x with owed := x.owed - 1, shot := some ⟨0, false⟩ } : DosingRecord).settle)).modifyInjector i
          (fun x => { x with window := some Config.verifyWindow })
    else s
  | _, _ => s

/-- A good shot of a record (R136). Where the next owed shot is issued at once, an expiry taken before any time passes is the
stopped window's (R145; notes/assumptions/3.md). -/
def State.shotGood (s : State) (a : Fin 6) (i : Fin 8) (r : DosingRecord) (retry : Bool) : State :=
  let counted := s.modifyInjector i (fun x =>
    { x with
      window := none
      voided := decide (0 < r.owed)
      stats :=
        if retry then { x.stats with goodAfterRetry := bump16 x.stats.goodAfterRetry }
        else { x.stats with firstGood := bump16 x.stats.firstGood } })
  ((counted.modifyDosing a (fun r => { r with budget := 2, shot := none })).issueShot a).judgeDosing a

/-- The arm whose record a failed injector's last pulse still counts to (R145). -/
def State.awaiting (s : State) (i : Fin 8) : Option (Fin 6) :=
  armList.find? (fun a => (s.arm a).dosing.bind DosingRecord.late == some i)

/-- A feedback pulse of the engaged injector of an arm's record (R136). One that counts to a later attempt shows that time
has passed since the good shot (notes/assumptions/3.md). -/
def State.feedbackPulse (s : State) (a : Fin 6) (i : Fin 8) : State :=
  let counted := s.modifyDosing a (fun r =>
    { r with feedback := r.feedback + 1, shot := r.shot.map (fun x => { x with feedback := x.feedback + 1 }) })
  match (counted.arm a).dosing with
  | some r =>
    match r.shot with
    | some shot =>
      if r.target ≤ shot.feedback then counted.shotGood a i r shot.retry
      else counted.modifyInjector i (fun x => { x with voided := false })
    | none => counted
  | none => counted

/-- A standby takes over the record of its failed primary (R138). -/
def State.takeOver (s : State) (a : Fin 6) (r : DosingRecord) (j standby : Fin 8) : State :=
  let cal := s.injectorStore standby
  let placed := (s.modifyInjector j (fun x => { x with standby := none })).modifyArm a (fun x =>
    { x with
      setup := { x.setup with positions := x.setup.positions.set r.position (some standby) }
      dosing := some ({ r with
        dosedBefore := r.dosedBefore + r.feedback * 1000000 / r.servingKf
        feedback := 0
        serving := standby
        servingKf := cal.kFactor
        interval := dosingInterval cal.shotSize r.rate
        target := shotTarget cal.shotSize cal.kFactor
        budget := 2
        shot := none } : DosingRecord).settle })
  ((placed.modifyActiveLine a (fun l => { l with flags := { l.flags with standbyUsed := true } })).issueShot a).judgeDosing a

/-- A record with no standby enters DISENGAGED and raises ADDITIVE (R139). -/
def State.disengage (s : State) (a : Fin 6) (r : DosingRecord) : State :=
  ((s.modifyArm a (fun x =>
    { x with
      setup := { x.setup with positions := x.setup.positions.set r.position none }
      dosing := some { r with phase := .disengaged, owed := 0, accumulator := 0, shot := none } })).raiseHold a
        .additive).judgeReducedFlow a

/-- The injector whose failed attempt lacks one pulse of its target: that pulse may be the one that meets the expiry (R145). -/
def DosingRecord.lateFor (r : DosingRecord) (j : Fin 8) : Option (Fin 8) :=
  r.shot.bind (fun x => if r.target ≤ x.feedback + 1 then some j else none)

/-- The third failed attempt at a shot: the injector fails (R137), and its standby takes over or the record is
disengaged (R138, R139). The pulse that the attempt lacked may still count to F (R145). -/
def State.injectorFails (s : State) (a : Fin 6) (r : DosingRecord) (j : Fin 8) : State :=
  let standby := (s.injector j).standby
  let failed := ((s.modifyInjector j (fun x =>
      { x with window := none, stats := { x.stats with failed := bump16 x.stats.failed } })).modifyInjectorStore j
        (fun x => { x with failed := true })).raise .injectorFailed (number j)
  let record := { r with late := r.lateFor j }
  match standby with
  | some i => failed.takeOver a record j i
  | none => failed.disengage a record

/-- A failed attempt with retry budget left: a fresh attempt at the same shot (R137). -/
def State.retryShot (s : State) (a : Fin 6) (j : Fin 8) : State :=
  ((s.modifyDosing a (fun r => { r with budget := r.budget - 1, shot := some ⟨0, true⟩ })).modifyInjector j (fun x =>
    { x with window := some Config.verifyWindow })).judgeDosing a

/-- A verify window expires (R137): it acts while the injector's window runs for a shot in flight. An expiry behind the pulse
that made its shot good does not happen, its window having stopped (R145; notes/assumptions/3.md). -/
def State.windowExpires (s : State) (i : Fin 8) : State :=
  if (s.injector i).voided then s.modifyInjector i (fun x => { x with voided := false })
  else
    match s.engagedBy i with
    | none => s
    | some a =>
      match (s.arm a).dosing with
      | none => s
      | some r =>
        if (s.injector i).window.isSome ∧ r.shot.isSome then
          if 0 < r.budget then s.retryShot a i else s.injectorFails a r i
        else s

/-! ### The dosing of a line (R130, R132, R140 to R142) -/

/-- Open a line's dosing record (R130). -/
def State.openDosing (s : State) (a : Fin 6) (recipe : Option (Fin 16)) : State :=
  match recipe.bind s.recipes.get with
  | none => s
  | some rec =>
    match s.positionServing a rec.additive with
    | none => s
    | some (p, i) =>
      let cal := s.injectorStore i
      s.modifyArm a (fun x =>
        { x with
          dosing := some
            { phase := .accruing, position := p, serving := i, servingKf := cal.kFactor, additive := rec.additive,
              rate := rec.rate, tolerance := rec.tolerance, interval := dosingInterval cal.shotSize rec.rate,
              target := shotTarget cal.shotSize cal.kFactor, accumulator := 0, owed := 0, budget := 2, shot := none,
              feedback := 0, dosedBefore := 0, late := none } })

/-- Serve a line's dosing record at a line sample (R132). -/
def State.serveDosing (s : State) (a : Fin 6) (dgv : Nat) : State :=
  if (s.arm a).dosing.isSome then
    ((s.modifyDosing a (fun r =>
      if r.phase = .accruing then ({ r with accumulator := r.accumulator + dgv } : DosingRecord).settle
      else r)).issueShot a).judgeDosing a
  else s

/-- The final-shot decision (R140). -/
def DosingRecord.finish (r : DosingRecord) : DosingRecord :=
  { r with
    owed := if r.owed < 3 ∧ r.interval ≤ r.accumulator * 2 then r.owed + 1 else r.owed
    accumulator := 0
    phase := .finishing }

/-- The dosing unit is told of a close command for a line end (R140). -/
def State.finishDosing (s : State) (a : Fin 6) : State :=
  match (s.arm a).dosing with
  | some r =>
    if r.phase = .accruing then
      ((s.modifyArm a (fun x => { x with dosing := some r.finish, reducedFlow := false })).issueShot a).judgeDosing a
    else s
  | none => s

/-- A record's owed shots and shot in flight are abandoned (R141). -/
def State.abandonDosing (s : State) (a : Fin 6) : State :=
  match (s.arm a).dosing with
  | some r =>
    let idle := match (s.arm a).engaged with
      | some i => s.modifyInjector i (fun x => { x with window := none })
      | none => s
    idle.modifyDosing a (fun _ => { r with owed := 0, shot := none })
  | none => s

/-- What the emergency stop does to a record: its shots are abandoned, and an ACCRUING record enters FINISHING with
D 0 and the reduced-flow flag cleared (R141). -/
def State.stopDosing (s : State) (a : Fin 6) : State :=
  let t := s.abandonDosing a
  match (t.arm a).dosing with
  | some r =>
    if r.phase = .accruing then
      t.modifyArm a (fun x =>
        { x with dosing := some { r with phase := .finishing, accumulator := 0 }, reducedFlow := false })
    else t
  | none => t

/-- Fix a line's additive quantities and discard its record (R142). `quiet` raises no notice (the power-fail save). -/
def State.fixDosing (s : State) (a : Fin 6) (quiet : Bool) : State :=
  match (s.arm a).dosing with
  | none => s
  | some r =>
    let gv := ((s.activeLine a).map (fun l => l.record.gv)).getD 0
    let idle := match (s.arm a).engaged with
      | some i => s.modifyInjector i (fun x => { x with window := none })
      | none => s
    let fixed := (idle.modifyActiveLine a (fun l =>
      { l with
        flags := { l.flags with doseDeviation := l.flags.doseDeviation || r.deviates gv }
        record := { l.record with additive := some (r.totals gv) } })).modifyArm a (fun x =>
          { x with dosing := none, reducedFlow := false })
    if r.deviates gv && !quiet then fixed.raise .doseDeviation (number a) else fixed

/-! ### The requests -/

/-- Whether some ACTIVE line names a recipe slot (R122). -/
def State.recipeInUse (s : State) (k : Fin 16) : Bool := s.anyActiveLine (fun l => l.recipe == some k)

/-- WRITE RECIPE (R122). -/
def writeRecipe (slot additive rate tolerance : Nat) (s : State) : Answer :=
  match indexOf 16 slot with
  | none => s.refuse .badField
  | some k =>
    let changes := match s.recipes.get k with
      | some r => r != ⟨additive, rate, tolerance⟩
      | none => false
    s.checked
      [(!within 1 255 additive || !within 10 2500 rate || !within 1 25 tolerance, .badField),
       (changes && s.recipeInUse k, .inUse)]
      (({ s with recipes := s.recipes.set k (some ⟨additive, rate, tolerance⟩) } : State).ok [])

/-- Put an injector into a position of an arm, or empty it. -/
def State.setPosition (s : State) (a : Fin 6) (p : Fin 2) (i : Option (Fin 8)) : State :=
  s.modifyArm a (fun x => { x with setup := { x.setup with positions := x.setup.positions.set p i } })

/-- ASSIGN INJECTOR (R125). -/
def assignInjector (arm position injector : Nat) (s : State) : Answer :=
  match indexOf 6 arm, indexOf 2 position, indexOf 8 injector with
  | some a, some p, some i =>
    s.checked
      [((s.arm a).state != .idle, .armBusy),
       (((s.arm a).setup.positions.get p).isSome || s.role i != .unassigned, .inUse),
       ((s.injectorStore i).failed, .wrongState)]
      (((s.setPosition a p (some i)).modifyInjector i (fun x => { x with standby := none })).ok [])
  | _, _, _ => s.refuse .badField

/-- REMOVE INJECTOR (R126): a standby pair is dissolved. -/
def removeInjector (arm position : Nat) (s : State) : Answer :=
  match indexOf 6 arm, indexOf 2 position with
  | some a, some p =>
    let held := (s.arm a).setup.positions.get p
    s.checked [((s.arm a).state != .idle, .armBusy), (held.isNone, .noSuch)]
      (match held with
       | some i => ((s.setPosition a p none).modifyInjector i (fun x => { x with standby := none })).ok []
       | none => s.refuse .noSuch)
  | _, _ => s.refuse .badField

/-- Whether an injector's role is PRIMARY. -/
def Role.isPrimary : Role → Bool
  | .primary _ _ => true
  | _ => false

/-- ASSIGN STANDBY (R127). -/
def assignStandby (primary standby : Nat) (s : State) : Answer :=
  match indexOf 8 primary, indexOf 8 standby with
  | some j, some i =>
    s.checked
      [(j == i, .badField), ((s.injectorStore i).failed || !(s.role j).isPrimary, .wrongState),
       (s.role i != .unassigned || (s.injector j).standby.isSome, .inUse),
       ((s.injectorStore j).additive != (s.injectorStore i).additive, .badField)]
      ((s.modifyInjector j (fun x => { x with standby := some i })).ok [])
  | _, _ => s.refuse .badField

/-- RELEASE STANDBY (R128). -/
def releaseStandby (injector : Nat) (s : State) : Answer :=
  match indexOf 8 injector with
  | none => s.refuse .badField
  | some i =>
    match s.role i with
    | .standby j => (s.modifyInjector j (fun x => { x with standby := none })).ok []
    | .primary _ _ => s.refuse .wrongState
    | .unassigned => s.refuse .wrongState

/-- RETURN INJECTOR (R129). -/
def returnInjector (injector : Nat) (s : State) : Answer :=
  match indexOf 8 injector with
  | none => s.refuse .badField
  | some i =>
    s.checked [(!(s.injectorStore i).failed, .wrongState)]
      ((s.modifyInjectorStore i (fun x => { x with failed := false })).ok [])

/-- The code of a role (11). -/
def Role.code : Role → Nat
  | .unassigned => 1
  | .primary _ _ => 2
  | .standby _ => 3

/-- The order number of the line active on an arm. -/
def State.activeOrderNumber (s : State) (a : Fin 6) : Nat :=
  (((s.arm a).active.bind (fun ref => s.order ref.slot)).map Order.number).getD 0

/-- The engaged part of READ INJECTOR: the arm and line served, and the record (R144). DESIGN CHOICE: the line served is sent
as its order number and line number, the retry budget in 1 byte and the line's feedback F in 4 (notes/assumptions/13.md). -/
def State.engagedContent (s : State) (a : Fin 6) (r : DosingRecord) : List Byte :=
  field 1 (number a) ++ field 4 (s.activeOrderNumber a) ++ field 1 (((s.arm a).active.map LineRef.line).getD 0)
    ++ field 1 r.phase.code ++ field 4 r.interval ++ field 4 r.accumulator ++ field 1 r.owed ++ field 1 r.budget
    ++ field 4 r.feedback ++ field 4 r.dosedBefore

/-- READ INJECTOR (R144). DESIGN CHOICE: the shot's feedback count and its target are sent in 2 bytes each
(notes/assumptions/13.md). -/
def readInjector (injector : Nat) (s : State) : Answer :=
  match indexOf 8 injector with
  | none => s.refuse .badField
  | some i =>
    let cal := s.injectorStore i
    let unit := s.injector i
    let role := s.role i
    let record := (s.engagedBy i).bind (fun a => (s.arm a).dosing.map (fun r => (a, r)))
    s.ok (field 1 cal.additive ++ field 2 cal.shotSize ++ field 4 cal.kFactor ++ field 1 (if cal.failed then 2 else 1)
      ++ field 1 role.code
      ++ optionalField 2 (fun (x : Fin 6 × Fin 2) => field 1 (number x.1) ++ field 1 (number x.2))
          (match role with | .primary a p => some (a, p) | _ => none)
      ++ optionalField 1 (fun (j : Fin 8) => field 1 (number j)) (match role with | .standby j => some j | _ => none)
      ++ optionalField 1 (fun (j : Fin 8) => field 1 (number j)) unit.standby
      ++ field 1 (if unit.window.isSome then 2 else 1)
      ++ optionalField 5 (fun (x : DosingRecord × Shot) =>
          field 2 x.2.feedback ++ field 2 x.1.target ++ yesNo x.2.retry)
          (record.bind (fun x => x.2.shot.map (fun shot => (x.2, shot))))
      ++ timerField unit.window
      ++ field 4 cal.total.millilitres ++ field 4 cal.total.remainder
      ++ field 2 unit.stats.firstGood ++ field 2 unit.stats.goodAfterRetry ++ field 2 unit.stats.failed
      ++ field 2 unit.stats.overspeed
      ++ optionalField 25 (fun (x : Fin 6 × DosingRecord) => s.engagedContent x.1 x.2) record)

/-! ### The commands -/

/-- WRITE_RECIPE (R122). -/
def execWriteRecipe (p : PortId) (tag : Byte) (slot additive rate tolerance : Nat) (s : State) : Outcome :=
  .next (s.frame p tag 0x25#8 .terminalOnly (writeRecipe slot additive rate tolerance))

/-- ASSIGN_INJECTOR (R125). -/
def execAssignInjector (p : PortId) (tag : Byte) (arm position injector : Nat) (s : State) : Outcome :=
  .next (s.frame p tag 0x27#8 .terminalOnly (assignInjector arm position injector))

/-- REMOVE_INJECTOR (R126). -/
def execRemoveInjector (p : PortId) (tag : Byte) (arm position : Nat) (s : State) : Outcome :=
  .next (s.frame p tag 0x28#8 .terminalOnly (removeInjector arm position))

/-- ASSIGN_STANDBY (R127). -/
def execAssignStandby (p : PortId) (tag : Byte) (primary standby : Nat) (s : State) : Outcome :=
  .next (s.frame p tag 0x29#8 .terminalOnly (assignStandby primary standby))

/-- RELEASE_STANDBY (R128). -/
def execReleaseStandby (p : PortId) (tag : Byte) (injector : Nat) (s : State) : Outcome :=
  .next (s.frame p tag 0x2A#8 .terminalOnly (releaseStandby injector))

/-- RETURN_INJECTOR (R129). -/
def execReturnInjector (p : PortId) (tag : Byte) (injector : Nat) (s : State) : Outcome :=
  .next (s.frame p tag 0x2B#8 .terminalOnly (returnInjector injector))

/-- INJECTOR_FEEDBACK_PULSE (R136, R156): the dosing totalizer advances, and an engaged injector's pulse reaches its
line. The pulse that would have reached the target, taken behind the third expiry of the same millisecond, counts to F (R145);
DEDUCED: to the F of the record as the takeover or the disengaging left it, and to no shot (notes/assumptions/27.md). Any other
pulse of an injector that is not engaged counts to no line. -/
def execInjectorFeedbackPulse (i : Fin 8) (s : State) : Outcome :=
  let totalled := s.modifyInjectorStore i (fun x => { x with total := x.total.pulse x.kFactor })
  match totalled.engagedBy i with
  | some a => .next (totalled.feedbackPulse a i)
  | none =>
    match totalled.awaiting i with
    | some a => .next (totalled.modifyDosing a (fun r => { r with feedback := r.feedback + 1, late := none }))
    | none => .next totalled

/-- VERIFY_WINDOW_EXPIRY (R137). -/
def execVerifyWindowExpiry (i : Fin 8) (s : State) : Outcome :=
  .next (s.expiry (.verifyWindowExpiry i) (fun t => t.windowExpires i))

/-- READ_INJECTOR (R144). -/
def execReadInjector (p : PortId) (tag : Byte) (injector : Nat) (s : State) : Outcome :=
  .next (s.frame p tag 0x05#8 .either (readInjector injector))

end Sys2Proof.Machine
end

