-- ==== Sys2Proof/Machine/Metering.lean ====
section
/-!
DEFINITION. Meter pulses and flow (03) and the correction stages of a sample (04): the pulse decoder, the conversion of a
sample's pulses to indicated, gross and standard volume, and the meter statistics.
-/

namespace Sys2Proof.Machine

/-! ### The pulse decoder (R42 to R50) -/

/-- The other channel of a meter. -/
def otherChannel : Channel → Channel
  | .a => .b
  | .b => .a

def Decoder.status (d : Decoder) : Channel → ChannelStatus
  | .a => d.statusA
  | .b => d.statusB

/-- Set a channel's miss count. -/
def Decoder.setMiss (d : Decoder) (c : Channel) (n : Nat) : Decoder :=
  match c with
  | .a => { d with missA := n }
  | .b => { d with missB := n }

def Decoder.miss (d : Decoder) : Channel → Nat
  | .a => d.missA
  | .b => d.missB

/-- A counted pulse, of whatever kind (R42). -/
def Decoder.countPulse (d : Decoder) : Decoder :=
  { d with
    sampleCount := count32 (d.sampleCount + 1)
    lineCounted := if d.mode = .line then count32 (d.lineCounted + 1) else d.lineCounted }

/-- A corrected pulse (R42). -/
def Decoder.countCorrected (d : Decoder) : Decoder :=
  { d.countPulse with
    lineCorrected := if d.mode = .line then count32 (d.lineCorrected + 1) else d.lineCorrected }

/-- An edge taken in expected order (R45): a B edge counts a good pulse. -/
def Decoder.takeExpected (d : Decoder) (c : Channel) : Decoder :=
  let taken := { d.setMiss c 0 with expected := otherChannel c }
  match c with
  | .a => taken
  | .b => taken.countPulse

/-- The missing-event statistic of a channel, saturating (R46). -/
def MeterStatistics.missing (m : MeterStatistics) : Channel → MeterStatistics
  | .a => { m with missingA := bump16 m.missingA }
  | .b => { m with missingB := bump16 m.missingB }

/-- A missing event of channel `lost`: a corrected pulse and its statistic, and in LINE mode the miss count (R46). -/
def Decoder.missingEvent (d : Decoder) (lost : Channel) : Decoder :=
  let counted := { d.countCorrected with stats := d.stats.missing lost }
  if d.mode = .line then counted.setMiss lost (d.miss lost + 1) else counted

/-- The pulse-fault allowance (R49). -/
def Decoder.allowance (d : Decoder) : Nat := 5 + d.lineCounted / 1000

/-- A channel is declared FAILED (R47). -/
def Decoder.failChannel (d : Decoder) (c : Channel) : Decoder :=
  let failed := match c with
    | .a => { d with statusA := .failed }
    | .b => { d with statusB := .failed }
  { failed with stats := { d.stats with channelFailures := bump16 d.stats.channelFailures } }

/-- The decoder at a line start (R50). -/
def Decoder.startLine (d : Decoder) : Decoder :=
  { d with
    statusA := .normal, statusB := .normal, missA := 0, missB := 0, lineCounted := 0, lineCorrected := 0, mode := .line,
    lineStarted := true }

def State.modifyDecoder (s : State) (a : Fin 6) (f : Decoder → Decoder) : State :=
  s.modifyArm a (fun x => { x with decoder := f x.decoder })

/-- The pulse-fault allowance is judged at a corrected pulse in LINE mode (R49). -/
def State.judgeAllowance (s : State) (a : Fin 6) : State :=
  let d := (s.arm a).decoder
  if d.allowance < d.lineCorrected ∧ !(s.arm a).holds.pulse then
    (s.modifyDecoder a (fun x => { x with stats := { x.stats with pulseHolds := bump16 x.stats.pulseHolds } })).raiseHold
      a .pulse
  else s

/-- A miss count that has come to 4 fails its channel and flags the line SINGLE_CHANNEL (R47). -/
def State.judgeMisses (s : State) (a : Fin 6) (lost : Channel) : State :=
  if 4 ≤ (s.arm a).decoder.miss lost then
    (s.modifyDecoder a (fun d => d.failChannel lost)).modifyActiveLine a (fun l =>
      { l with flags := { l.flags with singleChannel := true } })
  else s

/-- A rising edge of a meter channel (R45 to R49). The allowance is judged before the channel fails (R47). -/
def State.meterEdge (s : State) (a : Fin 6) (c : Channel) : State :=
  let d := (s.arm a).decoder
  if d.status c = .failed then s
  else if d.status (otherChannel c) = .failed then s.modifyDecoder a Decoder.countPulse
  else if c = d.expected then s.modifyDecoder a (fun x => x.takeExpected c)
  else
    let counted := s.modifyDecoder a (fun x => x.missingEvent d.expected)
    if d.mode = .line then (counted.judgeAllowance a).judgeMisses a d.expected else counted

/-! ### The stages of a sample (R53, R54, R69 to R74) -/

/-- The meter factor between two points of the curve, rounded to nearest, halves up (R70). -/
def interpolate (p q : CurvePoint) (flow : Nat) : Nat :=
  (roundHalfUp ((p.factor : Int) * ((q.flow : Int) - p.flow) + ((flow : Int) - p.flow) * ((q.factor : Int) - p.factor))
    (q.flow - p.flow)).toNat

/-- The meter factor of a curve at a flow (R70); 100,000 for a curve with no point (R69). -/
def curveFactor : List CurvePoint → Nat → Nat
  | [], _ => 100000
  | [p], _ => p.factor
  | p :: q :: rest, flow =>
    if flow ≤ p.flow then p.factor
    else if flow < q.flow then interpolate p q flow
    else curveFactor (q :: rest) flow

/-- The VCF of a correction group at a temperature, before the clamp (R72). -/
def rawVcf (coefA coefB : Nat) (temp : Int) : Int :=
  let d := temp - 1500
  roundHalfUp (10000000000000 - coefA * d * 100000 + coefB * (d * d)) 100000000

/-- The VCF, clamped (R73). -/
def vcf (coefA coefB : Nat) (temp : Int) : Nat :=
  let v := rawVcf coefA coefB temp
  if v < 90000 then 90000 else if 110000 < v then 110000 else v.toNat

/-- The VCF of an arm's product; 100,000 when the setup names none (R72). -/
def productVcf (p : Option Product) (temp : Int) : Nat :=
  match p with
  | some q => vcf q.coefA q.coefB temp
  | none => 100000

/-- What a sample computes: its indicated, gross and standard increments, its flow rate and the carries it leaves. -/
structure SampleVolumes where
  indicated : Nat
  flow : Nat
  gross : Nat
  standard : Nat
  carries : Carries
deriving DecidableEq, Repr

/-- The indicated increment and carry of a sample; an uncalibrated meter discards its pulses (R53). -/
def indicatedStage (k carry pulses : Nat) : Nat × Nat :=
  if k = 0 then (0, 0) else ((pulses * 1000000 + carry) / k, (pulses * 1000000 + carry) % k)

/-- A stage that multiplies by a factor in units of 0.00001 and carries the remainder (R71, R74). -/
def factorStage (volume factor carry : Nat) : Nat × Nat :=
  ((volume * factor + carry) / 100000, (volume * factor + carry) % 100000)

/-- The flow rate of a sample in L/min (R54). -/
def flowRate (indicated : Nat) : Nat := indicated * 3 / 10

/-- The stages of a sample (R53, R54, R69, R71, R74). -/
def sampleVolumes (k : Nat) (curve : List CurvePoint) (trial : Option Nat) (v : Nat) (c : Carries) (pulses : Nat) :
    SampleVolumes :=
  let i := indicatedStage k c.indicated pulses
  let q := flowRate i.1
  let g := factorStage i.1 (trial.getD (curveFactor curve q)) c.gross
  let st := factorStage g.1 v c.standard
  ⟨i.1, q, g.1, st.1, ⟨i.2, g.2, st.2⟩⟩

/-- The product an arm's setup names, as the product table holds it. -/
def State.armProduct (s : State) (a : Fin 6) : Option Product :=
  (s.arm a).setup.product.bind s.products.get

/-- The volumes of the sample an arm is about to take: a line sample uses the line carries and the bound trial factor,
a stray sample the stray carries and the curve (R52, R69). -/
def State.sampleOf (s : State) (a : Fin 6) : SampleVolumes :=
  let arm := s.arm a
  let m := s.meterStore a
  let v := productVcf (s.armProduct a) (s.probes.get a).temperature
  if arm.active.isSome then sampleVolumes m.kFactor m.curve arm.boundTrial v arm.lineCarries arm.decoder.sampleCount
  else sampleVolumes m.kFactor m.curve none v arm.strayCarries arm.decoder.sampleCount

/-- A line's accumulators take a sample's volumes and temperature weight (R75). -/
def Line.accumulate (l : Line) (v : SampleVolumes) (temp : Int) (held : Bool) : Line :=
  { l with
    record :=
      { l.record with
        gv := l.record.gv + v.gross
        gsv := l.record.gsv + v.standard
        tsum := l.record.tsum + v.gross * temp }
    flags := { l.flags with tempHeld := l.flags.tempHeld || held } }

/-- Whether a probe's standing flags a line sample TEMP_HELD (R67). -/
def ProbeStatus.held : ProbeStatus → Bool
  | .holding => true
  | .failed => true
  | _ => false

/-- Steps 1 and 2 of a sample (R55): the pulses are taken, the carries and the flow rate kept, the totalizers advance,
and a line's accumulators take the volumes. The sample timer restarts (R51). -/
def State.meterSample (s : State) (a : Fin 6) (v : SampleVolumes) : State :=
  let isLine := (s.arm a).active.isSome
  let p := s.probes.get a
  ((s.modifyArm a (fun x =>
      { x with
        decoder := { x.decoder with sampleCount := 0 }
        sampleTimer := Config.samplePeriod
        flowRate := v.flow
        lineCarries := if isLine then v.carries else x.lineCarries
        strayCarries := if isLine then x.strayCarries else v.carries })).modifyMeterStore a (fun m =>
    { m with gross := m.gross.advance v.gross, standard := m.standard.advance v.standard })).modifyActiveLine a
      (fun l => l.accumulate v p.temperature p.status.held)

/-! ### The meter statistics (R58, R59) -/

/-- The allowance as it is reported: 0 while no line has started since cold start (R58). -/
def Decoder.reportedAllowance (d : Decoder) : Nat := if d.lineStarted then d.allowance else 0

/-- The report of one meter (R58). DESIGN CHOICE: the line counts and the allowance are sent in 4 bytes each
(notes/assumptions/13.md). -/
def Decoder.report (d : Decoder) : List Byte :=
  field 2 d.stats.missingA ++ field 2 d.stats.missingB ++ field 2 d.stats.channelFailures ++ field 2 d.stats.pulseHolds
    ++ field 1 d.statusA.code ++ field 1 d.statusB.code ++ field 1 d.mode.code ++ field 4 d.lineCounted
    ++ field 4 d.lineCorrected ++ field 4 d.reportedAllowance

/-- The meters an arm number names; 0 means all six (R58). -/
def metersNamed (arm : Nat) : Option (List (Fin 6)) :=
  if arm = 0 then some armList else (indexOf 6 arm).map (fun a => [a])

/-- The report of several meters, preceded by their number (R58, R192; notes/assumptions/13.md). -/
def State.statisticsReport (s : State) (arms : List (Fin 6)) : List Byte :=
  field 1 arms.length ++ arms.flatMap (fun a => (s.arm a).decoder.report)

/-- READ STATISTICS (R58). -/
def readStatistics (arm : Nat) (s : State) : Answer :=
  match metersNamed arm with
  | none => s.refuse .badField
  | some arms => s.ok (s.statisticsReport arms)

/-- READ AND CLEAR STATISTICS (R59): the report holds the values before the clearing. -/
def readAndClearStatistics (arm : Nat) (s : State) : Answer :=
  match metersNamed arm with
  | none => s.refuse .badField
  | some arms =>
    (arms.foldl (fun t a => t.modifyDecoder a (fun d => { d with stats := ⟨0, 0, 0, 0⟩ })) s).ok
      (s.statisticsReport arms)

/-! ### The commands -/

/-- METER_EDGE (R45 to R49). -/
def execMeterEdge (a : Fin 6) (c : Channel) (s : State) : Outcome := .next (s.meterEdge a c)

/-- READ_STATISTICS (R58). -/
def execReadStatistics (p : PortId) (tag : Byte) (arm : Nat) (s : State) : Outcome :=
  .next (s.frame p tag 0x09#8 .either (readStatistics arm))

/-- READ_AND_CLEAR_STATISTICS (R59). -/
def execReadAndClearStatistics (p : PortId) (tag : Byte) (arm : Nat) (s : State) : Outcome :=
  .next (s.frame p tag 0x36#8 .terminalOnly (readAndClearStatistics arm))

end Sys2Proof.Machine
end

