-- ==== Sys2Proof/Machine/Permits.lean ====
section
/-!
DEFINITION. The bay clock and the permit table (01).
-/

namespace Sys2Proof.Machine

/-! ### The bay clock -/

/-- The clock's advance by one second (R2). -/
def Clock.advance (c : Clock) : Clock :=
  if c.second < 86399 then { c with second := c.second + 1, timer := Config.clockPeriod }
  else { c with second := 0, day := if c.day < 65535 then c.day + 1 else 65535, timer := Config.clockPeriod }

/-- SET CLOCK (R3): the one-second timer restarts. -/
def setClock (day second : Nat) (s : State) : Answer :=
  s.checked [(decide (86399 < second) || decide (65535 < day), .badField)]
    (({ s with clock := ⟨day, second, true, Config.clockPeriod⟩ } : State).ok [])

/-! ### Bars (R10) -/

/-- The effects of a bar on an ACTIVE permit beyond its state: a claim on a CLAIMED order is withdrawn and
CLAIM_EXPIRED is raised (R10); a claim on a LOADING or CLOSING order stands (R11). -/
def State.barClaim (s : State) (claim : Option (Fin 24)) : State :=
  match claim with
  | none => s
  | some slot =>
    match s.order slot with
    | some o => if o.state = .claimed then (s.withdrawClaim slot).raise .claimExpired (number slot) else s
    | none => s

/-- Change the permit in an entry. -/
def State.modifyPermit (s : State) (e : Fin 200) (f : Permit → Permit) : State :=
  { s with permits := s.permits.modify e (Option.map f) }

/-! ### The requests -/

/-- WRITE PERMIT on a permit the table holds (R9). -/
def replacePermit (e : Fin 200) (old : Permit) (carrier : Nat) (classes : BitVec 8) (expiry : Nat) (st : PermitState)
    (s : State) : Answer :=
  s.checked [(old.claim.isSome && carrier != old.carrier, .inUse)]
    (let written := s.modifyPermit e (fun p =>
        { p with carrier := carrier, classes := classes, expiry := expiry, state := st })
     (if old.state = .active ∧ st = .barred then written.barClaim old.claim else written).ok [])

/-- WRITE PERMIT on a number the table does not hold (R8). -/
def createPermit (num carrier : Nat) (classes : BitVec 8) (expiry : Nat) (st : PermitState) (s : State) : Answer :=
  match s.permits.find? Option.isNone with
  | none => s.refuse .tableFull
  | some e =>
    (({ s with permits := s.permits.set e (some ⟨num, carrier, classes, expiry, st, none, none⟩) } : State)).ok []

/-- WRITE PERMIT (R8, R9). Every class-set byte names classes 1 to 8 (R191). -/
def writePermit (num carrier : Nat) (classes : BitVec 8) (expiry state : Nat) (s : State) : Answer :=
  match permitStateOf state with
  | none => s.refuse .badField
  | some st =>
    s.checked [(!within 1 99999999 num || !within 1 65535 carrier || decide (65535 < expiry), .badField)]
      (match (s.findPermit num).bind (fun e => (s.permits.get e).map (fun p => (e, p))) with
       | some (e, old) => replacePermit e old carrier classes expiry st s
       | none => createPermit num carrier classes expiry st s)

/-- BAR PERMIT (R10). -/
def barPermit (num : Nat) (s : State) : Answer :=
  match (s.findPermit num).bind (fun e => (s.permits.get e).map (fun p => (e, p))) with
  | none => s.refuse .noSuch
  | some (e, p) =>
    if p.state = .active then
      ((s.modifyPermit e (fun q => { q with state := .barred })).barClaim p.claim).ok []
    else s.ok []

/-- DELETE PERMIT (R12). -/
def deletePermit (num : Nat) (s : State) : Answer :=
  match (s.findPermit num).bind (fun e => (s.permits.get e).map (fun p => (e, p))) with
  | none => s.refuse .noSuch
  | some (e, p) =>
    s.checked [(p.claim.isSome, .inUse)] (({ s with permits := s.permits.set e none } : State).ok [])

/-- READ PERMIT (R13). -/
def readPermit (num : Nat) (s : State) : Answer :=
  match (s.findPermit num).bind (fun e => (s.permits.get e).map (fun p => (e, p))) with
  | none => s.refuse .noSuch
  | some (e, p) =>
    s.ok (field 1 (number e) ++ field 4 p.number ++ field 2 p.carrier ++ [p.classes] ++ field 2 p.expiry
      ++ field 1 p.state.code
      ++ optionalField 5 (fun k =>
          field 1 (number k) ++ field 4 (((s.order k).map Order.number).getD 0)) p.claim
      ++ optionalField 6 bayTimeField p.lastPresented ++ yesNo (p.expired s.clock.day))

/-! ### The commands -/

/-- SET_CLOCK (R3). -/
def execSetClock (p : PortId) (tag : Byte) (day second : Nat) (s : State) : Outcome :=
  .next (s.frame p tag 0x20#8 .terminalOnly (setClock day second))

/-- WRITE_PERMIT (R8, R9). -/
def execWritePermit (p : PortId) (tag : Byte) (num carrier : Nat) (classes : BitVec 8) (expiry state : Nat)
    (s : State) : Outcome :=
  .next (s.frame p tag 0x21#8 .terminalOnly (writePermit num carrier classes expiry state))

/-- BAR_PERMIT (R10, R11). -/
def execBarPermit (p : PortId) (tag : Byte) (num : Nat) (s : State) : Outcome :=
  .next (s.frame p tag 0x22#8 .terminalOnly (barPermit num))

/-- DELETE_PERMIT (R12). -/
def execDeletePermit (p : PortId) (tag : Byte) (num : Nat) (s : State) : Outcome :=
  .next (s.frame p tag 0x23#8 .terminalOnly (deletePermit num))

/-- READ_PERMIT (R13). -/
def execReadPermit (p : PortId) (tag : Byte) (num : Nat) (s : State) : Outcome :=
  .next (s.frame p tag 0x02#8 .either (readPermit num))

/-- CLOCK_ADVANCE (R2). -/
def execClockAdvance (s : State) : Outcome :=
  .next (s.expiry .clockAdvance (fun t => { t with clock := t.clock.advance }))

end Sys2Proof.Machine
end

