-- ==== Sys2Proof/Machine/Arms.lean ====
section
/-!
DEFINITION. Arm batch control (05): starting and ending lines, staging and preset, close confirmation, leak and lockout,
stray flow, the metering sample as a whole (R55), and the requests that act on an arm's line.
-/

namespace Sys2Proof.Machine

/-! ### Close command for a line end (R89) -/

/-- The arm's state and counts at a close command for a line end (R89). -/
def Arm.closeForLineEnd (a : Arm) : Arm :=
  match a.state with
  | .closing => { a with reason := some .lineEnd }
  | .lowStart => { a with state := .closing, reason := some .lineEnd, zeroRun := 0, closeCount := 0 }
  | .fullFlow => { a with state := .closing, reason := some .lineEnd, zeroRun := 0, closeCount := 0 }
  | .topOff => { a with state := .closing, reason := some .lineEnd, zeroRun := 0, closeCount := 0 }
  | .suspended => { a with state := .closing, reason := some .lineEnd, zeroRun := 0, closeCount := 0 }
  | .idle => a
  | .locked => a

/-- A close command for a line end: the result and flags are recorded, the timers stop, the dosing unit is told, and the
arm closes (R89). -/
def State.closeForLineEnd (s : State) (a : Fin 6) (r : LineResult) (f : LineFlags → LineFlags) : State :=
  let recorded := s.modifyActiveLine a (fun l => { l with result := some r, flags := f l.flags })
  let told := (recorded.modifyArm a (fun x => { x with noFlowTimer := none, suspendTimer := none })).finishDosing a
  (told.modifyArm a Arm.closeForLineEnd).settleDeadman

/-! ### Finishing a line (R92, R93) -/

/-- The totalizer readings of an arm's meter (R157). -/
def State.readings (s : State) (a : Fin 6) : Readings := ⟨(s.meterStore a).gross, (s.meterStore a).standard⟩

/-- The overrun of a line in litres (R93). -/
def Line.overrun (l : Line) : Nat := litres l.delivered - l.preset

/-- The overrun is computed and the OVERRUN flag decided (R93). -/
def State.decideOverrun (s : State) (a : Fin 6) : State :=
  match s.activeLine a with
  | none => s
  | some l =>
    let limit := (s.arm a).setup.overrunLimit
    (s.modifyActiveLine a (fun x =>
      { x with flags := { x.flags with overrun := x.flags.overrun || decide (limit < l.overrun) } })).modifyArm a
        (fun x => { x with lastOverrun := l.overrun })

/-- Steps 1 and 2 of finishing a line: the end readings, the additive totals and the overrun (R92). -/
def State.fixLine (s : State) (a : Fin 6) (quiet : Bool) : State :=
  let readings := s.readings a
  ((s.modifyActiveLine a (fun l => { l with record := { l.record with atEnd := some readings } })).fixDosing a
    quiet).decideOverrun a

/-- The arm when its line ceases to be active: no active line, the hold-cause set emptied, the line carries discarded,
the decoder in STRAY mode, the bound trial factor and the dosing record discarded (R44, R56, R92, R104, R142, R154). -/
def Arm.releaseLine (a : Arm) : Arm :=
  { a with
    active := none
    holds := HoldSet.clear
    lineCarries := Carries.zero
    boundTrial := none
    dosing := none
    decoder := { a.decoder with mode := .stray } }

/-- Steps 1 to 4 of finishing a line (R92). The result stands recorded; the caller moves the arm. -/
def State.finishLine (s : State) (a : Fin 6) : State :=
  match (s.arm a).active with
  | none => s
  | some ref =>
    let ended := (s.fixLine a false).modifyLine ref (fun l => { l with state := .ended })
    ((ended.modifyArm a Arm.releaseLine).raise .lineEnded (number a)).judgeOrder ref.slot

/-- An arm goes IDLE with its closing reason absent and its timers stopped (notes/assumptions/26.md). -/
def Arm.goIdle (a : Arm) : Arm :=
  { a with state := .idle, reason := none, noFlowTimer := none, suspendTimer := none }

/-! ### Starting a line (R81, R82, R84) -/

/-- Ground and overfill recognized PRESENT and the stop INACTIVE (R81, check 4). -/
def Bay.permits (b : Bay) : Bool :=
  b.ground.recognized == .present && b.overfill.recognized == .present && !b.stop.active

/-- The order and line a start names. -/
def State.startTarget (s : State) (num k : Nat) : Option (Fin 24 × Order × Line) :=
  (s.findOrder num).bind (fun slot => (s.order slot).bind (fun o => (o.line? k).map (fun l => (slot, o, l))))

/-- Whether the line names a recipe and no position of the arm serves it (R81, check 12). -/
def State.injectorMissing (s : State) (a : Fin 6) (l : Line) : Bool :=
  match l.recipe with
  | none => false
  | some k =>
    match s.recipes.get k with
    | some r => (s.positionServing a r.additive).isNone
    | none => true

/-- The claiming permit of an order. -/
def State.claimingPermit (s : State) (o : Order) : Option Permit := o.claimPermit.bind s.permitNumbered

/-- Checks 3 to 12 of START LINE, in order; a re-check at close completion leaves out the arm's own (R81, R84). -/
def State.startChecks (s : State) (a : Fin 6) (o : Order) (l : Line) (recheck : Bool) : List (Bool × ReplyCode) :=
  let arm := s.arm a
  let probe := (s.probes.get a).status
  [((o.state != .claimed && o.state != .loading) || !l.isWaiting, .wrongState),
   (!s.bay.permits, .permissive),
   (!recheck && arm.state == .locked, .armLocked),
   (!recheck && ((arm.state != .idle && !(arm.state == .closing && arm.reason == some .lineEnd)) || arm.queued.isSome),
     .armBusy),
   (arm.setup.product != some l.product, .productMismatch),
   (probe == .unknown || probe == .failed, .probeFault),
   ((s.meterStore a).kFactor == 0 || (s.meterStore a).curve.isEmpty, .uncalibrated),
   (((s.claimingPermit o).map (fun p => p.state == .barred)).getD false, .permitBarred),
   (((s.claimingPermit o).map (fun p => p.expired s.clock.day)).getD false, .permitExpired),
   (s.injectorMissing a l, .injectorUnavailable)]

/-- The order table's changes at a line start (R31). -/
def Order.startLine (o : Order) (k : Nat) (a : Fin 6) (record : LineRecord) (flags : LineFlags) : Order :=
  { o with
    state := if o.state = .claimed then .loading else o.state
    claimTimer := none
    idleTimer := none
    lines := o.lines.modify (k - 1) (fun l => { l with state := .active a, record := record, flags := flags }) }

/-- The arm controller's changes at a line start (R82, steps 3 and 7). -/
def Arm.startLine (a : Arm) (ref : LineRef) (trial : Option Nat) : Arm :=
  { a with
    decoder := a.decoder.startLine
    lineCarries := Carries.zero
    boundTrial := trial
    active := some ref
    state := .lowStart
    reason := none
    stageVolume := a.setup.lowStart
    stageGross := 0
    zeroRun := 0
    closeCount := 0
    noFlowTimer := some Config.noFlowTimeout }

/-- Steps 2 to 8 of a line start (R82). -/
def State.beginLine (s : State) (a : Fin 6) (slot : Fin 24) (k : Nat) : State :=
  let trial := (s.meterStore a).pendingTrial
  let record := { LineRecord.blank with atStart := some (s.readings a), counter := some s.store.counter }
  let ref : LineRef := ⟨slot, k⟩
  let recipe := (s.lineAt ref).bind Line.recipe
  let started := s.modifyOrder slot (fun o => o.startLine k a record { LineFlags.clear with trial := trial.isSome })
  let bound := started.modifyMeterStore a (fun m => { m with pendingTrial := none })
  ((bound.modifyArm a (fun x => x.startLine ref trial)).openDosing a recipe).restartDeadman

/-- A close completion's re-check of the queued start: the line starts without a boundary sample, or the start is
dropped and the arm goes IDLE (R84). -/
def State.recheckQueued (s : State) (a : Fin 6) : State :=
  match (s.arm a).queued with
  | none => s.modifyArm a Arm.goIdle
  | some q =>
    match s.startTarget q.order q.line with
    | some (slot, o, l) =>
      if (s.startChecks a o l true).any (fun c => c.1) then (s.dropQueued a).modifyArm a Arm.goIdle
      else (s.modifyArm a (fun x => { x with queued := none })).beginLine a slot q.line
    | none => (s.dropQueued a).modifyArm a Arm.goIdle

/-! ### Staging and preset (R85, R86) -/

/-- The state a flowing arm moves to at a line sample below its preset (R85). -/
def Arm.stage (a : Arm) (remaining : Int) : ArmState :=
  match a.state with
  | .lowStart =>
    if a.stageGross < a.stageVolume * 1000 then .lowStart
    else if (a.setup.topOff * 1000 : Int) < remaining then .fullFlow
    else .topOff
  | .fullFlow => if remaining ≤ (a.setup.topOff * 1000 : Int) then .topOff else .fullFlow
  | other => other

/-- A flowing arm is staged; the no-flow timer restarts at a sample with pulses in LOW_START and stops when the arm
leaves it (R85, R87). -/
def Arm.staged (a : Arm) (remaining : Int) (pulses : Nat) : Arm :=
  let next := a.stage remaining
  { a with
    state := next
    noFlowTimer :=
      if next = .lowStart then (if pulses = 0 then a.noFlowTimer else some Config.noFlowTimeout) else none }

/-- Staging and preset are judged at a line sample (R85, R86). -/
def State.judgeFlow (s : State) (a : Fin 6) (pulses : Nat) : State :=
  match s.activeLine a with
  | none => s
  | some l =>
    if l.isRunning ∧ l.preset * 1000 ≤ l.delivered then s.closeForLineEnd a .complete id
    else if (s.arm a).state.flowing then s.modifyArm a (fun x => x.staged l.remaining pulses)
    else s

/-! ### Close confirmation, leak and stray flow (R91, R92, R94, R96, R98) -/

/-- The zero run, the close count and the stage gross take a sample (R85, R91). -/
def Arm.countSample (a : Arm) (pulses lineGross : Nat) : Arm :=
  { a with
    zeroRun := if pulses = 0 then bump16 a.zeroRun else 0
    closeCount := bump16 a.closeCount
    stageGross := count32 (a.stageGross + lineGross) }

/-- A leak (R96). -/
def State.leakDetected (s : State) (a : Fin 6) : State :=
  let flagged := s.modifyActiveLine a (fun l =>
    { l with result := some (l.result.getD .aborted), flags := { l.flags with leak := true } })
  let finished := (flagged.abandonDosing a).finishLine a
  ((finished.dropQueued a).modifyArm a (fun x =>
    { x with state := .locked, reason := none, noFlowTimer := none, suspendTimer := none })).raise .leak (number a)

/-- A close completes with reason HOLD (R94). -/
def State.suspend (s : State) (a : Fin 6) : State :=
  (s.modifyArm a (fun x =>
    { x with state := .suspended, reason := none, suspendTimer := some Config.suspendTimeout })).raise .lineHeld (number a)

/-- Leak and close completion are judged at a line sample (R91, R92, R94, R96). -/
def State.judgeClose (s : State) (a : Fin 6) (pulses : Nat) : State :=
  let arm := s.arm a
  if (arm.state = .closing ∨ arm.state = .suspended) ∧ pulses ≠ 0 ∧ 50 ≤ arm.closeCount then s.leakDetected a
  else if arm.state = .closing ∧ 10 ≤ arm.zeroRun ∧ (arm.dosing.map DosingRecord.quiet).getD true then
    match arm.reason with
    | some .lineEnd => (s.finishLine a).recheckQueued a
    | some .hold => s.suspend a
    | none => s
  else s

/-- A stray sample's volume joins the arm's stray accumulator, raising STRAY_FLOW when it crosses a whole multiple of
5,000 mL (R98). -/
def State.addStray (s : State) (a : Fin 6) (dgv : Nat) : State :=
  let before := (s.arm a).stray
  let after := min Config.maxCount32 (before + dgv)
  let added := s.modifyArm a (fun x => { x with stray := after })
  if before / 5000 < after / 5000 then added.raise .strayFlow (number a) else added

/-! ### The metering sample (R51 to R55) -/

/-- A line sample: dosing is served, then the arm controller judges (R55, steps 3 and 4). -/
def State.lineSample (s : State) (a : Fin 6) (pulses dgv : Nat) : State :=
  let counted := (s.serveDosing a dgv).modifyArm a (fun x => x.countSample pulses dgv)
  (counted.judgeFlow a pulses).judgeClose a pulses

/-- A stray sample (R55, step 4). -/
def State.straySample (s : State) (a : Fin 6) (pulses dgv : Nat) : State :=
  (s.modifyArm a (fun x => x.countSample pulses 0)).addStray a dgv

/-- A metering sample of an arm, taken whole (R51 to R55). It serves the boundary sample too, a stray sample (R52). -/
def State.sample (s : State) (a : Fin 6) : State :=
  let pulses := (s.arm a).decoder.sampleCount
  let v := s.sampleOf a
  let metered := s.meterSample a v
  if (s.arm a).active.isSome then metered.lineSample a pulses v.gross else metered.straySample a pulses v.gross

/-! ### The requests -/

/-- START LINE (R81, R82, R83). -/
def startLine (arm num k : Nat) (s : State) : Answer :=
  match indexOf 6 arm with
  | none => s.refuse .badField
  | some a =>
    if !within 1 9 k then s.refuse .badField
    else
      match s.startTarget num k with
      | none => s.refuse .noSuch
      | some (slot, o, l) =>
        s.checked (s.startChecks a o l false)
          (if (s.arm a).state = .idle then ((s.sample a).beginLine a slot k).ok []
           else (s.modifyArm a (fun x => { x with queued := some ⟨num, k⟩ }), [ReplyCode.queued.byte]))

/-- END LINE in SUSPENDED, the suspend timeout: the line ends at once with a result and flags (R88, R95). -/
def State.endSuspended (s : State) (a : Fin 6) (r : LineResult) (f : LineFlags → LineFlags) : State :=
  let recorded := s.modifyActiveLine a (fun l => { l with result := some r, flags := f l.flags })
  ((recorded.abandonDosing a).finishLine a).modifyArm a Arm.goIdle

/-- END LINE (R88). -/
def endLine (arm : Nat) (s : State) : Answer :=
  match indexOf 6 arm with
  | none => s.refuse .badField
  | some a =>
    match (s.arm a).state with
    | .idle => s.refuse .wrongState
    | .closing => s.refuse .wrongState
    | .locked => s.refuse .wrongState
    | .suspended => (s.endSuspended a .short id).ok []
    | .lowStart => (s.closeForLineEnd a .short id).ok []
    | .fullFlow => (s.closeForLineEnd a .short id).ok []
    | .topOff => (s.closeForLineEnd a .short id).ok []

/-- CLEAR LOCKOUT (R97). -/
def clearLockout (arm : Nat) (s : State) : Answer :=
  match indexOf 6 arm with
  | none => s.refuse .badField
  | some a =>
    s.checked [((s.arm a).state != .locked || decide ((s.arm a).zeroRun < 10), .wrongState)]
      ((s.modifyArm a (fun x => { x with state := .idle, stray := 0, strayCarries := Carries.zero })).ok [])

/-- A running line of a cancelled order ends ABORTED with flag CANCEL on its arm (R36). -/
def State.cancelActive (s : State) (slot : Fin 24) : State :=
  s.forArms (fun a t =>
    match (t.arm a).active with
    | some ref =>
      if ref.slot = slot ∧ t.running a then t.closeForLineEnd a .aborted (fun f => { f with cancel := true }) else t
    | none => t)

/-- CANCEL ORDER of a LOADING order with an ACTIVE line (R36). -/
def State.cancelLoading (s : State) (slot : Fin 24) (num : Nat) : State :=
  (((s.cancelActive slot).modifyOrder slot Order.endWaiting).dropQueuedOf num).modifyOrder slot
    (fun o => { o with state := .closing })

/-- CANCEL ORDER (R35, R36). -/
def cancelOrder (num : Nat) (s : State) : Answer :=
  match (s.findOrder num).bind (fun k => (s.order k).map (fun o => (k, o))) with
  | none => s.refuse .noSuch
  | some (slot, o) =>
    match o.state with
    | .closing => s.refuse .wrongState
    | .posted => ((s.setOrder slot none).dropQueuedOf num).ok []
    | .claimed => (((s.endClaim o.claimPermit).setOrder slot none).dropQueuedOf num).ok []
    | .loading =>
      if o.lines.any Line.isActive then (s.cancelLoading slot num).ok []
      else ((s.modifyOrder slot Order.endWaiting).closeOrder slot .cancelled).ok []

/-! ### Reports (R39, R101) -/

/-- The additive totals of a line as they stand: those fixed at its end, or those of its open dosing record; 0 for a
line not started (R39, R142; notes/assumptions/24.md). -/
def State.additiveAsItStands (s : State) (l : Line) : Nat × Nat :=
  match l.record.additive with
  | some t => (t.dosed, t.required)
  | none =>
    match l.arm.bind (fun a => (s.arm a).dosing) with
    | some r => (r.dosed, r.required l.record.gv)
    | none => (0, 0)

/-- READ ORDER part 0 (R39). -/
def orderContent (slot : Fin 24) (o : Order) : List Byte :=
  field 1 (number slot) ++ field 4 o.number ++ field 4 o.permit ++ field 2 o.carrier ++ field 4 o.tanker
    ++ field 1 o.state.code ++ optionalField 4 (field 4) o.claimPermit ++ optionalField 4 (field 4) o.claimTanker
    ++ optionalField 6 bayTimeField o.claimTime ++ timerField (o.claimTimer.or o.idleTimer) ++ field 1 o.lines.length

/-- READ ORDER parts 1 to 9 (R39). -/
def State.lineContent (s : State) (l : Line) : List Byte :=
  let totals := s.additiveAsItStands l
  field 1 l.compartment ++ field 1 (number l.product) ++ field 2 l.preset ++ field 1 l.basis.code
    ++ field 1 (numberOrZero l.recipe) ++ field 1 l.stateCode
    ++ optionalField 1 (fun (a : Fin 6) => field 1 (number a)) l.arm
    ++ optionalField 1 (fun (r : LineResult) => field 1 r.code) l.result ++ field 4 (litres l.record.gv)
    ++ field 4 (litres l.record.gsv) ++ optionalField 2 (signedField 2) l.record.average
    ++ optionalField 8 (fun (_ : Fin 16) => field 4 totals.1 ++ field 4 totals.2) l.recipe ++ field 2 l.flags.bits

/-- READ ORDER (R39). -/
def readOrder (num slot part : Nat) (s : State) : Answer :=
  let named := if num = 0 then indexOf 24 slot else s.findOrder num
  if (num = 0 ∧ (indexOf 24 slot).isNone) ∨ 9 < part then s.refuse .badField
  else
    match named.bind (fun k => (s.order k).map (fun o => (k, o))) with
    | none => s.refuse .noSuch
    | some (k, o) =>
      if part = 0 then s.ok (orderContent k o)
      else
        match o.line? part with
        | some l => s.ok (s.lineContent l)
        | none => s.refuse .noSuch

/-- READ ARM: the active line as order, slot, line, standing and result (R101). -/
def State.activeContent (s : State) (ref : LineRef) (l : Line) : List Byte :=
  field 4 (((s.order ref.slot).map Order.number).getD 0) ++ field 1 (number ref.slot) ++ field 1 ref.line
    ++ field 1 l.stateCode ++ optionalField 1 (fun (r : LineResult) => field 1 r.code) l.result

/-- READ ARM: the active line's quantities (R101). DESIGN CHOICE: the stage volume is sent in 2 bytes, as the low-start and
restart volumes it takes are, and the stage gross in 4 (notes/assumptions/13.md). DEDUCED: of the trial factors READ ARM
reports only whether one is bound (R154; notes/assumptions/28.md). -/
def quantityContent (a : Arm) (l : Line) : List Byte :=
  field 4 l.delivered ++ signedField 4 l.remaining ++ field 4 l.record.gv ++ field 4 l.record.gsv
    ++ field 2 a.stageVolume ++ field 4 a.stageGross ++ yesNo a.boundTrial.isSome

/-- READ ARM: the setup record, with the name and class of its product (R101). -/
def State.setupContent (s : State) (x : ArmSetup) : List Byte :=
  field 1 (numberOrZero x.product) ++ field 2 x.lowStart ++ field 2 x.restart ++ field 2 x.topOff
    ++ field 2 x.overrunLimit
    ++ positionList.flatMap (fun p =>
        optionalField 1 (fun (i : Fin 8) => field 1 (number i)) (x.positions.get p))
    ++ optionalField 17 (fun (q : Product) => nameField q.name ++ field 1 q.cls) (x.product.bind s.products.get)

/-- READ ARM: the probe (R61, R101). DESIGN CHOICE: its invalid run is sent in 1 byte (notes/assumptions/13.md). -/
def probeContent (p : Probe) : List Byte :=
  field 1 p.status.code ++ signedField 2 p.temperature ++ field 1 p.invalidRun
    ++ optionalField 2 (signedField 2) p.lastGate

/-- READ ARM (R101). -/
def readArm (arm : Nat) (s : State) : Answer :=
  match indexOf 6 arm with
  | none => s.refuse .badField
  | some a =>
    let x := s.arm a
    let active := x.active.bind (fun ref => (s.lineAt ref).map (fun l => (ref, l)))
    s.ok (field 1 x.state.code ++ optionalField 1 (fun (r : ClosingReason) => field 1 r.code) x.reason
      ++ yesNo x.low ++ yesNo x.full ++ yesNo x.reducedFlow
      ++ optionalField 9 (fun (y : LineRef × Line) => s.activeContent y.1 y.2) active
      ++ optionalField 23 (fun (y : LineRef × Line) => quantityContent x y.2) active
      ++ field 2 x.holds.bits
      ++ optionalField 5 (fun (q : QueuedStart) => field 4 q.order ++ field 1 q.line) x.queued
      ++ field 2 x.zeroRun ++ field 2 x.closeCount ++ timerField (x.noFlowTimer.or x.suspendTimer)
      ++ field 2 x.flowRate ++ field 4 x.stray ++ field 4 x.lastOverrun ++ s.setupContent x.setup
      ++ probeContent (s.probes.get a))

/-! ### The commands -/

/-- CANCEL_ORDER (R35, R36). -/
def execCancelOrder (p : PortId) (tag : Byte) (num : Nat) (s : State) : Outcome :=
  .next (s.frame p tag 0x2E#8 .terminalOnly (cancelOrder num))

/-- READ_ORDER (R39). -/
def execReadOrder (p : PortId) (tag : Byte) (num slot part : Nat) (s : State) : Outcome :=
  .next (s.frame p tag 0x03#8 .either (readOrder num slot part))

/-- METERING_SAMPLE (R51). One that waits behind the boundary sample of a line start, which restarted the timer, does not
happen (R52). -/
def execMeteringSample (a : Fin 6) (s : State) : Outcome := .next (s.expiry (.meteringSample a) (fun t => t.sample a))

/-- START_LINE (R81). -/
def execStartLine (p : PortId) (tag : Byte) (arm num k : Nat) (s : State) : Outcome :=
  .next (s.frame p tag 0x42#8 .consoleOnly (startLine arm num k))

/-- NO_FLOW_TIMEOUT (R87): acts on an arm in LOW_START whose no-flow timer runs. The timer stops with LOW_START. -/
def execNoFlowTimeout (a : Fin 6) (s : State) : Outcome :=
  .next (s.expiry (.noFlowTimeout a) (fun t =>
    if (t.arm a).state = .lowStart ∧ (t.arm a).noFlowTimer.isSome then t.raiseHold a .noFlow else t))

/-- END_LINE (R88). -/
def execEndLine (p : PortId) (tag : Byte) (arm : Nat) (s : State) : Outcome :=
  .next (s.frame p tag 0x45#8 .consoleOnly (endLine arm))

/-- SUSPEND_TIMEOUT (R95): acts on a SUSPENDED arm whose suspend timer runs. -/
def execSuspendTimeout (a : Fin 6) (s : State) : Outcome :=
  .next (s.expiry (.suspendTimeout a) (fun t =>
    if (t.arm a).state = .suspended ∧ (t.arm a).suspendTimer.isSome then
      t.endSuspended a .aborted (fun f => { f with suspendTimeout := true })
    else t))

/-- CLEAR_LOCKOUT (R97). -/
def execClearLockout (p : PortId) (tag : Byte) (arm : Nat) (s : State) : Outcome :=
  .next (s.frame p tag 0x31#8 .terminalOnly (clearLockout arm))

/-- READ_ARM (R101). -/
def execReadArm (p : PortId) (tag : Byte) (arm : Nat) (s : State) : Outcome :=
  .next (s.frame p tag 0x04#8 .either (readArm arm))

end Sys2Proof.Machine
end

