-- ==== Sys2Proof/Machine/Calibration.lean ====
section
/-!
DEFINITION. Calibration, seal and totalizers (08): the writes of the calibration store, the seal, trial factors, and
READ TOTALS.
-/

namespace Sys2Proof.Machine

/-! ### WRITE CALIBRATION (R149, R150) -/

/-- Checks 1 to 3 of WRITE CALIBRATION: the switch, the seal and the counter (R149). -/
def State.calibrationClosed (s : State) : List (Bool × ReplyCode) :=
  [(s.bay.switch == .locked, .switchLocked), (s.store.sealLevel != .sealOpen, .sealed),
   (decide (65535 ≤ s.store.counter), .counterFull)]

/-- The calibration event counter rises by 1, and the reply carries it (R147, R149). -/
def State.calibrated (s : State) : Answer :=
  (({ s with store := { s.store with counter := s.store.counter + 1 } } : State)).ok (field 2 (s.store.counter + 1))

/-- WRITE CALIBRATION of a meter item: the checks of R149, the item's BAD_FIELD test, and the write, which discards the
arm's pending trial factor. -/
def writeMeterItem (arm : Nat) (bad : Bool) (write : MeterStore → MeterStore) (s : State) : Answer :=
  match indexOf 6 arm with
  | none => s.checked s.calibrationClosed (s.refuse .badField)
  | some a =>
    s.checked (s.calibrationClosed ++ [((s.arm a).active.isSome, .armBusy), (bad, .badField)])
      (s.modifyMeterStore a (fun m => { write m with pendingTrial := none })).calibrated

/-- The BAD_FIELD test of a curve's points after a flow: strictly increasing flows and factors in range (R150). -/
def badCurveFrom : Nat → List CurvePoint → Bool
  | _, [] => false
  | last, p :: rest =>
    !within 1 5000 p.flow || decide (p.flow ≤ last) || !within 95000 105000 p.factor || badCurveFrom p.flow rest

/-- The BAD_FIELD test of a curve (R150). -/
def badCurve (points : List CurvePoint) : Bool := !within 1 4 points.length || badCurveFrom 0 points

/-- WRITE CALIBRATION of item kind 1 (R149, R150). -/
def writeKFactor (arm k : Nat) : State → Answer :=
  writeMeterItem arm (!within 1000 999999 k) (fun m => { m with kFactor := k })

/-- WRITE CALIBRATION of item kind 2 (R149, R150): the whole curve is replaced. -/
def writeCurve (arm : Nat) (points : List CurvePoint) : State → Answer :=
  writeMeterItem arm (badCurve points) (fun m => { m with curve := points })

/-- WRITE CALIBRATION of item kind 3 (R149, R150). -/
def writeOffset (arm : Nat) (offset : Int) : State → Answer :=
  writeMeterItem arm (!(decide (-200 ≤ offset) && decide (offset ≤ 200))) (fun m => { m with offset := offset })

/-- WRITE CALIBRATION of item kind 4 (R149, R150). -/
def writeInjectorItem (injector additive shotSize kf : Nat) (s : State) : Answer :=
  match indexOf 8 injector with
  | none => s.checked s.calibrationClosed (s.refuse .badField)
  | some i =>
    s.checked
      (s.calibrationClosed ++
        [((s.engagedBy i).isSome || (s.injector i).window.isSome, .armBusy),
         (!within 1 255 additive || !within 500 50000 shotSize || !within 100000 9999999 kf
            || (additive != (s.injectorStore i).additive && s.role i != .unassigned), .badField)])
      (s.modifyInjectorStore i (fun x =>
        { x with additive := additive, shotSize := shotSize, kFactor := kf })).calibrated

/-! ### Seal and trial factors (R152, R153) -/

/-- The order OPEN, HELD, FIXED (R152). -/
def SealLevel.rank : SealLevel → Nat
  | .sealOpen => 0
  | .sealHeld => 1
  | .sealFixed => 2

/-- Every pending trial factor is discarded (R152, R154). -/
def State.discardTrials (s : State) : State :=
  { s with store := { s.store with meters := s.store.meters.map (fun m => { m with pendingTrial := none }) } }

/-- The seal level takes a value; raising it to FIXED discards every pending trial factor (R152). -/
def State.raiseSeal (s : State) (l : SealLevel) : State :=
  let sealed := { s with store := { s.store with sealLevel := l } }
  if l = .sealFixed ∧ s.store.sealLevel ≠ .sealFixed then sealed.discardTrials else sealed

/-- SET SEAL (R152). -/
def setSeal (level : Nat) (s : State) : Answer :=
  match sealLevelOf level with
  | none => s.refuse .badField
  | some l => s.checked [(decide (l.rank < s.store.sealLevel.rank), .wrongState)] ((s.raiseSeal l).ok [])

/-- WRITE TRIAL FACTOR (R153): 0 withdraws the pending factor. -/
def writeTrialFactor (arm factor : Nat) (s : State) : Answer :=
  s.checked
    [(s.bay.switch == .locked, .switchLocked), (s.store.sealLevel == .sealFixed, .sealed),
     ((indexOf 6 arm).isNone || (factor != 0 && !within 95000 105000 factor), .badField)]
    (match indexOf 6 arm with
     | some a => (s.modifyMeterStore a (fun m => { m with pendingTrial := if factor = 0 then none else some factor })).ok []
     | none => s.refuse .badField)

/-! ### READ TOTALS (R158) -/

/-- READ TOTALS of a meter (R158). DEDUCED: of the trial factors READ TOTALS reports the pending one only (R154;
notes/assumptions/28.md). -/
def meterTotals (m : MeterStore) : List Byte :=
  totalizerField m.gross ++ totalizerField m.standard ++ field 4 m.kFactor ++ field 1 m.curve.length
    ++ m.curve.flatMap (fun p => field 2 p.flow ++ field 4 p.factor) ++ signedField 2 m.offset
    ++ optionalField 4 (field 4) m.pendingTrial

/-- READ TOTALS of an injector (R158). DESIGN CHOICE: its failed flag is sent as a yes-or-no byte, not as the injector
condition's code (notes/assumptions/13.md). -/
def injectorTotals (x : InjectorStore) : List Byte :=
  field 4 x.total.millilitres ++ field 4 x.total.remainder ++ field 1 x.additive ++ field 2 x.shotSize
    ++ field 4 x.kFactor ++ yesNo x.failed

/-- READ TOTALS (R158): 0 for the bay, 1 to 6 for a meter, 7 to 14 for an injector. -/
def readTotals (part : Nat) (s : State) : Answer :=
  if part = 0 then
    s.ok (field 2 s.store.counter ++ field 1 s.store.sealLevel.code ++ field 1 (switchCode s.bay.switch))
  else
    match indexOf 6 part, indexOf 8 (part - 6) with
    | some a, _ => s.ok (meterTotals (s.meterStore a))
    | none, some i => s.ok (injectorTotals (s.injectorStore i))
    | none, none => s.refuse .badField

/-! ### The commands -/

/-- WRITE_CALIBRATION_K_FACTOR (R149, R150). -/
def execWriteCalibrationKFactor (p : PortId) (tag : Byte) (arm k : Nat) (s : State) : Outcome :=
  .next (s.frame p tag 0x33#8 .terminalOnly (writeKFactor arm k))

/-- WRITE_CALIBRATION_CURVE (R149, R150). -/
def execWriteCalibrationCurve (p : PortId) (tag : Byte) (arm : Nat) (points : List CurvePoint) (s : State) : Outcome :=
  .next (s.frame p tag 0x33#8 .terminalOnly (writeCurve arm points))

/-- WRITE_CALIBRATION_OFFSET (R149, R150). -/
def execWriteCalibrationOffset (p : PortId) (tag : Byte) (arm : Nat) (offset : Int) (s : State) : Outcome :=
  .next (s.frame p tag 0x33#8 .terminalOnly (writeOffset arm offset))

/-- WRITE_CALIBRATION_INJECTOR (R149, R150). -/
def execWriteCalibrationInjector (p : PortId) (tag : Byte) (injector additive shotSize kf : Nat) (s : State) : Outcome :=
  .next (s.frame p tag 0x33#8 .terminalOnly (writeInjectorItem injector additive shotSize kf))

/-- CALIBRATION_SWITCH_CHANGE (R148): the position is state, and acts on nothing by itself. -/
def execCalibrationSwitchChange (x : SwitchPosition) (s : State) : Outcome :=
  .next { s with bay := { s.bay with switch := x } }

/-- SET_SEAL (R152). -/
def execSetSeal (p : PortId) (tag : Byte) (level : Nat) (s : State) : Outcome :=
  .next (s.frame p tag 0x34#8 .terminalOnly (setSeal level))

/-- WRITE_TRIAL_FACTOR (R153). -/
def execWriteTrialFactor (p : PortId) (tag : Byte) (arm factor : Nat) (s : State) : Outcome :=
  .next (s.frame p tag 0x35#8 .terminalOnly (writeTrialFactor arm factor))

/-- READ_TOTALS (R158). -/
def execReadTotals (p : PortId) (tag : Byte) (part : Nat) (s : State) : Outcome :=
  .next (s.frame p tag 0x08#8 .either (readTotals part))

end Sys2Proof.Machine
end

