-- ==== Sys2Proof/Machine/Holds.lean ====
section
/-!
DEFINITION. Holds and bay permissives (06): the requests that hold and resume an arm, the ground and overfill permissives,
the emergency stop and the deadman timer.
-/

namespace Sys2Proof.Machine

/-! ### The hold requests (R107 to R110) -/

/-- SUSPEND ARM and HOLD ARM: a cause is raised for an arm that carries an active line (R107, R108). -/
def holdRequest (c : HoldCause) (arm : Nat) (s : State) : Answer :=
  match indexOf 6 arm with
  | none => s.refuse .badField
  | some a => s.checked [((s.arm a).active.isNone, .wrongState)] ((s.raiseHold a c).ok [])

/-- The arm after a successful RESUME ARM (R109). -/
def Arm.resume (a : Arm) : Arm :=
  { a with
    holds := ((a.holds.put false .operator).put false .noFlow).put false .pulse
    suspendTimer := none
    state := .lowStart
    stageVolume := a.setup.restart
    stageGross := 0
    zeroRun := 0
    closeCount := 0
    noFlowTimer := some Config.noFlowTimeout }

/-- RESUME ARM (R109). -/
def resumeArm (arm : Nat) (s : State) : Answer :=
  match indexOf 6 arm with
  | none => s.refuse .badField
  | some a =>
    s.checked [((s.arm a).state != .suspended, .wrongState), ((s.arm a).holds.blocksResume, .held)]
      ((s.modifyArm a Arm.resume).restartDeadman.ok [])

/-- RELEASE ARM (R110). -/
def releaseArm (arm : Nat) (s : State) : Answer :=
  match indexOf 6 arm with
  | none => s.refuse .badField
  | some a => s.checked [((s.arm a).active.isNone, .wrongState)] ((s.clearHold a .terminal).ok [])

/-! ### The permissives (R112, R113) -/

/-- The hold cause of a permissive (R103). -/
def permissiveCause : Permissive → HoldCause
  | .ground => .ground
  | .overfill => .overfill

/-- The input ceases to be present (R112): recognized PRESENT, the loss is recognized at once and the cause raised for
every arm; already LOST, the restoration timer stops. -/
def State.losePermissive (s : State) (i : Permissive) : State :=
  let x := s.permissive i
  if x.level then
    if x.recognized = .present then
      ((s.modifyPermissive i (fun y => { y with level := false, recognized := .lost, timer := none })).forArms
        (fun a t => t.raiseHold a (permissiveCause i))).raise .permissiveLost 0
    else s.modifyPermissive i (fun y => { y with level := false, timer := none })
  else s

/-- The input becomes present (R113): recognized LOST, the restoration timer starts. -/
def State.returnPermissive (s : State) (i : Permissive) : State :=
  let x := s.permissive i
  if x.level then s
  else
    s.modifyPermissive i (fun y =>
      { y with level := true, timer := if y.recognized = .lost then some Config.restoreDelay else y.timer })

/-- The restoration timer expires (R113). -/
def State.restorePermissive (s : State) (i : Permissive) : State :=
  if (s.permissive i).timer.isSome then
    (s.modifyPermissive i (fun y => { y with recognized := .present, timer := none })).forArms
      (fun a t => t.clearHold a (permissiveCause i))
  else s

/-! ### The emergency stop (R114, R115) -/

def State.modifyStop (s : State) (f : StopInput → StopInput) : State :=
  { s with bay := { s.bay with stop := f s.bay.stop } }

/-- What the stop does to an arm's running line: its end is decided ABORTED with flag ESTOP (R114). -/
def State.stopLine (s : State) (a : Fin 6) : State :=
  if s.running a then s.closeForLineEnd a .aborted (fun f => { f with estop := true }) else s

/-- The activation of the stop (R114): dosing is abandoned, running lines are aborted, queued starts are dropped and
ESTOP is raised. -/
def State.activateStop (s : State) : State :=
  let active := s.modifyStop (fun x => { x with level := true, active := true, timer := none })
  let dosed := active.forArms (fun a t => t.stopDosing a)
  let aborted := dosed.forArms (fun a t => t.stopLine a)
  (aborted.forArms (fun a t => t.dropQueued a)).raise .estop 0

/-- The input becomes active (R114, R115): recognized INACTIVE, the activation is recognized at once; already ACTIVE,
the release timer stops. -/
def State.stopPressed (s : State) : State :=
  if s.bay.stop.level then s
  else if s.bay.stop.active then s.modifyStop (fun x => { x with level := true, timer := none })
  else s.activateStop

/-- The input becomes inactive (R115): recognized ACTIVE, the release timer starts. -/
def State.stopReleased (s : State) : State :=
  if s.bay.stop.level then
    s.modifyStop (fun x =>
      { x with level := false, timer := if x.active then some Config.restoreDelay else x.timer })
  else s

/-- The release timer expires: the stop is recognized INACTIVE (R115). -/
def State.stopTimeout (s : State) : State :=
  if s.bay.stop.timer.isSome then s.modifyStop (fun x => { x with active := false, timer := none }) else s

/-! ### The deadman timer (R117, R118) -/

/-- The elapsed time reaches 120 s with the warning-given item no (R117). -/
def State.warnDeadman (s : State) : State :=
  if s.bay.deadman.elapsed.isSome ∧ !s.bay.deadman.warned then
    (s.modifyDeadman (fun d => { d with warned := true })).raise .deadmanDue 0
  else s

/-- The deadman timer expires: DEADMAN is raised for every flowing arm, and the timer stops (R117). The warning is always
given before; a timer that runs without it has been restarted, and its old expiry does not happen (R120;
notes/assumptions/3.md). -/
def State.expireDeadman (s : State) : State :=
  if s.bay.deadman.elapsed.isSome ∧ s.bay.deadman.warned then
    (s.forArms (fun a t => if (t.arm a).state.flowing then t.raiseHold a .deadman else t)).modifyDeadman
      (fun d => { d with elapsed := none })
  else s

/-- A press (R118): DEADMAN is cleared from every set, and the timer restarts if any arm is flowing. -/
def State.pressDeadman (s : State) : State :=
  let cleared := s.forArms (fun a t => t.clearHold a .deadman)
  if cleared.anyFlowing then cleared.restartDeadman else cleared

/-- The button's level changes; the change from released to pressed is a press (06, "The deadman timer"). -/
def State.deadmanButton (s : State) (pressed : Bool) : State :=
  let moved := s.modifyDeadman (fun d => { d with pressed := pressed })
  if pressed && !s.bay.deadman.pressed then moved.pressDeadman else moved

/-! ### READ BAY (R119) -/

/-- READ BAY: one permissive. -/
def permissiveContent (x : PermissiveInput) : List Byte :=
  yesNo x.level ++ field 1 x.recognized.code ++ timerField x.timer

/-- READ BAY: one arm (R119). DESIGN CHOICE: whether its set holds GROUND, OVERFILL and DEADMAN is sent as three
yes-or-no bytes (notes/assumptions/13.md). -/
def holdsContent (a : Arm) : List Byte :=
  field 1 a.state.code ++ yesNo a.holds.ground ++ yesNo a.holds.overfill ++ yesNo a.holds.deadman

/-- READ BAY (R119). DESIGN CHOICE: the deadman timer is sent as whether it runs and 2 bytes of elapsed seconds, 0 while it
is stopped, without a presence byte (notes/assumptions/13.md). -/
def readBay (s : State) : Answer :=
  s.ok (bayTimeField s.now ++ yesNo s.clock.isSet ++ permissiveContent s.bay.ground ++ permissiveContent s.bay.overfill
    ++ yesNo s.bay.stop.level ++ field 1 (if s.bay.stop.active then 1 else 2) ++ timerField s.bay.stop.timer
    ++ yesNo s.bay.deadman.pressed ++ yesNo s.bay.deadman.elapsed.isSome
    ++ field 2 (secondsDown (s.bay.deadman.elapsed.getD 0)) ++ yesNo s.bay.deadman.warned
    ++ armList.flatMap (fun a => holdsContent (s.arm a)) ++ field 1 (switchCode s.bay.switch)
    ++ field 1 s.store.sealLevel.code ++ field 1 s.storedCount ++ field 1 s.reservations)

/-! ### The commands -/

/-- SUSPEND_ARM (R107). -/
def execSuspendArm (p : PortId) (tag : Byte) (arm : Nat) (s : State) : Outcome :=
  .next (s.frame p tag 0x43#8 .consoleOnly (holdRequest .operator arm))

/-- HOLD_ARM (R108). -/
def execHoldArm (p : PortId) (tag : Byte) (arm : Nat) (s : State) : Outcome :=
  .next (s.frame p tag 0x2F#8 .terminalOnly (holdRequest .terminal arm))

/-- RESUME_ARM (R109). -/
def execResumeArm (p : PortId) (tag : Byte) (arm : Nat) (s : State) : Outcome :=
  .next (s.frame p tag 0x44#8 .consoleOnly (resumeArm arm))

/-- RELEASE_ARM (R110). -/
def execReleaseArm (p : PortId) (tag : Byte) (arm : Nat) (s : State) : Outcome :=
  .next (s.frame p tag 0x30#8 .terminalOnly (releaseArm arm))

/-- PERMISSIVE_LOSS (R112). -/
def execPermissiveLoss (i : Permissive) (s : State) : Outcome := .next (s.losePermissive i)

/-- PERMISSIVE_INPUT_RETURN (R113). -/
def execPermissiveInputReturn (i : Permissive) (s : State) : Outcome := .next (s.returnPermissive i)

/-- PERMISSIVE_RESTORED (R113). -/
def execPermissiveRestored (i : Permissive) (s : State) : Outcome :=
  .next (s.expiry (.permissiveRestored i) (fun t => t.restorePermissive i))

/-- ESTOP_ACTIVATION (R114). -/
def execEstopActivation (s : State) : Outcome := .next s.stopPressed

/-- ESTOP_INPUT_RELEASE (R115). -/
def execEstopInputRelease (s : State) : Outcome := .next s.stopReleased

/-- ESTOP_RELEASE_TIMEOUT (R115). -/
def execEstopReleaseTimeout (s : State) : Outcome := .next (s.expiry .estopReleaseTimeout State.stopTimeout)

/-- DEADMAN_WARNING (R117). -/
def execDeadmanWarning (s : State) : Outcome := .next (s.expiry .deadmanWarning State.warnDeadman)

/-- DEADMAN_EXPIRY (R117). -/
def execDeadmanExpiry (s : State) : Outcome := .next (s.expiry .deadmanExpiry State.expireDeadman)

/-- DEADMAN_PRESS (R118), carrying the button's new level (notes/assumptions/7.md). -/
def execDeadmanPress (pressed : Bool) (s : State) : Outcome := .next (s.deadmanButton pressed)

/-- READ_BAY (R119). -/
def execReadBay (p : PortId) (tag : Byte) (s : State) : Outcome :=
  .next (s.frame p tag 0x01#8 .either readBay)

end Sys2Proof.Machine
end

