-- ==== Sys2Proof/Machine/Power.lean ====
section
/-!
DEFINITION. Power failure, cold start and warm restart: the power-fail save (R172, R173), the recovery of the save area
(R174, R175), the cold start of every block (R181) and RESTART (R182).
-/

namespace Sys2Proof.Machine

/-- The twenty-four order slots in ascending order. -/
def slotList : List (Fin 24) :=
  [0, 1, 2, 3, 4, 5, 6, 7, 8, 9, 10, 11, 12, 13, 14, 15, 16, 17, 18, 19, 20, 21, 22, 23]

/-! ### What the save and the restart share -/

/-- An active line's record is taken where it stands: its shots are abandoned, its end readings, additive totals and
overrun are fixed, and it ceases to be active on its arm (R93, R100, R141, R142, R157). -/
def State.takeLine (s : State) (a : Fin 6) (quiet : Bool) : State :=
  if (s.arm a).active.isSome then ((s.abandonDosing a).fixLine a quiet).modifyArm a Arm.releaseLine else s

/-- Every verify window stops and every solenoid is off: each injector is IDLE (R123). -/
def State.idleInjectors (s : State) : State :=
  { s with injectors := s.injectors.map (fun x => { x with window := none }) }

/-- What the save and the restart do to an arm: it carries no line, and one that is not LOCKED goes IDLE; the closing
reason is absent, the hold-cause set and the queued start are gone, the timers stop, the decoder is in STRAY mode, and the
reduced-flow flag is clear (R43, R99, R100, R133). -/
def Arm.rest (a : Arm) : Arm :=
  { a.releaseLine with
    state := if a.state = .locked then .locked else .idle
    reason := none
    queued := none
    noFlowTimer := none
    suspendTimer := none
    reducedFlow := false }

/-! ### The power-fail save (R172, R173) -/

/-- An order's timers stop (R172, step 3). -/
def Order.stopTimers (o : Order) : Order := { o with claimTimer := none, idleTimer := none }

/-- The images of the open orders, in ascending order slot (R173). An ACTIVE line keeps its standing in its image. -/
def State.images (s : State) : List Order :=
  s.orders.entries.filterMap (fun e => e.bind (fun o => if o.reserves then some o else none))

/-- The power-fail save, taken whole (R172). -/
def State.save (s : State) : State :=
  let taken := s.forArms (fun a t => (t.takeLine a true).modifyArm a Arm.rest)
  let stopped := { taken.idleInjectors with orders := taken.orders.map (Option.map Order.stopTimers) }
  let settled := stopped.settleDeadman
  { settled with
    journal := { settled.journal with saveArea := settled.images }
    bay := { settled.bay with powerFail := true, saved := true } }

/-! ### Cold start (R174, R175, R181) -/

/-- A line of a recovered order (R174). -/
def Line.recovered (l : Line) : Line :=
  match l.state with
  | .waiting => { l with state := .ended, result := some .notLoaded }
  | .active _ => { l with state := .ended, result := some (l.result.getD .aborted) }
  | .ended => l

/-- A saved order that delivered product (R174). -/
def Order.delivered (o : Order) : Bool := o.lines.any (fun l => decide (0 < l.record.gv))

/-- A saved order becomes a note, or is discarded (R174). -/
def State.recover (s : State) (o : Order) : State :=
  if o.delivered then s.compose { o with lines := o.lines.map Line.recovered } .interrupted else s

/-- The calibration store at cold start: HELD becomes OPEN, and no trial factor is pending (R146, R151, R154). -/
def Store.cold (x : Store) : Store :=
  { x with
    meters := x.meters.map (fun m => { m with pendingTrial := none })
    sealLevel := if x.sealLevel = .sealHeld then .sealOpen else x.sealLevel }

/-- The bay at cold start, by its inputs' levels at that moment (R111). -/
def Bay.cold (b : Bay) : Bay :=
  { b with
    ground := PermissiveInput.cold b.ground.level
    overfill := PermissiveInput.cold b.overfill.level
    stop := StopInput.cold b.stop.level
    deadman := ⟨b.deadman.pressed, none, false⟩
    saved := false }

/-- Every block at its cold-start values; the non-volatile storage, the inputs' levels and the model's queue, with the expiries
in it, are kept (R1, R5, R17, R19, R21, R43, R61, R79, R111, R121, R123, R146, R160, R181, R183). -/
def State.coldBlocks (s : State) : State :=
  { State.reset with
    store := s.store.cold
    journal := { s.journal with saveArea := [] }
    bay := s.bay.cold
    pending := s.pending
    due := s.due }

/-- The notices of a cold start that finds the save area written (R174; notes/assumptions/16.md). -/
def State.announceRecovery (s : State) (images : List Order) : State :=
  let noted := if images.any Order.delivered then s.raise .noteStored 0 else s
  if !images.isEmpty && decide (44 ≤ s.storedCount) then noted.raise .journalNearFull 0 else noted

/-- A cold start (R174, R175, R181). -/
def State.coldStart (s : State) : State :=
  (s.journal.saveArea.foldl State.recover s.coldBlocks).announceRecovery s.journal.saveArea

/-! ### Warm restart (R182) -/

/-- An active line of an order becomes ENDED on its arm, with its record as it stands: ABORTED if it was running, its
result kept if it was ending (R38). -/
def State.restartLine (s : State) (a : Fin 6) (ref : LineRef) : State :=
  (s.takeLine a false).modifyLine ref (fun l =>
    { l with state := .ended, result := some (l.result.getD .aborted) })

/-- The order table's treatment of a slot at warm restart (R38). -/
def State.restartSlot (s : State) (slot : Fin 24) : State :=
  match s.order slot with
  | none => s
  | some o =>
    if o.state = .loading ∨ o.state = .closing then
      let ended := s.forArms (fun a t =>
        match (t.arm a).active with
        | some ref => if ref.slot = slot then t.restartLine a ref else t
        | none => t)
      (ended.modifyOrder slot Order.endWaiting).closeQuietly slot .restart
    else (s.endClaim o.claimPermit).setOrder slot none

/-- An arm at warm restart: the arm at rest, its stray accumulator and stray carries 0 (R56, R99). -/
def Arm.restart (a : Arm) : Arm := { a.rest with stray := 0, strayCarries := Carries.zero }

/-- The notice unit empties a port's pending set and in-service set (R182, step 4). -/
def Port.empty (p : Port) : Port := { p with notices := [], inService := [] }

/-- The slots whose orders close with a note at a warm restart, in ascending order (R38). -/
def State.closingSlots (s : State) : List (Fin 24) :=
  slotList.filter (fun k =>
    match s.order k with
    | some o => o.state == .loading || o.state == .closing
    | none => false)

/-- Steps 1 to 3 of RESTART (R182). -/
def State.restartBlocks (s : State) : State :=
  let closed := slotList.foldl State.restartSlot s
  (({ closed with arms := closed.arms.map Arm.restart } : State).idleInjectors.discardTrials).settleDeadman

/-- Steps 1 to 5 of RESTART (R182). -/
def State.restart (s : State) : State :=
  let t := s.restartBlocks
  s.closingSlots.foldl State.announceClose { t with terminal := t.terminal.empty, console := t.console.empty }

/-- RESTART (R182): the reply carries the number of notes composed and the last sequence number. -/
def restart (s : State) : Answer :=
  let t := s.restart
  t.ok (field 1 s.closingSlots.length ++ field 4 t.journal.lastSequence)

/-! ### The commands -/

/-- POWER_FAIL_SAVE (R172): the warning asserts; the save is made once between two cold starts. -/
def execPowerFailSave (s : State) : Outcome :=
  if s.bay.saved then .next { s with bay := { s.bay with powerFail := true } } else .next s.save

/-- POWER_FAIL_WARNING_DEASSERT (R175): a deassertion after the save makes a cold start. -/
def execPowerFailWarningDeassert (s : State) : Outcome :=
  let t := { s with bay := { s.bay with powerFail := false } }
  if s.bay.saved then .next t.coldStart else .next t

/-- COLD_START (R174, R181): power-up or the reset input. -/
def execColdStart (s : State) : Outcome := .next s.coldStart

/-- RESTART (R182). -/
def execRestart (p : PortId) (tag : Byte) (s : State) : Outcome :=
  .next (s.frame p tag 0x37#8 .terminalOnly restart)

end Sys2Proof.Machine
end

