-- ==== Sys2Proof/Machine/Ports.lean ====
section
/-!
DEFINITION. Ports, requests and notices (10): the notice requests, the catalogue of requests by code (11), the reception
of characters and frames, transmission and link reset.
-/

namespace Sys2Proof.Machine

/-! ### The notice requests (R186 to R188) -/

/-- The rank of a notice by the first two keys of R186: ESTOP, then the level, lowest first. -/
def Port.rank (p : Port) (n : Notice) : Nat :=
  match p.levels.ofKind n.kind with
  | none => 0
  | some level => level + 1

/-- Whether one deliverable notice is fetched before another: ESTOP, the level, and then the kind code and the subject;
the kind codes follow the class order and the kind order (R186; 11, "Notice codes"). -/
def Port.before (p : Port) (m n : Notice) : Bool :=
  if p.rank m ≠ p.rank n then decide (p.rank m < p.rank n)
  else if m.kind.code ≠ n.kind.code then decide (m.kind.code < n.kind.code)
  else decide (m.subject < n.subject)

/-- The first of a list of notices in the order of R186. -/
def Port.first (p : Port) : List Notice → Option Notice
  | [] => none
  | n :: rest =>
    match p.first rest with
    | none => some n
    | some m => if p.before m n then some m else some n

/-- The notice that FETCH NOTICE chooses (R186). -/
def Port.chosen (p : Port) : Option Notice := p.first (p.notices.filter p.deliverable)

/-- The port after a fetch of a notice: it leaves the pending set, and its level enters the in-service set (R186). -/
def Port.fetch (p : Port) (n : Notice) : Port :=
  { p with
    notices := p.notices.filter (fun m => m != n)
    inService :=
      match p.levels.ofKind n.kind with
      | none => p.inService
      | some level => level :: p.inService }

/-- FETCH NOTICE (R186, R192). -/
def fetchNotice (p : PortId) (s : State) : Answer :=
  let port := s.port p
  match port.chosen with
  | none => s.ok (field 1 0 ++ field 1 0 ++ List.replicate 6 0#8 ++ field 1 port.notices.length)
  | some n =>
    let fetched := port.fetch n
    (s.modifyPort p (fun _ => fetched)).ok
      (field 1 n.kind.code ++ field 1 n.subject ++ bayTimeField n.time ++ field 1 fetched.notices.length)

/-- The numerically lowest level of an in-service set. -/
def lowest : List Nat → Option Nat
  | [] => none
  | l :: rest =>
    match lowest rest with
    | none => some l
    | some m => some (min l m)

/-- NOTICE DONE (R187). -/
def noticeDone (p : PortId) (s : State) : Answer :=
  match lowest (s.port p).inService with
  | none => s.refuse .wrongState
  | some l => (s.modifyPort p (fun x => { x with inService := x.inService.erase l })).ok (field 1 l)

/-- SET NOTICE LEVELS (R188). Bit 0 of the enables is ESTOP's (R191). -/
def setNoticeLevels (p : PortId) (designator safety batch dosing record : Nat) (enables : BitVec 16) (s : State) :
    Answer :=
  s.checked
    [(((portOf designator).map (fun q => q != p)).getD false, .notPermitted),
     ((portOf designator).isNone || decide (7 < safety) || decide (7 < batch) || decide (7 < dosing)
        || decide (7 < record) || !enables.getLsbD 0, .badField)]
    ((s.modifyPort p (fun x => { x with levels := ⟨safety, batch, dosing, record⟩, enables := enables })).ok [])

/-! ### The catalogue (R178; 11, "Request codes and request bodies") -/

/-- The judgement of a request, or none where the body's length does not match its form (R178, check 3). -/
abbrev Judgement := Option (State → Answer)

/-- A request whose body has a fixed length. -/
def sized (length : Nat) (body : List Byte) (judge : State → Answer) : Judgement :=
  if body.length = length then some judge else none

/-- WRITE CALIBRATION by its item kind; a kind outside 1 to 4 has no form (11). -/
def calibrationJudgement (body : List Byte) : Judgement :=
  let at' := fieldAt body
  match fieldAt body 0 1 with
  | 1 => sized 6 body (writeKFactor (at' 1 1) (at' 2 4))
  | 2 => sized (3 + 6 * at' 2 1) body (writeCurve (at' 1 1) (curvePointsAt body 3 (at' 2 1)))
  | 3 => sized 4 body (writeOffset (at' 1 1) (readSigned ((body.drop 2).take 2)))
  | 4 => sized 9 body (writeInjectorItem (at' 1 1) (at' 2 1) (at' 3 2) (at' 5 4))
  | _ => none

/-- The requests that either port may send. -/
def eitherJudgement (p : PortId) (code : Byte) (body : List Byte) : Option Judgement :=
  let at' := fieldAt body
  match code.toNat with
  | 0x01 => some (sized 0 body readBay)
  | 0x02 => some (sized 4 body (readPermit (at' 0 4)))
  | 0x03 => some (sized 6 body (readOrder (at' 0 4) (at' 4 1) (at' 5 1)))
  | 0x04 => some (sized 1 body (readArm (at' 0 1)))
  | 0x05 => some (sized 1 body (readInjector (at' 0 1)))
  | 0x06 => some (sized 5 body (readNote (at' 0 4) (at' 4 1)))
  | 0x07 => some (sized 0 body listNotes)
  | 0x08 => some (sized 1 body (readTotals (at' 0 1)))
  | 0x09 => some (sized 1 body (readStatistics (at' 0 1)))
  | 0x0A => some (sized 0 body (fetchNotice p))
  | 0x0B => some (sized 0 body (noticeDone p))
  | 0x0C => some (sized 7 body
      (setNoticeLevels p (at' 0 1) (at' 1 1) (at' 2 1) (at' 3 1) (at' 4 1) (BitVec.ofNat 16 (at' 5 2))))
  | _ => none

/-- The requests of the terminal port only. -/
def terminalJudgement (code : Byte) (body : List Byte) : Option Judgement :=
  let at' := fieldAt body
  match code.toNat with
  | 0x20 => some (sized 6 body (setClock (at' 0 2) (at' 2 4)))
  | 0x21 => some (sized 10 body (writePermit (at' 0 4) (at' 4 2) (BitVec.ofNat 8 (at' 6 1)) (at' 7 2) (at' 9 1)))
  | 0x22 => some (sized 4 body (barPermit (at' 0 4)))
  | 0x23 => some (sized 4 body (deletePermit (at' 0 4)))
  | 0x24 => some (sized 23 body
      (writeProduct (at' 0 1) (at' 1 1) ((body.drop 2).take 16) (at' 18 1) (at' 19 2) (at' 21 2)))
  | 0x25 => some (sized 5 body (writeRecipe (at' 0 1) (at' 1 1) (at' 2 2) (at' 4 1)))
  | 0x26 => some (sized 10 body (writeArmSetup (at' 0 1) (at' 1 1) (at' 2 2) (at' 4 2) (at' 6 2) (at' 8 2)))
  | 0x27 => some (sized 3 body (assignInjector (at' 0 1) (at' 1 1) (at' 2 1)))
  | 0x28 => some (sized 2 body (removeInjector (at' 0 1) (at' 1 1)))
  | 0x29 => some (sized 2 body (assignStandby (at' 0 1) (at' 1 1)))
  | 0x2A => some (sized 1 body (releaseStandby (at' 0 1)))
  | 0x2B => some (sized 1 body (returnInjector (at' 0 1)))
  | 0x2C => some (sized (15 + 6 * at' 14 1) body
      (postOrder (at' 0 4) (at' 4 4) (at' 8 2) (at' 10 4) (lineEntriesAt body 15 (at' 14 1))))
  | 0x2D => some (sized (13 + 6 * at' 12 1) body
      (amendOrder (at' 0 4) (at' 4 4) (at' 8 4) (lineEntriesAt body 13 (at' 12 1))))
  | 0x2E => some (sized 4 body (cancelOrder (at' 0 4)))
  | 0x2F => some (sized 1 body (holdRequest .terminal (at' 0 1)))
  | 0x30 => some (sized 1 body (releaseArm (at' 0 1)))
  | 0x31 => some (sized 1 body (clearLockout (at' 0 1)))
  | 0x32 => some (sized 4 body (collectNote (at' 0 4)))
  | 0x33 => some (calibrationJudgement body)
  | 0x34 => some (sized 1 body (setSeal (at' 0 1)))
  | 0x35 => some (sized 5 body (writeTrialFactor (at' 0 1) (at' 1 4)))
  | 0x36 => some (sized 1 body (readAndClearStatistics (at' 0 1)))
  | 0x37 => some (sized 0 body restart)
  | _ => none

/-- The requests of the console port only. -/
def consoleJudgement (code : Byte) (body : List Byte) : Option Judgement :=
  let at' := fieldAt body
  match code.toNat with
  | 0x40 => some (sized 12 body (presentPermit (at' 0 4) (at' 4 4) (at' 8 4)))
  | 0x41 => some (sized 4 body (releaseClaim (at' 0 4)))
  | 0x42 => some (sized 6 body (startLine (at' 0 1) (at' 1 4) (at' 5 1)))
  | 0x43 => some (sized 1 body (holdRequest .operator (at' 0 1)))
  | 0x44 => some (sized 1 body (resumeArm (at' 0 1)))
  | 0x45 => some (sized 1 body (endLine (at' 0 1)))
  | 0x46 => some (sized 4 body (finishOrder (at' 0 4)))
  | 0x47 => some (sized 4 body (markPrinted (at' 0 4)))
  | _ => none

/-- The request a code names: who may send it, and the judgement of a body (R178). -/
def catalogue (p : PortId) (code : Byte) (body : List Byte) : Option (Senders × Judgement) :=
  match eitherJudgement p code body, terminalJudgement code body, consoleJudgement code body with
  | some j, _, _ => some (.either, j)
  | none, some j, _ => some (.terminalOnly, j)
  | none, none, some j => some (.consoleOnly, j)
  | none, none, none => none

/-- A valid frame completes: its request is judged by the checks of R178, in order. -/
def State.dispatchFrame (s : State) (p : PortId) (tag code : Byte) (body : List Byte) : State :=
  match catalogue p code body with
  | none => s.frame p tag code .either (fun t => t.refuse .unknownRequest)
  | some (who, none) => s.frame p tag code who (fun t => t.refuse .badField)
  | some (who, some judge) => s.frame p tag code who judge

/-! ### Receiving (R177) -/

/-- The frame in progress with one more byte, and the gap timer restarted (R177). -/
def Port.take (p : Port) (b : Byte) : Port :=
  { p with receive := p.receive ++ [b], gapTimer := some Config.frameGap }

/-- The length byte of a frame in progress, once received. -/
def frameLength (frame : List Byte) : Option Nat := frame[1]?.map BitVec.toNat

/-- A whole frame's tag, code and body. -/
def frameParts (frame : List Byte) : Byte × Byte × List Byte :=
  (frame.getD 2 0#8, frame.getD 3 0#8, (frame.drop 4).take (frame.length - 6))

/-- A frame's last byte has arrived (R177, R178). -/
def State.completeFrame (s : State) (p : PortId) (frame : List Byte) : State :=
  if frameMatches frame then
    let parts := frameParts frame
    s.dispatchFrame p parts.1 parts.2.1 parts.2.2
  else s.modifyPort p Port.hunt

/-- A character arrives on a port (R177). -/
def State.receive (s : State) (p : PortId) (b : Byte) : State :=
  let port := s.port p
  if port.receive.isEmpty then
    if b = Config.syncByte then s.modifyPort p (fun x => x.take b) else s
  else
    let frame := port.receive ++ [b]
    match frameLength frame with
    | none => s.modifyPort p (fun x => x.take b)
    | some n =>
      if 240 < n then s.modifyPort p Port.hunt
      else if frame.length < n + 6 then s.modifyPort p (fun x => x.take b)
      else s.completeFrame p frame

/-! ### Transmission and link reset (R179, R180) -/

/-- The last byte of a reply is sent: an owed PORT_BUSY follows, unless the power-fail save has been made (R179, R181). -/
def Port.sent (saved : Bool) (p : Port) : Port :=
  match p.transmit with
  | none => p
  | some _ =>
    match p.owed with
    | none => { p with transmit := none }
    | some (tag, code) =>
      { p with transmit := if saved then none else some (portBusyFrame tag code), owed := none }

/-- A link reset (R180). -/
def Port.reset (p : Port) : Port := { p.hunt with owed := none, inService := [] }

/-! ### The commands -/

/-- FETCH_NOTICE (R186). -/
def execFetchNotice (p : PortId) (tag : Byte) (s : State) : Outcome :=
  .next (s.frame p tag 0x0A#8 .either (fetchNotice p))

/-- NOTICE_DONE (R187). -/
def execNoticeDone (p : PortId) (tag : Byte) (s : State) : Outcome :=
  .next (s.frame p tag 0x0B#8 .either (noticeDone p))

/-- SET_NOTICE_LEVELS (R188). -/
def execSetNoticeLevels (p : PortId) (tag : Byte) (designator safety batch dosing record : Nat) (enables : BitVec 16)
    (s : State) : Outcome :=
  .next (s.frame p tag 0x0C#8 .either (setNoticeLevels p designator safety batch dosing record enables))

/-- FRAME_GAP_TIMEOUT (R177): acts while the gap timer runs. -/
def execFrameGapTimeout (p : PortId) (s : State) : Outcome :=
  .next (s.expiry (.frameGapTimeout p) (fun t =>
    if (t.port p).gapTimer.isSome then t.modifyPort p Port.hunt else t))

/-- CHARACTER_FAULT (R177). -/
def execCharacterFault (p : PortId) (s : State) : Outcome := .next (s.modifyPort p Port.hunt)

/-- FRAME_BAD_CRC (R177): the completed frame leaves the receive buffer, and nothing else changes. -/
def execFrameBadCrc (p : PortId) (s : State) : Outcome := .next (s.modifyPort p Port.hunt)

/-- UNKNOWN_REQUEST (R178): the valid frame of a code that is no request code. -/
def execUnknownRequest (p : PortId) (tag code : Byte) (body : List Byte) (s : State) : Outcome :=
  .next (s.dispatchFrame p tag code body)

/-- FRAME_WHILE_BUSY (R179): a valid frame completes. Where the transmitter is not busy after all, the frame is
dispatched (notes/assumptions/10.md). -/
def execFrameWhileBusy (p : PortId) (tag code : Byte) (body : List Byte) (s : State) : Outcome :=
  .next (s.dispatchFrame p tag code body)

/-- TRANSMISSION_END (R179). -/
def execTransmissionEnd (p : PortId) (s : State) : Outcome :=
  .next (s.modifyPort p (Port.sent s.bay.saved))

/-- LINK_RESET (R180). -/
def execLinkReset (p : PortId) (s : State) : Outcome := .next (s.modifyPort p Port.reset)

/-- CHARACTER_RECEIVED (R177, R178). -/
def execCharacterReceived (p : PortId) (b : Byte) (s : State) : Outcome := .next (s.receive p b)

end Sys2Proof.Machine
end

