-- ==== Sys2Proof/Machine/Temperature.lean ====
section
/-!
DEFINITION. The temperature unit (04): the reference gate, the probes' temperatures and their standing.
-/

namespace Sys2Proof.Machine

/-! ### The judgement of a gate (R64) -/

/-- The raw temperature of a count, in centi-degrees, rounded to nearest, halves away from zero (R64). -/
def rawTemperature (np : Nat) : Int :=
  roundHalfAway (((Config.gateLength : Int) - np) * 10000000) (385 * np)

/-- The T of a completed gate; none where the count is 0 (R64). -/
def gateTemperature (np : Nat) (offset : Int) : Option Int :=
  if np = 0 then none else some (rawTemperature np + offset)

/-- Whether a gate's temperature makes it valid (R64). -/
def validGate (t : Int) : Bool := decide (-4500 ≤ t) && decide (t ≤ 6500)

/-! ### The probe's standing (R65, R66) -/

/-- What a gate brings about on the probe's arm (R67). -/
inductive ProbeEvent where
  | none
  | failed
  | recovered
deriving DecidableEq, Repr

/-- The probe after a valid gate of temperature T (R65). -/
def Probe.validMove (p : Probe) (t : Int) : Probe × ProbeEvent :=
  match p.status with
  | .unknown => ({ p with status := .valid, temperature := t, invalidRun := 0 }, .none)
  | .valid => ({ p with temperature := t }, .none)
  | .holding => ({ p with status := .valid, temperature := t, invalidRun := 0 }, .none)
  | .failed =>
    if p.recoveryRun < 2 then ({ p with recoveryRun := p.recoveryRun + 1 }, .none)
    else ({ p with status := .valid, temperature := t, invalidRun := 0, recoveryRun := 0 }, .recovered)

/-- The probe after an invalid gate (R66). -/
def Probe.invalidMove (p : Probe) : Probe × ProbeEvent :=
  match p.status with
  | .unknown =>
    if p.invalidRun < 10 then ({ p with invalidRun := p.invalidRun + 1 }, .none)
    else ({ p with status := .failed, invalidRun := 11 }, .failed)
  | .valid => ({ p with status := .holding, invalidRun := 1 }, .none)
  | .holding =>
    if p.invalidRun < 10 then ({ p with invalidRun := p.invalidRun + 1 }, .none)
    else ({ p with status := .failed, invalidRun := 11 }, .failed)
  | .failed => ({ p with recoveryRun := 0 }, .none)

/-- The probe at the end of a gate whose T is `t` (`none`: the count was 0, or the gate timed out) (R62 to R66). -/
def Probe.judge (p : Probe) (t : Option Int) : Probe × ProbeEvent :=
  let q := { p with count := 0, lastGate := t }
  match t with
  | some x => if validGate x then q.validMove x else q.invalidMove
  | none => q.invalidMove

/-! ### The gate's end -/

/-- A probe's status acts on its arm (R67). -/
def State.probeActs (s : State) (a : Fin 6) : ProbeEvent → State
  | .none => s
  | .failed => (s.raise .probeFault (number a)).raiseHold a .probe
  | .recovered => s.clearHold a .probe

/-- One probe is judged at the end of a gate (R62, R63). -/
def State.judgeProbe (s : State) (a : Fin 6) (timedOut : Bool) : State :=
  let p := s.probes.get a
  let r := p.judge (if timedOut then none else gateTemperature p.count (s.meterStore a).offset)
  ({ s with probes := s.probes.set a r.1 } : State).probeActs a r.2

/-- The gate ends: every probe is judged, the counts become 0 and the next gate begins (R62, R63). -/
def State.endGate (s : State) (timedOut : Bool) : State :=
  ({ s with gate := Gate.cold } : State).forArms (fun a t => t.judgeProbe a timedOut)

/-! ### The commands -/

/-- GATE_COMPLETION (R62). The command is the completing reference edge itself (notes/assumptions/9.md). -/
def execGateCompletion (s : State) : Outcome := .next (s.endGate false)

/-- GATE_TIMEOUT (R63). -/
def execGateTimeout (s : State) : Outcome := .next (s.expiry .gateTimeout (fun t => t.endGate true))

/-- REFERENCE_EDGE (R62): the edge that brings the count to 40,000 completes the gate. -/
def execReferenceEdge (s : State) : Outcome :=
  if s.gate.referenceCount + 1 < Config.gateLength then
    .next { s with gate := { s.gate with referenceCount := s.gate.referenceCount + 1 } }
  else .next (s.endGate false)

/-- PROBE_EDGE (R62): the count saturates. -/
def execProbeEdge (a : Fin 6) (s : State) : Outcome :=
  .next { s with probes := s.probes.modify a (fun p =>
    { p with count := if p.count < Config.maxCount32 then p.count + 1 else Config.maxCount32 }) }

end Sys2Proof.Machine
end

