-- ==== Sys2Proof/Machine/Dispatch.lean ====
section
/-!
DEFINITION. One arm per command: each calls the command's meaning.
-/

namespace Sys2Proof.Machine

/-- The effect of a command on everything but the queue. -/
def exec (i : Instr) (s : State) : Host.Outcome State Fault Refusal :=
  match i with
  | .setClock port tag day second => Sys2Proof.Machine.execSetClock port tag day second s
  | .writePermit port tag permit carrier classes expiry state => Sys2Proof.Machine.execWritePermit port tag permit carrier classes expiry state s
  | .barPermit port tag permit => Sys2Proof.Machine.execBarPermit port tag permit s
  | .deletePermit port tag permit => Sys2Proof.Machine.execDeletePermit port tag permit s
  | .readPermit port tag permit => Sys2Proof.Machine.execReadPermit port tag permit s
  | .writeProduct port tag slot nameLength name cls coefA coefB => Sys2Proof.Machine.execWriteProduct port tag slot nameLength name cls coefA coefB s
  | .writeArmSetup port tag arm product lowStart restartVolume topOff overrunLimit => Sys2Proof.Machine.execWriteArmSetup port tag arm product lowStart restartVolume topOff overrunLimit s
  | .postOrder port tag order permit carrier tanker lines => Sys2Proof.Machine.execPostOrder port tag order permit carrier tanker lines s
  | .amendOrder port tag order permit tanker lines => Sys2Proof.Machine.execAmendOrder port tag order permit tanker lines s
  | .presentPermit port tag permit tanker order => Sys2Proof.Machine.execPresentPermit port tag permit tanker order s
  | .releaseClaim port tag order => Sys2Proof.Machine.execReleaseClaim port tag order s
  | .claimTimeout slot => Sys2Proof.Machine.execClaimTimeout slot s
  | .idleOrderTimeout slot => Sys2Proof.Machine.execIdleOrderTimeout slot s
  | .finishOrder port tag order => Sys2Proof.Machine.execFinishOrder port tag order s
  | .cancelOrder port tag order => Sys2Proof.Machine.execCancelOrder port tag order s
  | .readOrder port tag order slot part => Sys2Proof.Machine.execReadOrder port tag order slot part s
  | .meterEdge arm channel => Sys2Proof.Machine.execMeterEdge arm channel s
  | .meteringSample arm => Sys2Proof.Machine.execMeteringSample arm s
  | .gateCompletion => Sys2Proof.Machine.execGateCompletion s
  | .gateTimeout => Sys2Proof.Machine.execGateTimeout s
  | .readStatistics port tag arm => Sys2Proof.Machine.execReadStatistics port tag arm s
  | .readAndClearStatistics port tag arm => Sys2Proof.Machine.execReadAndClearStatistics port tag arm s
  | .startLine port tag arm order line => Sys2Proof.Machine.execStartLine port tag arm order line s
  | .noFlowTimeout arm => Sys2Proof.Machine.execNoFlowTimeout arm s
  | .endLine port tag arm => Sys2Proof.Machine.execEndLine port tag arm s
  | .suspendTimeout arm => Sys2Proof.Machine.execSuspendTimeout arm s
  | .clearLockout port tag arm => Sys2Proof.Machine.execClearLockout port tag arm s
  | .readArm port tag arm => Sys2Proof.Machine.execReadArm port tag arm s
  | .suspendArm port tag arm => Sys2Proof.Machine.execSuspendArm port tag arm s
  | .holdArm port tag arm => Sys2Proof.Machine.execHoldArm port tag arm s
  | .resumeArm port tag arm => Sys2Proof.Machine.execResumeArm port tag arm s
  | .releaseArm port tag arm => Sys2Proof.Machine.execReleaseArm port tag arm s
  | .permissiveLoss input => Sys2Proof.Machine.execPermissiveLoss input s
  | .permissiveInputReturn input => Sys2Proof.Machine.execPermissiveInputReturn input s
  | .permissiveRestored input => Sys2Proof.Machine.execPermissiveRestored input s
  | .estopActivation => Sys2Proof.Machine.execEstopActivation s
  | .estopInputRelease => Sys2Proof.Machine.execEstopInputRelease s
  | .estopReleaseTimeout => Sys2Proof.Machine.execEstopReleaseTimeout s
  | .deadmanWarning => Sys2Proof.Machine.execDeadmanWarning s
  | .deadmanExpiry => Sys2Proof.Machine.execDeadmanExpiry s
  | .deadmanPress pressed => Sys2Proof.Machine.execDeadmanPress pressed s
  | .readBay port tag => Sys2Proof.Machine.execReadBay port tag s
  | .writeRecipe port tag slot additive rate tolerance => Sys2Proof.Machine.execWriteRecipe port tag slot additive rate tolerance s
  | .assignInjector port tag arm position injector => Sys2Proof.Machine.execAssignInjector port tag arm position injector s
  | .removeInjector port tag arm position => Sys2Proof.Machine.execRemoveInjector port tag arm position s
  | .assignStandby port tag primary standby => Sys2Proof.Machine.execAssignStandby port tag primary standby s
  | .releaseStandby port tag injector => Sys2Proof.Machine.execReleaseStandby port tag injector s
  | .returnInjector port tag injector => Sys2Proof.Machine.execReturnInjector port tag injector s
  | .injectorFeedbackPulse injector => Sys2Proof.Machine.execInjectorFeedbackPulse injector s
  | .verifyWindowExpiry injector => Sys2Proof.Machine.execVerifyWindowExpiry injector s
  | .readInjector port tag injector => Sys2Proof.Machine.execReadInjector port tag injector s
  | .writeCalibrationKFactor port tag arm kFactor => Sys2Proof.Machine.execWriteCalibrationKFactor port tag arm kFactor s
  | .writeCalibrationCurve port tag arm points => Sys2Proof.Machine.execWriteCalibrationCurve port tag arm points s
  | .writeCalibrationOffset port tag arm offset => Sys2Proof.Machine.execWriteCalibrationOffset port tag arm offset s
  | .writeCalibrationInjector port tag injector additive shotSize kFactor => Sys2Proof.Machine.execWriteCalibrationInjector port tag injector additive shotSize kFactor s
  | .calibrationSwitchChange position => Sys2Proof.Machine.execCalibrationSwitchChange position s
  | .setSeal port tag level => Sys2Proof.Machine.execSetSeal port tag level s
  | .writeTrialFactor port tag arm factor => Sys2Proof.Machine.execWriteTrialFactor port tag arm factor s
  | .readTotals port tag part => Sys2Proof.Machine.execReadTotals port tag part s
  | .collectNote port tag sequenceNumber => Sys2Proof.Machine.execCollectNote port tag sequenceNumber s
  | .markPrinted port tag sequenceNumber => Sys2Proof.Machine.execMarkPrinted port tag sequenceNumber s
  | .readNote port tag sequenceNumber part => Sys2Proof.Machine.execReadNote port tag sequenceNumber part s
  | .listNotes port tag => Sys2Proof.Machine.execListNotes port tag s
  | .powerFailSave => Sys2Proof.Machine.execPowerFailSave s
  | .powerFailWarningDeassert => Sys2Proof.Machine.execPowerFailWarningDeassert s
  | .coldStart => Sys2Proof.Machine.execColdStart s
  | .restart port tag => Sys2Proof.Machine.execRestart port tag s
  | .fetchNotice port tag => Sys2Proof.Machine.execFetchNotice port tag s
  | .noticeDone port tag => Sys2Proof.Machine.execNoticeDone port tag s
  | .setNoticeLevels port tag designator safety batch dosing record enables => Sys2Proof.Machine.execSetNoticeLevels port tag designator safety batch dosing record enables s
  | .frameGapTimeout port => Sys2Proof.Machine.execFrameGapTimeout port s
  | .characterFault port => Sys2Proof.Machine.execCharacterFault port s
  | .frameBadCrc port => Sys2Proof.Machine.execFrameBadCrc port s
  | .unknownRequest port tag code body => Sys2Proof.Machine.execUnknownRequest port tag code body s
  | .frameWhileBusy port tag code body => Sys2Proof.Machine.execFrameWhileBusy port tag code body s
  | .transmissionEnd port => Sys2Proof.Machine.execTransmissionEnd port s
  | .linkReset port => Sys2Proof.Machine.execLinkReset port s
  | .clockAdvance => Sys2Proof.Machine.execClockAdvance s
  | .referenceEdge => Sys2Proof.Machine.execReferenceEdge s
  | .probeEdge probe => Sys2Proof.Machine.execProbeEdge probe s
  | .characterReceived port character => Sys2Proof.Machine.execCharacterReceived port character s

end Sys2Proof.Machine
end

