-- ==== Sys2Proof/Machine/Step.lean ====
section
/-!
DEFINITION. The step: the command at the front of the queue, or, on an empty queue, one millisecond of time.

The spec gives no command for the passing of time, but says when each timer expires. On an empty queue a step is one
millisecond: every running timer comes nearer to its expiry, and the commands of the timers that expire are queued, in a
fixed order (DESIGN CHOICE, notes/assumptions/2.md).
-/

namespace Sys2Proof.Machine

/-! ### One millisecond (notes/assumptions/2.md) -/

/-- A running timer one millisecond later. -/
def elapse (t : Option Nat) : Option Nat := t.map (fun ms => ms - 1)

def Order.elapse (o : Order) : Order :=
  { o with claimTimer := Machine.elapse o.claimTimer, idleTimer := Machine.elapse o.idleTimer }

def Arm.elapse (a : Arm) : Arm :=
  { a with
    sampleTimer := a.sampleTimer - 1
    noFlowTimer := Machine.elapse a.noFlowTimer
    suspendTimer := Machine.elapse a.suspendTimer
    dosing := a.dosing.map (fun r => { r with late := none }) }

/-- A millisecond ends what one moment's two events still owe each other (R145). -/
def Injector.elapse (x : Injector) : Injector := { x with window := Machine.elapse x.window, voided := false }

def Port.elapse (p : Port) : Port := { p with gapTimer := Machine.elapse p.gapTimer }

def Bay.elapse (b : Bay) : Bay :=
  { b with
    ground := { b.ground with timer := Machine.elapse b.ground.timer }
    overfill := { b.overfill with timer := Machine.elapse b.overfill.timer }
    stop := { b.stop with timer := Machine.elapse b.stop.timer }
    deadman := { b.deadman with elapsed := b.deadman.elapsed.map (fun ms => ms + 1) } }

/-- Every timer one millisecond later. -/
def State.elapse (s : State) : State :=
  { s with
    clock := { s.clock with timer := s.clock.timer - 1 }
    orders := s.orders.map (Option.map Order.elapse)
    arms := s.arms.map Arm.elapse
    gate := { s.gate with timer := s.gate.timer - 1 }
    injectors := s.injectors.map Injector.elapse
    bay := s.bay.elapse
    terminal := s.terminal.elapse
    console := s.console.elapse }

/-- The expiry commands, in the order in which the model queues those of one millisecond: the metering samples come last
(notes/assumptions/2.md). -/
def expiryCommands : List Instr :=
  [.clockAdvance, .gateTimeout, .permissiveRestored .ground, .permissiveRestored .overfill, .estopReleaseTimeout,
    .deadmanWarning, .deadmanExpiry, .frameGapTimeout .terminal, .frameGapTimeout .console]
    ++ slotList.flatMap (fun slot => [.claimTimeout slot, .idleOrderTimeout slot])
    ++ armList.flatMap (fun a => [.noFlowTimeout a, .suspendTimeout a])
    ++ injectorList.map .verifyWindowExpiry ++ armList.map .meteringSample

/-- The expiries of the timers that have run out. -/
def State.expiries (s : State) : List Instr := expiryCommands.filter s.ranOut

/-- One millisecond passes: the timers run, and the expiries are queued. -/
def State.tick (s : State) : State := { s.elapse with pending := s.elapse.expiries, due := s.elapse.expiries }

/-! ### The step -/

/-- One step: the command at the front of the queue, run on the state that holds the rest of the queue; on an empty queue,
one millisecond. -/
def step (s : State) : Host.Outcome State Fault Refusal :=
  match s.pending with
  | c :: rest => exec c { s with pending := rest }
  | [] => .next s.tick

/-- The state with the command that a word spells put at the front of the queue; no word spells one. -/
def State.withFetchWord (s : State) (nbits w : Nat) : State :=
  match decodeTableWord nbits w with
  | some c => { s with pending := c :: s.pending }
  | none => s

end Sys2Proof.Machine
end

