-- ==== Sys2Proof/Machine/Requests.lean ====
section
/-!
DEFINITION. The frame that carries a request command: its port, its tag, its code and its body, byte by byte (11, "Request
codes and request bodies"). Nothing in the machine reads it: it is the layout written the other way round, for the
statements about frames.
-/

namespace Sys2Proof.Machine

/-- An order line entry as its 6 bytes (11). -/
def lineBytes (l : LineSpec) : List Byte :=
  bigEndian 1 l.compartment ++ bigEndian 1 l.product ++ bigEndian 2 l.preset ++ bigEndian 1 l.basis
    ++ bigEndian 1 l.recipe

/-- A curve point as its 6 bytes (11). -/
def pointBytes (p : CurvePoint) : List Byte := bigEndian 2 p.flow ++ bigEndian 4 p.factor

/-- The port, tag, code and body of the frame that carries a request; none for an event of the field or a timer. -/
def requestFrame : Instr → Option (PortId × Byte × Byte × List Byte)
  | .setClock p tag day second => some (p, tag, 0x20#8, bigEndian 2 day ++ bigEndian 4 second)
  | .writePermit p tag permit carrier classes expiry state =>
    some (p, tag, 0x21#8,
      bigEndian 4 permit ++ bigEndian 2 carrier ++ [classes] ++ bigEndian 2 expiry ++ bigEndian 1 state)
  | .barPermit p tag permit => some (p, tag, 0x22#8, bigEndian 4 permit)
  | .deletePermit p tag permit => some (p, tag, 0x23#8, bigEndian 4 permit)
  | .readPermit p tag permit => some (p, tag, 0x02#8, bigEndian 4 permit)
  | .writeProduct p tag slot nameLength name cls coefA coefB =>
    some (p, tag, 0x24#8,
      bigEndian 1 slot ++ bigEndian 1 nameLength ++ name ++ bigEndian 1 cls ++ bigEndian 2 coefA ++ bigEndian 2 coefB)
  | .writeArmSetup p tag arm product lowStart restartVolume topOff overrunLimit =>
    some (p, tag, 0x26#8,
      bigEndian 1 arm ++ bigEndian 1 product ++ bigEndian 2 lowStart ++ bigEndian 2 restartVolume ++ bigEndian 2 topOff
        ++ bigEndian 2 overrunLimit)
  | .postOrder p tag order permit carrier tanker lines =>
    some (p, tag, 0x2C#8,
      bigEndian 4 order ++ bigEndian 4 permit ++ bigEndian 2 carrier ++ bigEndian 4 tanker
        ++ bigEndian 1 lines.length ++ lines.flatMap lineBytes)
  | .amendOrder p tag order permit tanker lines =>
    some (p, tag, 0x2D#8,
      bigEndian 4 order ++ bigEndian 4 permit ++ bigEndian 4 tanker ++ bigEndian 1 lines.length
        ++ lines.flatMap lineBytes)
  | .presentPermit p tag permit tanker order =>
    some (p, tag, 0x40#8, bigEndian 4 permit ++ bigEndian 4 tanker ++ bigEndian 4 order)
  | .releaseClaim p tag order => some (p, tag, 0x41#8, bigEndian 4 order)
  | .claimTimeout _ => none
  | .idleOrderTimeout _ => none
  | .finishOrder p tag order => some (p, tag, 0x46#8, bigEndian 4 order)
  | .cancelOrder p tag order => some (p, tag, 0x2E#8, bigEndian 4 order)
  | .readOrder p tag order slot part =>
    some (p, tag, 0x03#8, bigEndian 4 order ++ bigEndian 1 slot ++ bigEndian 1 part)
  | .meterEdge _ _ => none
  | .meteringSample _ => none
  | .gateCompletion => none
  | .gateTimeout => none
  | .readStatistics p tag arm => some (p, tag, 0x09#8, bigEndian 1 arm)
  | .readAndClearStatistics p tag arm => some (p, tag, 0x36#8, bigEndian 1 arm)
  | .startLine p tag arm order line =>
    some (p, tag, 0x42#8, bigEndian 1 arm ++ bigEndian 4 order ++ bigEndian 1 line)
  | .noFlowTimeout _ => none
  | .endLine p tag arm => some (p, tag, 0x45#8, bigEndian 1 arm)
  | .suspendTimeout _ => none
  | .clearLockout p tag arm => some (p, tag, 0x31#8, bigEndian 1 arm)
  | .readArm p tag arm => some (p, tag, 0x04#8, bigEndian 1 arm)
  | .suspendArm p tag arm => some (p, tag, 0x43#8, bigEndian 1 arm)
  | .holdArm p tag arm => some (p, tag, 0x2F#8, bigEndian 1 arm)
  | .resumeArm p tag arm => some (p, tag, 0x44#8, bigEndian 1 arm)
  | .releaseArm p tag arm => some (p, tag, 0x30#8, bigEndian 1 arm)
  | .permissiveLoss _ => none
  | .permissiveInputReturn _ => none
  | .permissiveRestored _ => none
  | .estopActivation => none
  | .estopInputRelease => none
  | .estopReleaseTimeout => none
  | .deadmanWarning => none
  | .deadmanExpiry => none
  | .deadmanPress _ => none
  | .readBay p tag => some (p, tag, 0x01#8, [])
  | .writeRecipe p tag slot additive rate tolerance =>
    some (p, tag, 0x25#8, bigEndian 1 slot ++ bigEndian 1 additive ++ bigEndian 2 rate ++ bigEndian 1 tolerance)
  | .assignInjector p tag arm position injector =>
    some (p, tag, 0x27#8, bigEndian 1 arm ++ bigEndian 1 position ++ bigEndian 1 injector)
  | .removeInjector p tag arm position => some (p, tag, 0x28#8, bigEndian 1 arm ++ bigEndian 1 position)
  | .assignStandby p tag primary standby => some (p, tag, 0x29#8, bigEndian 1 primary ++ bigEndian 1 standby)
  | .releaseStandby p tag injector => some (p, tag, 0x2A#8, bigEndian 1 injector)
  | .returnInjector p tag injector => some (p, tag, 0x2B#8, bigEndian 1 injector)
  | .injectorFeedbackPulse _ => none
  | .verifyWindowExpiry _ => none
  | .readInjector p tag injector => some (p, tag, 0x05#8, bigEndian 1 injector)
  | .writeCalibrationKFactor p tag arm kFactor =>
    some (p, tag, 0x33#8, bigEndian 1 1 ++ bigEndian 1 arm ++ bigEndian 4 kFactor)
  | .writeCalibrationCurve p tag arm points =>
    some (p, tag, 0x33#8,
      bigEndian 1 2 ++ bigEndian 1 arm ++ bigEndian 1 points.length ++ points.flatMap pointBytes)
  | .writeCalibrationOffset p tag arm offset =>
    some (p, tag, 0x33#8, bigEndian 1 3 ++ bigEndian 1 arm ++ bigEndian 2 (offset % 65536).toNat)
  | .writeCalibrationInjector p tag injector additive shotSize kFactor =>
    some (p, tag, 0x33#8,
      bigEndian 1 4 ++ bigEndian 1 injector ++ bigEndian 1 additive ++ bigEndian 2 shotSize ++ bigEndian 4 kFactor)
  | .calibrationSwitchChange _ => none
  | .setSeal p tag level => some (p, tag, 0x34#8, bigEndian 1 level)
  | .writeTrialFactor p tag arm factor => some (p, tag, 0x35#8, bigEndian 1 arm ++ bigEndian 4 factor)
  | .readTotals p tag part => some (p, tag, 0x08#8, bigEndian 1 part)
  | .collectNote p tag sequenceNumber => some (p, tag, 0x32#8, bigEndian 4 sequenceNumber)
  | .markPrinted p tag sequenceNumber => some (p, tag, 0x47#8, bigEndian 4 sequenceNumber)
  | .readNote p tag sequenceNumber part => some (p, tag, 0x06#8, bigEndian 4 sequenceNumber ++ bigEndian 1 part)
  | .listNotes p tag => some (p, tag, 0x07#8, [])
  | .powerFailSave => none
  | .powerFailWarningDeassert => none
  | .coldStart => none
  | .restart p tag => some (p, tag, 0x37#8, [])
  | .fetchNotice p tag => some (p, tag, 0x0A#8, [])
  | .noticeDone p tag => some (p, tag, 0x0B#8, [])
  | .setNoticeLevels p tag designator safety batch dosing record enables =>
    some (p, tag, 0x0C#8,
      bigEndian 1 designator ++ bigEndian 1 safety ++ bigEndian 1 batch ++ bigEndian 1 dosing ++ bigEndian 1 record
        ++ bigEndian 2 enables.toNat)
  | .frameGapTimeout _ => none
  | .characterFault _ => none
  | .frameBadCrc _ => none
  | .unknownRequest p tag code body => some (p, tag, code, body)
  | .frameWhileBusy p tag code body => some (p, tag, code, body)
  | .transmissionEnd _ => none
  | .linkReset _ => none
  | .clockAdvance => none
  | .referenceEdge => none
  | .probeEdge _ => none
  | .characterReceived _ _ => none

/-- Characters arrive on a port one after another. -/
def deliver (p : PortId) : List Byte → State → Outcome
  | [], s => .next s
  | b :: rest, s =>
    match exec (.characterReceived p b) s with
    | .next t => deliver p rest t
    | .fault r => .fault r
    | .refused r => .refused r

end Sys2Proof.Machine
end

