-- ==== Sys2Proof/Safety.lean ====
section
/-!
DEFINITION. What counts as a safe and a well-kept state, and the terms the statements use. Nothing in the machine reads
this file.
-/

namespace Sys2Proof.Machine

/-! ### A request's hearing and its reply -/

/-- The port may take a request: its transmitter is free and the power-fail save has not been made (R172, R179). -/
def State.ready (s : State) (p : PortId) : Prop := s.bay.saved = false ∧ (s.port p).transmit = none

/-- The state in which a frame's request is judged: the port hunts again with an empty receive buffer (R177). -/
def State.heard (s : State) (p : PortId) : State := s.modifyPort p Port.hunt

/-- The state after an OK reply with this content is sent (R178). -/
def State.replied (s : State) (p : PortId) (tag code : Byte) (content : List Byte) : State :=
  s.send p tag code (0x00#8 :: content)

/-- The state after a request is taken whole, `t` being the state it leaves but for the port's own frame and reply: the
port hunts again, and the OK reply with this content is sent (R177, R178). -/
def State.answered (t : State) (p : PortId) (tag code : Byte) (content : List Byte) : State :=
  (t.heard p).replied p tag code content

/-- The state after a request is refused: heard, with the reply code alone sent (R178). -/
def State.turnedAway (s : State) (p : PortId) (tag code : Byte) (c : ReplyCode) : State :=
  (s.heard p).send p tag code [c.byte]

/-- The checks of a request refuse it with this code: that of the first condition, in their order, that holds (R178). -/
def refusedBy : List (Prop × ReplyCode) → ReplyCode → Prop
  | [], _ => False
  | (bad, code) :: rest, c => bad ∧ c = code ∨ ¬ bad ∧ refusedBy rest c

/-! ### Naming one permit, one order, one line -/

/-- Entry `e` holds the permit of this number, and no other entry does (R5). -/
def State.onlyPermit (s : State) (num : Nat) (e : Fin 200) (q : Permit) : Prop :=
  s.permits.get e = some q ∧ q.number = num ∧ ∀ k r, s.permits.get k = some r → r.number = num → k = e

/-- The slot holds the order of this number, and no other slot does (R21). -/
def State.onlyOrder (s : State) (num : Nat) (slot : Fin 24) (o : Order) : Prop :=
  s.order slot = some o ∧ o.number = num ∧ ∀ k r, s.order k = some r → r.number = num → k = slot

/-- No two entries hold a permit of one number (R5). -/
def State.permitsDiffer (s : State) : Prop :=
  ∀ e f p q, s.permits.get e = some p → s.permits.get f = some q → p.number = q.number → e = f

/-- A timer that the next millisecond brings to its expiry. -/
def runsOut (timer : Option Nat) : Prop := ∃ ms, timer = some ms ∧ ms ≤ 1

/-- The commands that the next millisecond brings due, each the expiry of a timer that then ends (notes/assumptions/2.md; the
durations are those of R2, R30, R33, R51, R63, R87, R95, R113, R115, R117, R135 and R177). -/
def State.expires (s : State) : Instr → Prop
  | .clockAdvance => s.clock.timer ≤ 1
  | .gateTimeout => s.gate.timer ≤ 1
  | .meteringSample a => (s.arm a).sampleTimer ≤ 1
  | .noFlowTimeout a => runsOut (s.arm a).noFlowTimer
  | .suspendTimeout a => runsOut (s.arm a).suspendTimer
  | .claimTimeout k => ∃ o, s.order k = some o ∧ runsOut o.claimTimer
  | .idleOrderTimeout k => ∃ o, s.order k = some o ∧ runsOut o.idleTimer
  | .verifyWindowExpiry i => runsOut (s.injector i).window
  | .permissiveRestored i => runsOut (s.permissive i).timer
  | .estopReleaseTimeout => runsOut s.bay.stop.timer
  | .deadmanWarning => s.bay.deadman.elapsed = some 119999
  | .deadmanExpiry => s.bay.deadman.elapsed = some 149999
  | .frameGapTimeout p => runsOut (s.port p).gapTimer
  | _ => False

/-- The timer of an expiry command shows that it has run out: it stands at 0, the deadman timer's elapsed time at 120 s or at
150 s (R117). -/
def State.shows (s : State) : Instr → Prop
  | .clockAdvance => s.clock.timer = 0
  | .gateTimeout => s.gate.timer = 0
  | .meteringSample a => (s.arm a).sampleTimer = 0
  | .noFlowTimeout a => (s.arm a).noFlowTimer = some 0
  | .suspendTimeout a => (s.arm a).suspendTimer = some 0
  | .claimTimeout k => ∃ o, s.order k = some o ∧ o.claimTimer = some 0
  | .idleOrderTimeout k => ∃ o, s.order k = some o ∧ o.idleTimer = some 0
  | .verifyWindowExpiry i => (s.injector i).window = some 0
  | .permissiveRestored i => (s.permissive i).timer = some 0
  | .estopReleaseTimeout => s.bay.stop.timer = some 0
  | .deadmanWarning => s.bay.deadman.elapsed = some 120000
  | .deadmanExpiry => s.bay.deadman.elapsed = some 150000
  | .frameGapTimeout p => (s.port p).gapTimer = some 0
  | _ => False

/-- The commands that are the expiry of a timer. -/
def expiryCommand (c : Instr) : Prop := ∃ s : State, s.expires c

/-- The state once the expiry that the last millisecond queued is taken (notes/assumptions/3.md). -/
def State.expiryTaken (s : State) (c : Instr) : State := { s with due := s.due.filter (fun i => i ≠ c) }

/-- A running timer one millisecond later. -/
def oneLess (timer : Option Nat) : Option Nat := timer.map (fun ms => ms - 1)

/-- Order line entries that POST ORDER and AMEND ORDER take (R24). -/
def State.acceptable (s : State) (lines : List LineSpec) : Prop :=
  1 ≤ lines.length ∧ lines.length ≤ 9 ∧ (lines.map LineSpec.compartment).Nodup ∧
    ∀ l ∈ lines,
      1 ≤ l.compartment ∧ l.compartment ≤ 9 ∧ 100 ≤ l.preset ∧ l.preset ≤ 40000 ∧ (l.basis = 1 ∨ l.basis = 2) ∧
        (∃ k : Fin 16, l.product = k.val + 1 ∧ (s.products.get k).isSome = true) ∧
        (l.recipe = 0 ∨ ∃ k : Fin 16, l.recipe = k.val + 1 ∧ (s.recipes.get k).isSome = true)

/-- A line as its posting leaves it: the fields carried, WAITING, no result, no flag, an empty record (R24). -/
def LineSpec.posted (x : LineSpec) (l : Line) : Prop :=
  l.compartment = x.compartment ∧ number l.product = x.product ∧ l.preset = x.preset ∧ l.basis.code = x.basis ∧
    numberOrZero l.recipe = x.recipe ∧ l.state = .waiting ∧ l.result = none ∧ l.flags = LineFlags.clear ∧
    l.record = LineRecord.blank

/-- The lines of an order as their posting leaves them. -/
def postedLines (specs : List LineSpec) (lines : List Line) : Prop :=
  lines.length = specs.length ∧ ∀ (k : Nat) (x : LineSpec) (l : Line), specs[k]? = some x → lines[k]? = some l → LineSpec.posted x l

/-! ### Notices -/

/-- A port's pending set holds a pair of kind and subject. -/
def Port.holdsNotice (p : Port) (k : NoticeKind) (subject : Nat) : Prop :=
  ∃ n ∈ p.notices, n.kind = k ∧ n.subject = subject

/-- A raised notice stands in the pending set of every port that enables its kind (R184). -/
def State.announced (s : State) (k : NoticeKind) (subject : Nat) : Prop :=
  ∀ p, (s.port p).enabled k = true → (s.port p).holdsNotice k subject

/-- The class of a kind other than ESTOP, in the class order SAFETY, BATCH, DOSING, RECORD (10, "The notice unit"). -/
def NoticeKind.classRank : NoticeKind → Nat
  | .estop => 0
  | .leak => 0
  | .permissiveLost => 0
  | .lineEnded => 1
  | .lineHeld => 1
  | .startDropped => 1
  | .orderClosed => 1
  | .claimExpired => 1
  | .probeFault => 1
  | .injectorFailed => 2
  | .doseDeviation => 2
  | .flowReduced => 2
  | .noteStored => 3
  | .journalNearFull => 3
  | .strayFlow => 3
  | .deadmanDue => 3

/-- The level of a notice at a port, counted with E as 0 and level n as n + 1. -/
def Port.urgency (p : Port) (n : Notice) : Nat := ((p.levels.ofKind n.kind).map (fun l => l + 1)).getD 0

/-- A pending notice may be fetched: it is ESTOP, or its level is lower than every level in service (R185). -/
def Port.delivers (p : Port) (n : Notice) : Prop := n.kind = .estop ∨ ∀ l ∈ p.inService, p.urgency n ≤ l

/-- One notice comes before another in the order of R186: ESTOP, level, class, kind, subject. -/
def Port.precedes (p : Port) (m n : Notice) : Prop :=
  p.urgency m < p.urgency n ∨
    p.urgency m = p.urgency n ∧ (m.kind.classRank < n.kind.classRank ∨
      m.kind.classRank = n.kind.classRank ∧ (m.kind.code < n.kind.code ∨
        m.kind.code = n.kind.code ∧ m.subject < n.subject))

/-- A port's pending set holds each pair of kind and subject at most once (R184), its in-service set holds each level at
most once, none above 7 (R185, R192), and its levels and enables are those SET NOTICE LEVELS admits (R188). -/
def Port.kept (p : Port) : Prop :=
  (p.notices.map (fun n => (n.kind, n.subject))).Nodup ∧ p.inService.Nodup ∧ (∀ l ∈ p.inService, l ≤ 7) ∧
    p.levels.safety ≤ 7 ∧ p.levels.batch ≤ 7 ∧ p.levels.dosing ≤ 7 ∧ p.levels.record ≤ 7 ∧ p.enables.getLsbD 0 = true

/-- Both ports are kept. -/
def State.portsKept (s : State) : Prop := s.terminal.kept ∧ s.console.kept

/-- A notice raised where a condition holds. -/
def State.raiseIf (s : State) (c : Bool) (k : NoticeKind) (subject : Nat) : State := if c then s.raise k subject else s

/-- From `s` to `t` the ports have changed in gaining notices at most, each of a pair of kind and subject that is raised, and
of the current bay time (R184). -/
def State.raisesOnly (s t : State) (raised : NoticeKind → Nat → Prop) : Prop :=
  ∀ p, ∃ new, t.port p = { s.port p with notices := (s.port p).notices ++ new } ∧
    ∀ n ∈ new, raised n.kind n.subject ∧ n.time = s.now

/-- START_DROPPED is raised for an arm whose queued start names an order (R83). -/
def State.dropsStart (s : State) (num : Nat) (k : NoticeKind) (subject : Nat) : Prop :=
  k = .startDropped ∧ ∃ a q, (s.arm a).queued = some q ∧ q.order = num ∧ subject = number a

/-- Every queued start of an order is removed from `s` to `t`, START_DROPPED being raised for each arm concerned and
nothing else (R83). -/
def State.startsDropped (s t : State) (num : Nat) : Prop :=
  (∀ a, t.arm a = if (s.arm a).queued.map QueuedStart.order = some num then { s.arm a with queued := none }
    else s.arm a) ∧
    (∀ a q, (s.arm a).queued = some q → q.order = num → t.announced .startDropped (number a)) ∧
    s.raisesOnly t (s.dropsStart num)

/-! ### Clock, store and journal -/

/-- The bay clock's fields lie in their ranges (01, "The bay clock"). -/
def State.clockKept (s : State) : Prop := s.clock.day ≤ 65535 ∧ s.clock.second ≤ 86399

/-- The calibration event counter and every volume totalizer lie in their ranges (08, "The calibration store"). -/
def Store.kept (x : Store) : Prop :=
  x.counter ≤ 65535 ∧
    ∀ a, (x.meters.get a).gross.litres ≤ 999999999 ∧ (x.meters.get a).gross.remainder ≤ 999 ∧
      (x.meters.get a).standard.litres ≤ 999999999 ∧ (x.meters.get a).standard.remainder ≤ 999

/-- The slot that R164 gives to the next note: the lowest-numbered EMPTY slot, or, where none is EMPTY, the COLLECTED slot
composed earliest. -/
def Journal.nextSlot (j : Journal) (k : Fin 48) : Prop :=
  ((j.slots.get k).isEmpty = true ∧ ∀ i < k, (j.slots.get i).isEmpty = false) ∨
    (∀ i, (j.slots.get i).isEmpty = false) ∧ (j.slots.get k).isCollected = true ∧
      ∃ earlier later, j.composition = earlier ++ k :: later ∧ ∀ i ∈ earlier, (j.slots.get i).isCollected = false

/-- No note in the journal carries a sequence number. -/
def Journal.lacks (j : Journal) (seq : Nat) : Prop :=
  ∀ k n, (j.slots.get k).note? = some n → n.sequenceNumber ≠ seq

/-- The number that R165 gives to the next note: counted on from the last sequence number, 1 following 999,999, the first
that no note in the journal carries. -/
def Journal.nextNumber (j : Journal) (n : Nat) : Prop :=
  ∃ d, n = sequenceAfter^[d + 1] j.lastSequence ∧ j.lacks n ∧ ∀ e < d, ¬ j.lacks (sequenceAfter^[e + 1] j.lastSequence)

/-- From `j` to `t` the journal takes one note, which meets `good`, STORED in slot `k`, the latest in the composition order,
with the next number; the other notes are kept (R164, R165). -/
def Journal.gainsAt (j t : Journal) (k : Fin 48) (good : Note → Prop) : Prop :=
  ∃ n, good n ∧ j.nextNumber n.sequenceNumber ∧ t = { j with
    slots := j.slots.set k (.stored n)
    composition := j.composition.filter (fun i => i != k) ++ [k]
    lastSequence := n.sequenceNumber }

/-- From `j` to `t` the journal takes one note for each of these conditions, in their order, each in the slot R164 gives. -/
def Journal.gainsAll : Journal → Journal → List (Note → Prop) → Prop
  | j, t, [] => t = j
  | j, t, good :: rest => ∃ k m, j.nextSlot k ∧ j.gainsAt m k good ∧ m.gainsAll t rest

/-- The composition order lists each slot that holds a note once and no other (R164); no two notes carry one number, and each
number is 1 to 999,999 (R165). -/
def Journal.kept (j : Journal) : Prop :=
  j.composition.Nodup ∧ (∀ k, k ∈ j.composition ↔ (j.slots.get k).isEmpty = false) ∧
    (∀ k n, (j.slots.get k).note? = some n → 1 ≤ n.sequenceNumber ∧ n.sequenceNumber ≤ 999999) ∧
    ∀ i k m n, (j.slots.get i).note? = some m → (j.slots.get k).note? = some n → m.sequenceNumber = n.sequenceNumber → i = k

/-- The average of a temperature-weight sum over a gross volume, in tenths of a degree: none for no volume, else the exact
quotient by ten times the volume, rounded to nearest, halves away from zero (R77). -/
def LineRecord.averages (r : LineRecord) (t : Option Int) : Prop :=
  (r.gv = 0 → t = none) ∧
    (r.gv ≠ 0 → ∃ q : Int, t = some q ∧ 2 * |10 * r.gv * q - r.tsum| ≤ 10 * r.gv ∧
      (2 * |10 * r.gv * q - r.tsum| = 10 * r.gv → |r.tsum| ≤ 10 * r.gv * |q|))

/-- A note's line record holds a line's final record (R163); a line that was WAITING is NOT_LOADED. -/
def NoteLine.records (x : NoteLine) (l : Line) : Prop :=
  x.compartment = l.compartment ∧ x.product = l.product ∧ x.preset = l.preset ∧ x.basis = l.basis ∧
    x.result = (if l.isWaiting then some .notLoaded else l.result) ∧ x.flags = l.flags ∧
    x.gvLitres = (l.record.gv + 500) / 1000 ∧ x.gsvLitres = (l.record.gsv + 500) / 1000 ∧ l.record.averages x.average ∧
    x.additive = l.record.additive ∧ x.atStart = l.record.atStart ∧ x.atEnd = l.record.atEnd ∧
    x.counter = l.record.counter

/-- A note records an order that closes by a cause while the clock stands so: its header (R162) and its lines (R163). -/
def Note.records (n : Note) (o : Order) (cause : CloseCause) (clock : Clock) : Prop :=
  n.order = o.number ∧ (∀ p, o.claimPermit = some p → n.permit = p) ∧ n.carrier = o.carrier ∧
    (∀ k, o.claimTanker = some k → n.tanker = k) ∧ (∀ x, o.claimTime = some x → n.claimTime = x) ∧
    n.closeTime = ⟨clock.day, clock.second⟩ ∧ n.cause = cause ∧ n.clockUnset = !clock.isSet ∧ n.printed = 0 ∧
    n.lines.length = o.lines.length ∧
    ∀ (i : Nat) (l : Line) (x : NoteLine), o.lines[i]? = some l → n.lines[i]? = some x → x.records l

/-- The law of R166, with what carries it through a power failure: the sum of stored notes and reservations, and that of
stored notes and saved images, do not exceed 48; the save area is empty before the save, and after it no order timer runs
and no arm carries a line (R100, R172). -/
def State.journalRoom (s : State) : Prop :=
  s.storedCount + s.reservations ≤ 48 ∧ s.storedCount + s.journal.saveArea.length ≤ 48 ∧
    (s.bay.saved = false → s.journal.saveArea = []) ∧
    (s.bay.saved = true →
      (∀ k o, s.order k = some o → o.claimTimer = none ∧ o.idleTimer = none) ∧ ∀ a, (s.arm a).active = none)

/-- What the close of an order by a cause leaves (R37): the slot FREE and the other slots as they were; the order's note
STORED in journal slot `k`, the other notes kept; the claiming permit's claim ended; no queued start of the order; ORDER_CLOSED
for the slot, NOTE_STORED and START_DROPPED for each arm concerned raised, and no other notice. Nothing else of the state
moves. -/
def State.closedAs (s t : State) (slot : Fin 24) (o : Order) (k : Fin 48) (cause : CloseCause) : Prop :=
  t = { s with
        orders := s.orders.set slot none, journal := t.journal, permits := t.permits, arms := t.arms,
        terminal := t.terminal, console := t.console } ∧
    s.journal.gainsAt t.journal k (fun n => n.records o cause s.clock) ∧
    (∀ e, t.permits.get e = (s.permits.get e).map (fun q =>
      if o.claimPermit = some q.number then { q with claim := none } else q)) ∧
    (∀ a, t.arm a = if ((s.arm a).queued.map QueuedStart.order) = some o.number
      then { s.arm a with queued := none } else s.arm a) ∧
    s.raisesOnly t (fun c subject => s.dropsStart o.number c subject ∨ c = .orderClosed ∧ subject = number slot ∨
      c = .noteStored ∧ subject = 0) ∧
    t.announced .orderClosed (number slot) ∧ t.announced .noteStored 0 ∧
    ∀ a q, (s.arm a).queued = some q → q.order = o.number → t.announced .startDropped (number a)

/-- Permit numbers are not repeated (R5), nor order numbers (R21). A permit's claim and the claiming permit of an order past
POSTED name each other; a POSTED order has no claim; and no CLAIMED order is claimed by a BARRED permit (R7, R27). -/
def State.claimsAgree (s : State) : Prop :=
  (∀ e f p q, s.permits.get e = some p → s.permits.get f = some q → p.number = q.number → e = f) ∧
    (∀ k j o r, s.order k = some o → s.order j = some r → o.number = r.number → k = j) ∧
    (∀ e p slot, s.permits.get e = some p → p.claim = some slot →
      ∃ o, s.order slot = some o ∧ o.state ≠ .posted ∧ o.claimPermit = some p.number) ∧
    ∀ slot o, s.order slot = some o →
      (o.state = .posted → o.claimPermit = none ∧ o.claimTanker = none ∧ o.claimTime = none) ∧
        (o.state ≠ .posted → o.claimTanker ≠ none ∧ o.claimTime ≠ none ∧
          ∃ e p, s.permits.get e = some p ∧ o.claimPermit = some p.number ∧ p.claim = some slot ∧
            (o.state = .claimed → p.state = .active))

/-! ### Arms and flow -/

/-- The standing of an arm (05, "The arm record"; R104): a line is carried exactly in CLOSING, SUSPENDED and the flowing
states; the closing reason is present exactly in CLOSING; and a non-empty hold-cause set is found in CLOSING or SUSPENDED
only. -/
def Arm.standing (a : Arm) : Prop :=
  (a.active.isSome = true ↔ a.state ≠ .idle ∧ a.state ≠ .locked) ∧ (a.reason.isSome = true ↔ a.state = .closing) ∧
    (a.holds ≠ HoldSet.clear → a.state = .closing ∨ a.state = .suspended)

/-- Every arm stands so. -/
def State.armsStand (s : State) : Prop := ∀ a, (s.arm a).standing

/-- An arm after a close command for a line end (R89): CLOSING for the line end with its timers stopped; the counts of a
close already under way are kept, and begin at 0 otherwise. -/
def Arm.closedForLineEnd (x : Arm) : Arm :=
  { x with
    state := .closing
    reason := some .lineEnd
    zeroRun := if x.state = .closing then x.zeroRun else 0
    closeCount := if x.state = .closing then x.closeCount else 0
    noFlowTimer := none
    suspendTimer := none }

/-- An arm after a hold cause is raised for it, by the table of R105: nothing changes where it carries no active line or
holds the cause already; else the cause joins the set, and a flowing arm closes for a hold (R90). -/
def Arm.withCause (x : Arm) (c : HoldCause) : Arm :=
  if x.active.isSome = true ∧ x.holds.has c = false then
    if x.state.flowing = true then
      { x with
        holds := x.holds.put true c
        state := .closing
        reason := some .hold
        zeroRun := 0
        closeCount := 0
        noFlowTimer := none }
    else { x with holds := x.holds.put true c }
  else x

/-- The bay from `s` to `t` where an arm has left the flowing states: the deadman timer stops when no arm remains in a
flowing state, and nothing else of the bay moves (R116). -/
def State.bayFollows (s t : State) : Prop :=
  t.bay = if ∃ b, (t.arm b).state.flowing = true then s.bay
    else { s.bay with deadman := { s.bay.deadman with elapsed := none } }

/-- A cause is raised for one arm: that arm takes it, the deadman timer follows where the arm left a flowing state, and
nothing else moves (R105, R116). -/
def State.heldBy (s t : State) (a : Fin 6) (c : HoldCause) : Prop :=
  t = { s with arms := s.arms.modify a (fun x => x.withCause c), bay := t.bay } ∧
    if (s.arm a).state.flowing = true ∧ (s.arm a).active.isSome = true ∧ (s.arm a).holds.has c = false
      then s.bayFollows t else t.bay = s.bay

/-- Lines and arms agree (R23, R31, R44, R81, R89). Every arm stands by its state. Until the power-fail save: an arm's
active line is a line of an order, ACTIVE on that arm, and ending exactly while the arm closes for a line end; an ACTIVE
line is its arm's active line, and its order is LOADING or CLOSING with no idle timer; a WAITING line has no result. -/
def State.linesKept (s : State) : Prop :=
  s.armsStand ∧
    (s.bay.saved = false →
      (∀ a ref, (s.arm a).active = some ref →
        ∃ l, s.lineAt ref = some l ∧ l.state = .active a ∧
          (l.isEnding = true ↔ (s.arm a).state = .closing ∧ (s.arm a).reason = some .lineEnd)) ∧
      ∀ slot o k l, s.order slot = some o → o.line? k = some l →
        (l.state = .waiting → l.result = none) ∧
          ∀ a, l.state = .active a → (s.arm a).active = some ⟨slot, k⟩ ∧
            (o.state = .loading ∨ o.state = .closing) ∧ o.idleTimer = none)

/-- The totals of a dosing record at its line's end: additive, dosed and required (R142). -/
def DosingRecord.fixed (r : DosingRecord) (gv : Nat) : AdditiveTotals :=
  ⟨r.additive, r.dosedBefore + r.feedback * 1000000 / r.servingKf, (gv * r.rate + 500000) / 1000000⟩

/-- The dosed total lies outside the recipe's tolerance of a required total that is not 0 (R142). -/
def DosingRecord.strays (r : DosingRecord) (gv : Nat) : Bool :=
  decide (0 < (r.fixed gv).required ∧
    (r.tolerance * (r.fixed gv).required : Int) < |((r.fixed gv).dosed : Int) - (r.fixed gv).required| * 100)

/-- The dose check at the end of an arm's line: DOSE_DEVIATION is due (R142). -/
def Arm.strays (x : Arm) (gv : Nat) : Bool := (x.dosing.map (fun r => r.strays gv)).getD false

/-- A line's record as its end on an arm fixes it: the readings at end (R157), the additive totals and DOSE_DEVIATION of its
dosing record (R142), and OVERRUN (R93). -/
def State.fixed (s : State) (a : Fin 6) (l : Line) : Line :=
  { l with
    flags := { l.flags with
      doseDeviation := l.flags.doseDeviation || (s.arm a).strays l.record.gv
      overrun := l.flags.overrun || decide ((s.arm a).setup.overrunLimit < (l.delivered + 500) / 1000 - l.preset) }
    record := { l.record with
      additive := ((s.arm a).dosing.map (fun r => r.fixed l.record.gv)).or l.record.additive
      atEnd := some ⟨(s.meterStore a).gross, (s.meterStore a).standard⟩ } }

/-- An arm after its line has passed to ENDED: it carries no line, holds no cause, has no dosing record, and its decoder is in
STRAY mode; its last overrun is the line's (R44, R56, R92, R93, R104, R133, R142). -/
def Arm.freed (x : Arm) (l : Line) (st : ArmState) : Arm :=
  { x with
    state := st
    reason := none
    active := none
    holds := HoldSet.clear
    lineCarries := ⟨0, 0, 0⟩
    boundTrial := none
    dosing := none
    reducedFlow := if x.dosing.isSome = true then false else x.reducedFlow
    noFlowTimer := none
    suspendTimer := none
    lastOverrun := (l.delivered + 500) / 1000 - l.preset
    decoder := { x.decoder with mode := .stray } }

/-- The order keeps a line that has not ended, other than line `k`. -/
def Order.goesOn (o : Order) (k : Nat) : Prop := ∃ j x, j ≠ k ∧ o.line? j = some x ∧ x.state ≠ .ended

/-- What the passage of arm `a`'s line `ref` to ENDED leaves (R92, steps 1 to 4; R88, R95, R96), `l` being the line with the
result and the flags it ends with. The line's record is fixed, the arm is freed, a shot in flight is abandoned (R141) and
DOSE_DEVIATION, where it is due, and LINE_ENDED are raised. An order that keeps a line goes on, its idle timer at 1,800 s where
it is LOADING and no line of it is ACTIVE any more; an order whose last line this was closes with its note, FINISHED from
LOADING and CANCELLED from CLOSING (R32, R37). -/
def State.lineEndedAs (s t : State) (a : Fin 6) (ref : LineRef) (o : Order) (l : Line) (st : ArmState) : Prop :=
  let o1 := { o with lines := o.lines.set (ref.line - 1) { s.fixed a l with state := .ended } }
  let t1 := (({ s with
    orders := s.orders.set ref.slot (some o1)
    arms := s.arms.modify a (fun x => x.freed l st)
    injectors := match (s.arm a).engaged with
      | some i => s.injectors.modify i (fun x => { x with window := none })
      | none => s.injectors } : State).raiseIf ((s.arm a).strays l.record.gv) .doseDeviation (number a)).raise .lineEnded
        (number a)
  (o.goesOn ref.line → t = { t1 with
    orders := s.orders.set ref.slot (some { o1 with
      idleTimer := if o.state ≠ .loading ∨ (o.lines.eraseIdx (ref.line - 1)).any Line.isActive = true then o.idleTimer
        else some 1800000 }) }) ∧
    (¬ o.goesOn ref.line → ∀ k, s.journal.nextSlot k →
      t1.closedAs t ref.slot o1 k (if o.state = .loading then .finished else .cancelled))

/-- The checks of START LINE on the order, the line, the bay, the arm's product, probe and meter, and the permit (R81,
checks 2 to 4 and 7 to 11). -/
def State.startable (s : State) (a : Fin 6) (slot : Fin 24) (o : Order) (k : Nat) (l : Line) : Prop :=
  s.onlyOrder o.number slot o ∧ (o.state = .claimed ∨ o.state = .loading) ∧ o.line? k = some l ∧ k ≤ 9 ∧
    l.state = .waiting ∧ s.bay.ground.recognized = .present ∧ s.bay.overfill.recognized = .present ∧
    s.bay.stop.active = false ∧ (s.arm a).setup.product = some l.product ∧
    ((s.probes.get a).status = .valid ∨ (s.probes.get a).status = .holding) ∧ (s.meterStore a).kFactor ≠ 0 ∧
    (s.meterStore a).curve ≠ [] ∧
    ∃ e q, o.claimPermit = some q.number ∧ s.onlyPermit q.number e q ∧ q.state = .active ∧ s.clock.day ≤ q.expiry

/-- Checks 3 to 12 of START LINE, in their order, on an arm and a line of an order (R6, R81). -/
def State.startChecked (s : State) (a : Fin 6) (o : Order) (l : Line) : List (Prop × ReplyCode) :=
  [((o.state ≠ .claimed ∧ o.state ≠ .loading) ∨ l.state ≠ .waiting, .wrongState),
   (s.bay.ground.recognized = .lost ∨ s.bay.overfill.recognized = .lost ∨ s.bay.stop.active = true, .permissive),
   ((s.arm a).state = .locked, .armLocked),
   (((s.arm a).state ≠ .idle ∧ ¬ ((s.arm a).state = .closing ∧ (s.arm a).reason = some .lineEnd)) ∨ (s.arm a).queued ≠ none,
     .armBusy),
   ((s.arm a).setup.product ≠ some l.product, .productMismatch),
   ((s.probes.get a).status = .unknown ∨ (s.probes.get a).status = .failed, .probeFault),
   ((s.meterStore a).kFactor = 0 ∨ (s.meterStore a).curve = [], .uncalibrated),
   (∃ e q, s.permits.get e = some q ∧ o.claimPermit = some q.number ∧ q.state = .barred, .permitBarred),
   (∃ e q, s.permits.get e = some q ∧ o.claimPermit = some q.number ∧ q.expiry < s.clock.day, .permitExpired),
   (∃ m, l.recipe = some m ∧ ¬ ∃ x p i, s.recipes.get m = some x ∧ (s.arm a).setup.positions.get p = some i ∧
      (s.injectorStore i).failed = false ∧ (s.injectorStore i).additive = x.additive, .injectorUnavailable)]

/-- Checks 3 to 9 of PRESENT PERMIT, in their order, on a permit, an order and the tanker carried (R6, R26). -/
def State.claimChecked (s : State) (q : Permit) (o : Order) (tanker : Nat) : List (Prop × ReplyCode) :=
  [(q.state = .barred, .permitBarred), (q.expiry < s.clock.day, .permitExpired), (o.state ≠ .posted, .wrongState),
   (q.claim ≠ none, .inUse),
   ((o.permit ≠ 0 ∧ o.permit ≠ q.number) ∨ (o.permit = 0 ∧ o.carrier ≠ q.carrier) ∨ (o.tanker ≠ 0 ∧ o.tanker ≠ tanker) ∨
      tanker = 0 ∨ 999999 < tanker, .permitMismatch),
   (∃ l ∈ o.lines, ∀ x, s.products.get l.product = some x → q.classes.getLsbD (x.cls - 1) = false, .permitClass),
   (48 ≤ s.storedCount + s.reservations, .journalFull)]

/-- Position `p` of an arm, the lower-numbered that serves an additive, holds injector `i`: IN_SERVICE and of that additive
(R81, check 12; R130). -/
def State.servedBy (s : State) (a : Fin 6) (additive : Nat) (p : Fin 2) (i : Fin 8) : Prop :=
  (s.arm a).setup.positions.get p = some i ∧ (s.injectorStore i).failed = false ∧
    (s.injectorStore i).additive = additive ∧
    ∀ q j, q < p → (s.arm a).setup.positions.get q = some j →
      (s.injectorStore j).failed = true ∨ (s.injectorStore j).additive ≠ additive

/-- The re-check of a start fails on an arm (R84): the order or the line is not in a state to start, a permissive is lost or
the stop is active, or the arm's product, probe, meter, the claiming permit or the arm's injectors forbid it (R81, checks 3, 4
and 7 to 12). -/
def State.unstartable (s : State) (a : Fin 6) (o : Order) (l : Line) : Prop :=
  (o.state ≠ .claimed ∧ o.state ≠ .loading) ∨ l.state ≠ .waiting ∨ s.bay.ground.recognized = .lost ∨
    s.bay.overfill.recognized = .lost ∨ s.bay.stop.active = true ∨ (s.arm a).setup.product ≠ some l.product ∨
    (s.probes.get a).status = .unknown ∨ (s.probes.get a).status = .failed ∨ (s.meterStore a).kFactor = 0 ∨
    (s.meterStore a).curve = [] ∨
    (∃ e q, o.claimPermit = some q.number ∧ s.onlyPermit q.number e q ∧ (q.state = .barred ∨ q.expiry < s.clock.day)) ∨
    ∃ m x, l.recipe = some m ∧ s.recipes.get m = some x ∧
      ∀ p i, (s.arm a).setup.positions.get p = some i →
        (s.injectorStore i).failed = true ∨ (s.injectorStore i).additive ≠ x.additive

/-- The dosing record a line start opens (R130). -/
def DosingRecord.opened (x : Recipe) (p : Fin 2) (i : Fin 8) (cal : InjectorStore) : DosingRecord where
  phase := .accruing
  position := p
  serving := i
  servingKf := cal.kFactor
  additive := x.additive
  rate := x.rate
  tolerance := x.tolerance
  interval := cal.shotSize * 10000 / x.rate
  target := max 1 ((cal.shotSize * cal.kFactor + 99999999) / 100000000)
  accumulator := 0
  owed := 0
  budget := 2
  shot := none
  feedback := 0
  dosedBefore := 0
  late := none

/-- A totalizer advanced by `ml` millilitres (R155): the sum is exact, and whole litres continue from 0 past
999,999,999. -/
def Totalizer.advanced (x : Totalizer) (ml : Nat) : Totalizer :=
  ⟨(x.litres + (x.remainder + ml) / 1000) % 1000000000, (x.remainder + ml) % 1000⟩

/-- The volumes of an arm's next sample, by the stages of R53, R54, R69, R71 and R74. -/
def State.nextSample (s : State) (a : Fin 6) (trial : Option Nat) (c : Carries) : SampleVolumes :=
  sampleVolumes (s.meterStore a).kFactor (s.meterStore a).curve trial
    (productVcf ((s.arm a).setup.product.bind s.products.get) (s.probes.get a).temperature) c
    (s.arm a).decoder.sampleCount

/-- The calibration store after a sample advances an arm's totalizers (R75, R155). -/
def State.storeAfter (s : State) (a : Fin 6) (v : SampleVolumes) : Store :=
  { s.store with
    meters := s.store.meters.modify a (fun m =>
      { m with gross := m.gross.advanced v.gross, standard := m.standard.advanced v.standard }) }

/-- A line after a line sample (R67, R75). -/
def Line.sampled (l : Line) (v : SampleVolumes) (p : Probe) : Line :=
  { l with
    record := { l.record with
      gv := l.record.gv + v.gross, gsv := l.record.gsv + v.standard, tsum := l.record.tsum + v.gross * p.temperature }
    flags := { l.flags with
      tempHeld := l.flags.tempHeld || decide (p.status = .holding) || decide (p.status = .failed) } }

/-- An arm whose sample has been taken (R51, R54): its sample count is 0 again and its sample timer restarts. -/
def Arm.metered (x : Arm) (v : SampleVolumes) : Arm :=
  { x with decoder := { x.decoder with sampleCount := 0 }, sampleTimer := 200, flowRate := v.flow }

/-- An arm's counts at a sample of so many pulses and so much gross volume of its line (R85, R91). -/
def Arm.counts (x : Arm) (pulses lineGross : Nat) : Arm :=
  { x with
    zeroRun := if pulses = 0 then min 65535 (x.zeroRun + 1) else 0
    closeCount := min 65535 (x.closeCount + 1)
    stageGross := x.stageGross + lineGross }

/-- An arm after a sample's counts (R51, R54, R85, R91). -/
def Arm.counted (x : Arm) (v : SampleVolumes) (lineGross : Nat) : Arm :=
  (x.metered v).counts x.decoder.sampleCount lineGross

/-- The interlock of the two permissives (R105, R112): while one is recognized LOST, every arm that carries a line holds
its cause. -/
def State.interlocked (s : State) : Prop :=
  s.armsStand ∧
    (s.bay.ground.recognized = .lost → ∀ a, (s.arm a).active.isSome = true → (s.arm a).holds.ground = true) ∧
    (s.bay.overfill.recognized = .lost → ∀ a, (s.arm a).active.isSome = true → (s.arm a).holds.overfill = true)

/-- Both valve outputs of every arm are off (R80). -/
def State.valvesOff (s : State) : Prop := ∀ a, (s.arm a).low = false ∧ (s.arm a).full = false

/-- A flowing arm at a line sample, the sample counted, with this quantity in mL still to deliver (R85, R87). -/
def Arm.stages (x : Arm) (remaining pulses : Nat) : Arm :=
  let st :=
    if x.state = .lowStart ∧ x.stageGross < x.stageVolume * 1000 then .lowStart
    else if x.state = .lowStart ∧ x.setup.topOff * 1000 < remaining then .fullFlow
    else if x.state = .fullFlow ∧ x.setup.topOff * 1000 < remaining then .fullFlow
    else .topOff
  { x with
    state := st
    noFlowTimer := if st = .lowStart then (if pulses = 0 then x.noFlowTimer else some 30000) else none }

/-- Steps 2 to 8 of a line start on an arm, `b` being the state its boundary sample left and `d` the dosing record it opens
(R31, R50, R56, R82, R116, R154, R157). -/
def State.lineStarted (b : State) (a : Fin 6) (slot : Fin 24) (o : Order) (k : Nat) (l : Line) (d : Option DosingRecord) :
    State :=
  { b with
    orders := b.orders.set slot (some { o with
      state := .loading
      claimTimer := none
      idleTimer := none
      lines := o.lines.set (k - 1) { l with
        state := .active a
        record := ⟨0, 0, 0, none, some ⟨(b.meterStore a).gross, (b.meterStore a).standard⟩, none, some b.store.counter⟩
        flags := { LineFlags.clear with trial := (b.meterStore a).pendingTrial.isSome } } })
    arms := b.arms.modify a (fun x => { x with
      decoder := { x.decoder with
        statusA := .normal, statusB := .normal, missA := 0, missB := 0, lineCounted := 0, lineCorrected := 0,
        mode := .line, lineStarted := true }
      lineCarries := ⟨0, 0, 0⟩
      boundTrial := (b.meterStore a).pendingTrial
      active := some ⟨slot, k⟩
      state := .lowStart
      reason := none
      stageVolume := x.setup.lowStart
      stageGross := 0
      zeroRun := 0
      closeCount := 0
      noFlowTimer := some 30000
      dosing := d })
    store := { b.store with meters := b.store.meters.modify a (fun m => { m with pendingTrial := none }) }
    bay := { b.bay with deadman := { b.bay.deadman with elapsed := some 0, warned := false } } }

/-! ### Dosing and temperature -/

/-- The bound of R131: the owed count never exceeds 3, the accumulator is below the interval whenever the count is below 3
(an interval of 0, which no calibrated injector gives, apart), and no volume stands accrued outside ACCRUING. -/
def DosingRecord.bounded (r : DosingRecord) : Prop :=
  r.owed ≤ 3 ∧ (r.owed < 3 → r.accumulator < r.interval ∨ r.interval = 0) ∧ (r.phase ≠ .accruing → r.accumulator = 0)

/-- A record settled (R131): as many whole intervals as there are pass from the accumulator to the owed count, up to 3. -/
def DosingRecord.settled (r : DosingRecord) : DosingRecord :=
  let n := min (3 - r.owed) (r.accumulator / r.interval)
  { r with owed := r.owed + n, accumulator := r.accumulator - n * r.interval }

/-- A record after the gross volume of a sample accrues to it in ACCRUING (R131, R132). -/
def DosingRecord.accrues (r : DosingRecord) (gross : Nat) : DosingRecord :=
  if r.phase = .accruing then DosingRecord.settled { r with accumulator := r.accumulator + gross } else r

/-- What a dosing event leaves that has made arm `a`'s record `r`, its engaged injector being `i` (R132, R133, R134, R135): an
owed shot is issued where the injector is IDLE, its window at 3 s, and the record settles again; in the overspeed condition
ADDITIVE is raised and counted; the reduced-flow flag is set, FLOW_REDUCED being raised, at two shots owed on a running line, and
cleared at none; ADDITIVE is cleared where nothing is owed, the accumulator is below the interval and the injector serves. -/
def State.dosed (s t : State) (a : Fin 6) (i : Fin 8) (r : DosingRecord) : Prop :=
  let issues := r.phase ≠ .disengaged ∧ 0 < r.owed ∧ (s.injector i).window = none
  let r1 := if issues then DosingRecord.settled { r with owed := r.owed - 1, shot := some ⟨0, false⟩ } else r
  let exceeds := r1.phase = .accruing ∧ r1.owed = 3 ∧ r1.interval ≤ r1.accumulator ∧ (s.arm a).holds.additive = false
  let caughtUp := r1.owed = 0 ∧ r1.accumulator < r1.interval ∧ (s.injectorStore i).failed = false ∧
    (s.injectorStore i).additive = r1.additive
  let slows := 2 ≤ r1.owed ∧ s.running a = true
  t = ({ s with
    arms := s.arms.modify a (fun x =>
      let y := if exceeds then x.withCause .additive else x
      { y with
        dosing := some r1
        reducedFlow := if r1.owed = 0 then false else if slows then true else x.reducedFlow
        holds := if caughtUp then { y.holds with additive := false } else y.holds })
    injectors := s.injectors.modify i (fun x => { x with
      window := if issues then some 3000 else x.window
      stats := if exceeds then { x.stats with overspeed := min 65535 (x.stats.overspeed + 1) } else x.stats })
    bay := t.bay } : State).raiseIf (decide (slows ∧ (s.arm a).reducedFlow = false)) .flowReduced (number a) ∧
  if exceeds ∧ (s.arm a).state.flowing = true ∧ (s.arm a).active.isSome = true then s.bayFollows t else t.bay = s.bay

/-- An arm's open record has an interval above 0, and is DISENGAGED, owing nothing, where it engages no injector (R139). -/
def Arm.doses (x : Arm) : Prop :=
  ∀ r, x.dosing = some r → 0 < r.interval ∧ (x.engaged = none → r.phase = .disengaged ∧ r.owed = 0)

/-- The dosing service of arm `a` at a line sample of this gross volume (R132). -/
def State.served (s t : State) (a : Fin 6) (gross : Nat) : Prop :=
  ((s.arm a).dosing = none → t = s) ∧
    ∀ r, (s.arm a).dosing = some r →
      ((s.arm a).engaged = none → t = s.modifyArm a (fun x => { x with reducedFlow := false })) ∧
        ∀ i, (s.arm a).engaged = some i → s.dosed t a i (r.accrues gross)

/-- A close command for a line end, `s` holding the line's result already (R89). The dosing unit is told: an ACCRUING record
enters FINISHING with an accumulator of 0, one more shot being owed where fewer than three are and at least half an interval has
accrued, and the reduced-flow flag is cleared (R140). The arm closes, and the deadman timer follows (R116). -/
def State.closesForLineEnd (s t : State) (a : Fin 6) : Prop :=
  ∃ m : State,
    ((∀ r, (s.arm a).dosing = some r → r.phase ≠ .accruing) → m = s) ∧
    (∀ r i, (s.arm a).dosing = some r → r.phase = .accruing → (s.arm a).engaged = some i →
      (s.modifyArm a (fun x => { x with reducedFlow := false })).dosed m a i { r with
        phase := .finishing
        accumulator := 0
        owed := if r.owed < 3 ∧ r.interval ≤ 2 * r.accumulator then r.owed + 1 else r.owed }) ∧
    t = { m with arms := m.arms.modify a Arm.closedForLineEnd, bay := t.bay } ∧ m.bayFollows t

/-- The state after steps 1 and 2 of a line sample of arm `a`, its line `ref` then standing as `l` (R55). -/
def State.meteredLine (s : State) (a : Fin 6) (ref : LineRef) (v : SampleVolumes) (l : Line) : State :=
  ({ s with
    arms := s.arms.modify a (fun x => { x.metered v with lineCarries := v.carries })
    store := s.storeAfter a v } : State).modifyLine ref (fun _ => l)

/-- Arm `a` as a line sample of so many pulses and so much gross volume counts and stages it, with this much still to deliver
(R85, R87, R91). -/
def Arm.sampled (x : Arm) (pulses gross remaining : Nat) : Arm :=
  if x.state.flowing = true then (x.counts pulses gross).stages remaining pulses else x.counts pulses gross

/-- The line `l` of arm `a` is running, and its next sample finds it at its preset (R86). -/
abbrev State.decides (s : State) (a : Fin 6) (l : Line) : Prop :=
  l.isRunning = true ∧
    l.preset * 1000 ≤ (l.sampled (s.nextSample a (s.arm a).boundTrial (s.arm a).lineCarries) (s.probes.get a)).delivered

/-- The line `l` of arm `a` as its next sample leaves it: the volumes have joined it, and at its preset a running line is ending
COMPLETE (R75, R86). -/
def State.lineAfter (s : State) (a : Fin 6) (l : Line) : Line :=
  let sampled := l.sampled (s.nextSample a (s.arm a).boundTrial (s.arm a).lineCarries) (s.probes.get a)
  if s.decides a l then { sampled with result := some .complete } else sampled

/-- A line sample of arm `a` up to the judgement of its leak and its close, from `s` to `t` (R55, steps 1 to 3, and R85 to R87 of
step 4): the volumes join the line `l` and the totalizers, the line's dosing is served (R132), and the counts take the sample;
at its preset the running line is ending COMPLETE and the arm closes for the line end (R86, R89); else a flowing arm is
staged. -/
def State.lineSampled (s t : State) (a : Fin 6) (ref : LineRef) (l : Line) : Prop :=
  let v := s.nextSample a (s.arm a).boundTrial (s.arm a).lineCarries
  let l1 := l.sampled v (s.probes.get a)
  let pulses := (s.arm a).decoder.sampleCount
  ∃ m, (s.meteredLine a ref v l1).served m a v.gross ∧
    (s.decides a l → State.closesForLineEnd { m.modifyLine ref (fun _ => s.lineAfter a l) with
      arms := m.arms.modify a (fun x => x.counts pulses v.gross) } t a) ∧
    (¬ s.decides a l →
      t = { m with arms := m.arms.modify a (fun x => x.sampled pulses v.gross (l.preset * 1000 - l1.delivered)) })

/-- A running line of the order in a slot, active on arm `a`, is ending ABORTED with CANCEL from `s` to `t`, and its arm closes
for the line end (R36, R89); an arm with no such line does not move. -/
def State.cancelsOn (s t : State) (slot : Fin 24) (a : Fin 6) : Prop :=
  (∀ ref, (s.arm a).active = some ref → ref.slot = slot → s.running a = true →
    (s.modifyLine ref (fun l =>
      { l with result := some .aborted, flags := { l.flags with cancel := true } })).closesForLineEnd t a) ∧
    ((∀ ref, (s.arm a).active = some ref → ref.slot = slot → s.running a = false) → t = s)

/-- The running lines of the order in a slot are cancelled from `s` to `t`, arm by arm. -/
def State.cancelsAll (slot : Fin 24) : List (Fin 6) → State → State → Prop
  | [], s, t => t = s
  | a :: rest, s, t => ∃ m, s.cancelsOn m slot a ∧ State.cancelsAll slot rest m t

/-- Every open dosing record is bounded, and stands on an arm that carries a line. -/
def State.dosingKept (s : State) : Prop :=
  ∀ a r, (s.arm a).dosing = some r → r.bounded ∧ (s.arm a).active.isSome = true

/-- Roles, positions and shots agree (R124): an injector stands in one position at most; a standby is named by one primary,
which stands in a position, stands in none itself, and shares its primary's additive; a FAILED injector is neither; and a
solenoid is on only for the shot in flight of a record that engages its injector. -/
def State.rolesKept (s : State) : Prop :=
  (∀ a p b q i, (s.arm a).setup.positions.get p = some i → (s.arm b).setup.positions.get q = some i → a = b ∧ p = q) ∧
    (∀ j i, (s.injector j).standby = some i →
      (∃ a p, (s.arm a).setup.positions.get p = some j) ∧ (∀ a p, (s.arm a).setup.positions.get p ≠ some i) ∧
        (∀ k, (s.injector k).standby = some i → k = j) ∧ (s.injectorStore i).additive = (s.injectorStore j).additive) ∧
    (∀ i, (s.injectorStore i).failed = true →
      (∀ a p, (s.arm a).setup.positions.get p ≠ some i) ∧ ∀ j, (s.injector j).standby ≠ some i) ∧
    ∀ i, (s.injector i).window.isSome = true →
      ∃ a r, (s.arm a).dosing = some r ∧ (s.arm a).engaged = some i ∧ r.shot.isSome = true

/-- The dosing unit is kept: every arm stands by its state, its records are bounded (R131) and its roles and shots agree
(R124). -/
def State.dosesKept (s : State) : Prop := s.armsStand ∧ s.dosingKept ∧ s.rolesKept

/-- Recipes and injector calibrations lie in their ranges (R122, R150), and every open record keeps the values they gave it:
its interval is at least 2,000 mL, its injector engaged is the one it names and has its additive, and it is DISENGAGED, owing
nothing, where it engages none (R130, R138, R139). -/
def State.dosesCalibrated (s : State) : Prop :=
  (∀ k x, s.recipes.get k = some x → 1 ≤ x.additive ∧ 10 ≤ x.rate ∧ x.rate ≤ 2500) ∧
    (∀ i, (s.injectorStore i).additive ≠ 0 → 500 ≤ (s.injectorStore i).shotSize ∧ 100000 ≤ (s.injectorStore i).kFactor) ∧
    ∀ a r, (s.arm a).dosing = some r →
      1 ≤ r.additive ∧ 10 ≤ r.rate ∧ r.rate ≤ 2500 ∧ 2000 ≤ r.interval ∧ 100000 ≤ r.servingKf ∧
        (∀ i, (s.arm a).engaged = some i → i = r.serving ∧ (s.injectorStore i).additive = r.additive) ∧
        ((s.arm a).engaged = none → r.phase = .disengaged ∧ r.owed = 0 ∧ r.shot = none)

/-- Every probe's temperature lies within −4,500 to 6,500 centi-degrees (R68). -/
def State.probesKept (s : State) : Prop :=
  ∀ a, -4500 ≤ (s.probes.get a).temperature ∧ (s.probes.get a).temperature ≤ 6500

/-- A probe's completed gate gives temperature `t` (R64): none where the count is 0; else the exact quotient of
(40,000 − count) × 10,000,000 by 385 × count, rounded to nearest, halves away from zero, plus the offset. -/
def Probe.measures (p : Probe) (offset : Int) (t : Option Int) : Prop :=
  (p.count = 0 → t = none) ∧
    (p.count ≠ 0 → ∃ raw : Int, t = some (raw + offset) ∧
      2 * |385 * p.count * raw - (40000 - p.count) * 10000000| ≤ 385 * p.count ∧
      (2 * |385 * p.count * raw - (40000 - p.count) * 10000000| = 385 * p.count →
        |(40000 - (p.count : Int)) * 10000000| ≤ 385 * p.count * |raw|))

/-- The effect of an invalid gate on a probe, by its status (R66). -/
def Probe.fails (p q : Probe) : Prop :=
  q.temperature = p.temperature ∧
    ((p.status = .failed ∧ q.status = .failed ∧ q.recoveryRun = 0 ∧ q.invalidRun = p.invalidRun) ∨
      (p.status = .valid ∧ q.status = .holding ∧ q.recoveryRun = p.recoveryRun ∧ q.invalidRun = 1) ∨
      ((p.status = .unknown ∨ p.status = .holding) ∧ q.recoveryRun = p.recoveryRun ∧
        if p.invalidRun < 10 then q.status = p.status ∧ q.invalidRun = p.invalidRun + 1
        else q.status = .failed ∧ q.invalidRun = 11))

/-- A probe moves from `p` to `q` at a gate whose temperature is `t`, by the tables of R65 and R66; its count becomes 0 and
the gate's T is kept for READ ARM. -/
def Probe.moves (p q : Probe) (t : Option Int) : Prop :=
  q.count = 0 ∧ q.lastGate = t ∧
    match t with
    | some x =>
      if -4500 ≤ x ∧ x ≤ 6500 then
        (p.status = .failed ∧ p.recoveryRun < 2 ∧ q.status = .failed ∧ q.recoveryRun = p.recoveryRun + 1 ∧
            q.temperature = p.temperature ∧ q.invalidRun = p.invalidRun) ∨
          (p.status = .failed ∧ 2 ≤ p.recoveryRun ∧ q.status = .valid ∧ q.recoveryRun = 0 ∧ q.temperature = x ∧
            q.invalidRun = 0) ∨
          (p.status ≠ .failed ∧ q.status = .valid ∧ q.recoveryRun = p.recoveryRun ∧ q.temperature = x ∧
            q.invalidRun = if p.status = .valid then p.invalidRun else 0)
      else Probe.fails p q
    | none => Probe.fails p q

/-- The end of a gate that gave each probe this temperature (R62, R63, R65 to R67): the next gate begins, every probe moves,
an arm whose probe failed takes PROBE and PROBE_FAULT is raised for it, an arm whose probe recovered is rid of PROBE, the
deadman timer follows where an arm left a flowing state, and nothing else moves. -/
def State.gateEnded (s t : State) (temp : Fin 6 → Option Int) : Prop :=
  t = { s with
    gate := ⟨0, 2000⟩, probes := t.probes, arms := t.arms, bay := t.bay, terminal := t.terminal,
    console := t.console } ∧
    (if ∃ a, (s.arm a).state.flowing = true ∧ (t.arm a).state.flowing = false then s.bayFollows t else t.bay = s.bay) ∧
    s.raisesOnly t (fun k subject => k = .probeFault ∧ ∃ a, subject = number a ∧ (t.probes.get a).status = .failed ∧
      (s.probes.get a).status ≠ .failed) ∧
    ∀ a,
      (s.probes.get a).moves (t.probes.get a) (temp a) ∧
        (if (t.probes.get a).status = .failed ∧ (s.probes.get a).status ≠ .failed then
          t.arm a = (s.arm a).withCause .probe ∧ t.announced .probeFault (number a)
        else if (s.probes.get a).status = .failed ∧ (t.probes.get a).status = .valid then
          t.arm a = { s.arm a with holds := { (s.arm a).holds with probe := false } }
        else t.arm a = s.arm a)

/-! ### Reports: the items of each rule in its order, at the widths of 11 (R191, R192; notes/assumptions/13.md) -/

/-- READ BAY reports the clock, the two permissives, the stop, the deadman, each arm's state and bay causes, the switch and the
seal, and the journal's counts (R119). -/
def State.bayReport (s : State) : List Byte :=
  let permissive (x : PermissiveInput) : List Byte :=
    yesNo x.level ++ field 1 (if x.recognized = .present then 1 else 2) ++ timerField x.timer
  field 2 s.clock.day ++ field 4 s.clock.second ++ yesNo s.clock.isSet ++ permissive s.bay.ground
    ++ permissive s.bay.overfill
    ++ yesNo s.bay.stop.level ++ field 1 (if s.bay.stop.active = true then 1 else 2) ++ timerField s.bay.stop.timer
    ++ yesNo s.bay.deadman.pressed ++ yesNo s.bay.deadman.elapsed.isSome
    ++ field 2 (s.bay.deadman.elapsed.getD 0 / 1000) ++ yesNo s.bay.deadman.warned
    ++ (List.finRange 6).flatMap (fun a => field 1 (s.arm a).state.code ++ yesNo (s.arm a).holds.ground
      ++ yesNo (s.arm a).holds.overfill ++ yesNo (s.arm a).holds.deadman)
    ++ field 1 (if s.bay.switch = .amend then 1 else 2) ++ field 1 s.store.sealLevel.code
    ++ field 1 s.storedCount ++ field 1 s.reservations

/-- READ PERMIT reports the entry, the permit, its claim as slot and order number, its last presentation, and whether it is
expired (R13). -/
def State.permitReport (s : State) (e : Fin 200) (q : Permit) : List Byte :=
  field 1 (number e) ++ field 4 q.number ++ field 2 q.carrier ++ [q.classes] ++ field 2 q.expiry ++ field 1 q.state.code
    ++ optionalField 5 (fun k => field 1 (number k) ++ field 4 (((s.order k).map Order.number).getD 0)) q.claim
    ++ optionalField 6 (fun x => field 2 x.day ++ field 4 x.second) q.lastPresented
    ++ yesNo (decide (q.expiry < s.clock.day))

/-- READ ORDER reports of an order its slot, its number and parties, its state, its claim, the timer that runs, and its number
of lines (R39). -/
def Order.report (o : Order) (slot : Fin 24) : List Byte :=
  field 1 (slot.val + 1) ++ field 4 o.number ++ field 4 o.permit ++ field 2 o.carrier ++ field 4 o.tanker
    ++ field 1 o.state.code ++ optionalField 4 (field 4) o.claimPermit ++ optionalField 4 (field 4) o.claimTanker
    ++ optionalField 6 (fun x => field 2 x.day ++ field 4 x.second) o.claimTime
    ++ timerField (if o.claimTimer.isSome then o.claimTimer else o.idleTimer) ++ field 1 o.lines.length

/-- READ ORDER reports of a line its fields, its standing with the arm it is active on, its result, its volumes in litres, its
average temperature, its additive where it names a recipe, and its flags (R39). -/
def Line.report (l : Line) (average : Option Int) (dosed required : Nat) : List Byte :=
  field 1 l.compartment ++ field 1 (number l.product) ++ field 2 l.preset ++ field 1 l.basis.code
    ++ field 1 (numberOrZero l.recipe)
    ++ field 1 (if l.isWaiting = true then 1 else if l.isRunning = true then 2 else if l.isEnding = true then 3 else 4)
    ++ optionalField 1 (fun (a : Fin 6) => field 1 (number a)) l.arm
    ++ optionalField 1 (fun (r : LineResult) => field 1 r.code) l.result
    ++ field 4 ((l.record.gv + 500) / 1000) ++ field 4 ((l.record.gsv + 500) / 1000)
    ++ optionalField 2 (signedField 2) average
    ++ optionalField 8 (fun (_ : Fin 16) => field 4 dosed ++ field 4 required) l.recipe ++ field 2 l.flags.bits

/-- READ ARM reports the arm's state, its outputs, its active line and that line's quantities, its causes and queued start, its
counts and timer, the flow, the stray and overrun volumes, its setup with its product, and its probe (R101). -/
def State.armReport (s : State) (a : Fin 6) : List Byte :=
  let x := s.arm a
  let active := x.active.bind (fun ref => (s.lineAt ref).map (fun l => (ref, l)))
  field 1 x.state.code ++ optionalField 1 (fun (r : ClosingReason) => field 1 r.code) x.reason
    ++ yesNo x.low ++ yesNo x.full ++ yesNo x.reducedFlow
    ++ optionalField 9 (fun (y : LineRef × Line) => field 4 (((s.order y.1.slot).map Order.number).getD 0)
        ++ field 1 (number y.1.slot) ++ field 1 y.1.line ++ field 1 y.2.stateCode
        ++ optionalField 1 (fun (r : LineResult) => field 1 r.code) y.2.result) active
    ++ optionalField 23 (fun (y : LineRef × Line) => field 4 y.2.delivered
        ++ signedField 4 (y.2.preset * 1000 - y.2.delivered) ++ field 4 y.2.record.gv ++ field 4 y.2.record.gsv
        ++ field 2 x.stageVolume ++ field 4 x.stageGross ++ yesNo x.boundTrial.isSome) active
    ++ field 2 x.holds.bits ++ optionalField 5 (fun (q : QueuedStart) => field 4 q.order ++ field 1 q.line) x.queued
    ++ field 2 x.zeroRun ++ field 2 x.closeCount
    ++ timerField (if x.noFlowTimer.isSome then x.noFlowTimer else x.suspendTimer)
    ++ field 2 x.flowRate ++ field 4 x.stray ++ field 4 x.lastOverrun
    ++ field 1 (numberOrZero x.setup.product) ++ field 2 x.setup.lowStart ++ field 2 x.setup.restart
    ++ field 2 x.setup.topOff ++ field 2 x.setup.overrunLimit
    ++ optionalField 1 (fun (i : Fin 8) => field 1 (number i)) (x.setup.positions.get 0)
    ++ optionalField 1 (fun (i : Fin 8) => field 1 (number i)) (x.setup.positions.get 1)
    ++ optionalField 17 (fun (q : Product) => (q.name ++ List.replicate 16 0#8).take 16 ++ field 1 q.cls)
        (x.setup.product.bind s.products.get)
    ++ field 1 (s.probes.get a).status.code ++ signedField 2 (s.probes.get a).temperature
    ++ field 1 (s.probes.get a).invalidRun ++ optionalField 2 (signedField 2) (s.probes.get a).lastGate

/-- READ INJECTOR reports the injector's calibration, its condition and role, its shot, its window, its totalizer and
statistics, and the arm, line and record it serves (R144). The arguments say where it is PRIMARY, whose STANDBY it is, and which
arm engages it. -/
def State.injectorReport (s : State) (i : Fin 8) (place : Option (Fin 6 × Fin 2)) (primary : Option (Fin 8))
    (engaging : Option (Fin 6)) : List Byte :=
  let cal := s.injectorStore i
  let unit := s.injector i
  let record := engaging.bind (fun a => (s.arm a).dosing.map (fun r => (a, r)))
  field 1 cal.additive ++ field 2 cal.shotSize ++ field 4 cal.kFactor ++ field 1 (if cal.failed = true then 2 else 1)
    ++ field 1 (if place.isSome = true then 2 else if primary.isSome = true then 3 else 1)
    ++ optionalField 2 (fun (x : Fin 6 × Fin 2) => field 1 (number x.1) ++ field 1 (number x.2)) place
    ++ optionalField 1 (fun (j : Fin 8) => field 1 (number j)) primary
    ++ optionalField 1 (fun (j : Fin 8) => field 1 (number j)) unit.standby
    ++ field 1 (if unit.window.isSome = true then 2 else 1)
    ++ optionalField 5 (fun (x : Nat × Shot) => field 2 x.2.feedback ++ field 2 x.1 ++ yesNo x.2.retry)
        (record.bind (fun x => x.2.shot.map (fun shot => (x.2.target, shot))))
    ++ timerField unit.window ++ field 4 cal.total.millilitres ++ field 4 cal.total.remainder
    ++ field 2 unit.stats.firstGood ++ field 2 unit.stats.goodAfterRetry ++ field 2 unit.stats.failed
    ++ field 2 unit.stats.overspeed
    ++ optionalField 25 (fun (x : Fin 6 × DosingRecord) => field 1 (number x.1)
        ++ field 4 ((((s.arm x.1).active.bind (fun ref => s.order ref.slot)).map Order.number).getD 0)
        ++ field 1 (((s.arm x.1).active.map LineRef.line).getD 0) ++ field 1 x.2.phase.code ++ field 4 x.2.interval
        ++ field 4 x.2.accumulator ++ field 1 x.2.owed ++ field 1 x.2.budget ++ field 4 x.2.feedback
        ++ field 4 x.2.dosedBefore) record

/-- READ NOTE part 0 reports a note's header, its slot and the slot's state (R169, R192). -/
def Note.report (n : Note) (slot : Fin 48) (collected : Bool) : List Byte :=
  field 4 n.sequenceNumber ++ field 1 (number slot) ++ field 1 (if collected = true then 2 else 1) ++ field 4 n.order
    ++ field 4 n.permit ++ field 2 n.carrier ++ field 4 n.tanker ++ field 2 n.claimTime.day ++ field 4 n.claimTime.second
    ++ field 2 n.closeTime.day ++ field 4 n.closeTime.second ++ field 1 n.cause.code
    ++ field 1 (if n.clockUnset = true then 1 else 0) ++ field 1 n.printed ++ field 1 n.lines.length

/-- READ NOTE parts 1 to 9 report a line record (R169, R192); the readings stand with the counter of a started line. -/
def NoteLine.report (x : NoteLine) (seq part : Nat) (readings : Option (Readings × Readings × Nat)) : List Byte :=
  field 4 seq ++ field 1 part ++ field 1 x.compartment ++ field 1 (number x.product) ++ field 2 x.preset
    ++ field 1 x.basis.code ++ field 1 ((x.result.map LineResult.code).getD 0) ++ field 4 x.gvLitres ++ field 4 x.gsvLitres
    ++ field 2 x.flags.bits ++ optionalField 2 (signedField 2) x.average
    ++ optionalField 9 (fun (y : AdditiveTotals) => field 1 y.additive ++ field 4 y.dosed ++ field 4 y.required) x.additive
    ++ optionalField 26 (fun (y : Readings × Readings × Nat) =>
        field 4 y.1.gross.litres ++ field 2 y.1.gross.remainder ++ field 4 y.1.standard.litres
          ++ field 2 y.1.standard.remainder ++ field 4 y.2.1.gross.litres ++ field 2 y.2.1.gross.remainder
          ++ field 4 y.2.1.standard.litres ++ field 2 y.2.1.standard.remainder ++ field 2 y.2.2) readings

/-- READ STATISTICS reports of a meter its statistics, its channels, its mode, and the counts of its last line with the
allowance they give, 0 while no line has started since cold start (R58). -/
def Decoder.statisticsReport (d : Decoder) : List Byte :=
  field 2 d.stats.missingA ++ field 2 d.stats.missingB ++ field 2 d.stats.channelFailures ++ field 2 d.stats.pulseHolds
    ++ field 1 d.statusA.code ++ field 1 d.statusB.code ++ field 1 (if d.mode = .line then 1 else 2)
    ++ field 4 d.lineCounted ++ field 4 d.lineCorrected
    ++ field 4 (if d.lineStarted = true then 5 + d.lineCounted / 1000 else 0)

/-- READ TOTALS reports of a meter its totalizers, K-factor, curve, probe offset and pending trial factor (R158). -/
def MeterStore.report (m : MeterStore) : List Byte :=
  field 4 m.gross.litres ++ field 2 m.gross.remainder ++ field 4 m.standard.litres ++ field 2 m.standard.remainder
    ++ field 4 m.kFactor ++ field 1 m.curve.length ++ m.curve.flatMap (fun x => field 2 x.flow ++ field 4 x.factor)
    ++ signedField 2 m.offset ++ optionalField 4 (field 4) m.pendingTrial

/-- READ TOTALS reports of an injector its dosing totalizer, its calibration and its failed flag (R158). -/
def InjectorStore.report (x : InjectorStore) : List Byte :=
  field 4 x.total.millilitres ++ field 4 x.total.remainder ++ field 1 x.additive ++ field 2 x.shotSize ++ field 4 x.kFactor
    ++ yesNo x.failed

end Sys2Proof.Machine
end

