-- ==== Sys2Proof/WellFormed.lean ====
section
/-!
DEFINITION. Which commands the field and the ports can present: every field of a request fits its width on the wire, and
every body fits a frame (11, "Request codes and request bodies"). Ranges beyond the widths are the requests' own checks.
-/

namespace Sys2Proof

/-- A number fits a field of `width` bytes. -/
def fits (width n : Nat) : Bool := decide (n < 256 ^ width)

/-- The longest body of a frame (R177, R190). -/
abbrev maxBody : Nat := 240

/-- An order line entry fits its 6 bytes (11). -/
def LineSpec.wellFormed (l : LineSpec) : Bool :=
  fits 1 l.compartment && fits 1 l.product && fits 2 l.preset && fits 1 l.basis && fits 1 l.recipe

/-- A curve point fits its 6 bytes (11). -/
def CurvePoint.wellFormed (p : CurvePoint) : Bool := fits 2 p.flow && fits 4 p.factor

/-- The request codes of the catalogue (11). -/
def requestCodes : List Nat :=
  [0x01, 0x02, 0x03, 0x04, 0x05, 0x06, 0x07, 0x08, 0x09, 0x0A, 0x0B, 0x0C, 0x20, 0x21, 0x22, 0x23, 0x24, 0x25, 0x26,
    0x27, 0x28, 0x29, 0x2A, 0x2B, 0x2C, 0x2D, 0x2E, 0x2F, 0x30, 0x31, 0x32, 0x33, 0x34, 0x35, 0x36, 0x37, 0x40, 0x41,
    0x42, 0x43, 0x44, 0x45, 0x46, 0x47]

/-- A command that the field or a port can present. -/
def Instr.wellFormed : Instr → Bool
  | .setClock _ _ day second => fits 2 day && fits 4 second
  | .writePermit _ _ permit carrier _ expiry state => fits 4 permit && fits 2 carrier && fits 2 expiry && fits 1 state
  | .barPermit _ _ permit => fits 4 permit
  | .deletePermit _ _ permit => fits 4 permit
  | .readPermit _ _ permit => fits 4 permit
  | .writeProduct _ _ slot nameLength name cls coefA coefB =>
    fits 1 slot && fits 1 nameLength && decide (name.length = 16) && fits 1 cls && fits 2 coefA && fits 2 coefB
  | .writeArmSetup _ _ arm product lowStart restartVolume topOff overrunLimit =>
    fits 1 arm && fits 1 product && fits 2 lowStart && fits 2 restartVolume && fits 2 topOff && fits 2 overrunLimit
  | .postOrder _ _ order permit carrier tanker lines =>
    fits 4 order && fits 4 permit && fits 2 carrier && fits 4 tanker && decide (15 + 6 * lines.length ≤ maxBody)
      && lines.all LineSpec.wellFormed
  | .amendOrder _ _ order permit tanker lines =>
    fits 4 order && fits 4 permit && fits 4 tanker && decide (13 + 6 * lines.length ≤ maxBody)
      && lines.all LineSpec.wellFormed
  | .presentPermit _ _ permit tanker order => fits 4 permit && fits 4 tanker && fits 4 order
  | .releaseClaim _ _ order => fits 4 order
  | .claimTimeout _ => true
  | .idleOrderTimeout _ => true
  | .finishOrder _ _ order => fits 4 order
  | .cancelOrder _ _ order => fits 4 order
  | .readOrder _ _ order slot part => fits 4 order && fits 1 slot && fits 1 part
  | .meterEdge _ _ => true
  | .meteringSample _ => true
  | .gateCompletion => true
  | .gateTimeout => true
  | .readStatistics _ _ arm => fits 1 arm
  | .readAndClearStatistics _ _ arm => fits 1 arm
  | .startLine _ _ arm order line => fits 1 arm && fits 4 order && fits 1 line
  | .noFlowTimeout _ => true
  | .endLine _ _ arm => fits 1 arm
  | .suspendTimeout _ => true
  | .clearLockout _ _ arm => fits 1 arm
  | .readArm _ _ arm => fits 1 arm
  | .suspendArm _ _ arm => fits 1 arm
  | .holdArm _ _ arm => fits 1 arm
  | .resumeArm _ _ arm => fits 1 arm
  | .releaseArm _ _ arm => fits 1 arm
  | .permissiveLoss _ => true
  | .permissiveInputReturn _ => true
  | .permissiveRestored _ => true
  | .estopActivation => true
  | .estopInputRelease => true
  | .estopReleaseTimeout => true
  | .deadmanWarning => true
  | .deadmanExpiry => true
  | .deadmanPress _ => true
  | .readBay _ _ => true
  | .writeRecipe _ _ slot additive rate tolerance => fits 1 slot && fits 1 additive && fits 2 rate && fits 1 tolerance
  | .assignInjector _ _ arm position injector => fits 1 arm && fits 1 position && fits 1 injector
  | .removeInjector _ _ arm position => fits 1 arm && fits 1 position
  | .assignStandby _ _ primary standby => fits 1 primary && fits 1 standby
  | .releaseStandby _ _ injector => fits 1 injector
  | .returnInjector _ _ injector => fits 1 injector
  | .injectorFeedbackPulse _ => true
  | .verifyWindowExpiry _ => true
  | .readInjector _ _ injector => fits 1 injector
  | .writeCalibrationKFactor _ _ arm kFactor => fits 1 arm && fits 4 kFactor
  | .writeCalibrationCurve _ _ arm points =>
    fits 1 arm && decide (3 + 6 * points.length ≤ maxBody) && points.all CurvePoint.wellFormed
  | .writeCalibrationOffset _ _ arm offset => fits 1 arm && decide (-32768 ≤ offset) && decide (offset ≤ 32767)
  | .writeCalibrationInjector _ _ injector additive shotSize kFactor =>
    fits 1 injector && fits 1 additive && fits 2 shotSize && fits 4 kFactor
  | .calibrationSwitchChange _ => true
  | .setSeal _ _ level => fits 1 level
  | .writeTrialFactor _ _ arm factor => fits 1 arm && fits 4 factor
  | .readTotals _ _ part => fits 1 part
  | .collectNote _ _ sequenceNumber => fits 4 sequenceNumber
  | .markPrinted _ _ sequenceNumber => fits 4 sequenceNumber
  | .readNote _ _ sequenceNumber part => fits 4 sequenceNumber && fits 1 part
  | .listNotes _ _ => true
  | .powerFailSave => true
  | .powerFailWarningDeassert => true
  | .coldStart => true
  | .restart _ _ => true
  | .fetchNotice _ _ => true
  | .noticeDone _ _ => true
  | .setNoticeLevels _ _ designator safety batch dosing record _ =>
    fits 1 designator && fits 1 safety && fits 1 batch && fits 1 dosing && fits 1 record
  | .frameGapTimeout _ => true
  | .characterFault _ => true
  | .frameBadCrc _ => true
  | .unknownRequest _ _ code body => !requestCodes.contains code.toNat && decide (body.length ≤ maxBody)
  | .frameWhileBusy _ _ _ body => decide (body.length ≤ maxBody)
  | .transmissionEnd _ => true
  | .linkReset _ => true
  | .clockAdvance => true
  | .referenceEdge => true
  | .probeEdge _ => true
  | .characterReceived _ _ => true

end Sys2Proof
end

