-- ==== Sys2Proof/Certificates/Slice0/Obligations.lean ====
section
/-!
DEFINITION. The statements for the provers. Where a statement says what a request does, the request stands on a ready port
and meets its checks; `State.answered` then says that the port hunts again and sends the OK reply (R177, R178), and
`State.turnedAway` that a refused request changes nothing else.
-/

open Sys2Proof Sys2Proof.Machine

/-! ### The machine as a whole -/

/-- A step with a command at the front of the queue is that command's effect on the state with the queue's rest. The queue is
the model's own (notes/assumptions/1.md). -/
def Obligations.StepRunsTheFrontCommand : Prop :=
  ∀ (c : Instr) (rest : List Instr) (s : State),
    step { s with pending := c :: rest } = exec c { s with pending := rest }

/-- Every command answers a next state in every state, and leaves the queue alone. -/
def Obligations.EveryCommandCompletes : Prop :=
  ∀ (c : Instr) (s : State), ∃ t, exec c s = .next t ∧ t.pending = s.pending

/-- On an empty queue a step is one millisecond: every running timer is one less, the deadman timer's elapsed time one more,
the marks by which R145 joins two events of one moment are cleared, and nothing else changes; the queue then holds the expiry
of every timer that comes to its end, each once, and nothing else: `State.expires` lists them (the model's choice,
notes/assumptions/2.md; the durations are those of R2, R30, R33, R51, R63, R87, R95, R113, R115, R117, R135 and R177). An expiry
so queued has its effect while its timer still shows that it has run out; behind an event that stopped or restarted the timer it
does not happen (R3, R52, R63, R87, R113, R120, R145, R177; notes/assumptions/3.md). -/
def Obligations.EmptyQueueRunsTheTimers : Prop :=
  (∀ s : State, s.pending = [] → ∃ t : State, step s = .next t ∧
    t = { s with
      clock := { s.clock with timer := s.clock.timer - 1 }
      orders := s.orders.map (Option.map (fun o =>
        { o with claimTimer := oneLess o.claimTimer, idleTimer := oneLess o.idleTimer }))
      arms := s.arms.map (fun x => { x with
        sampleTimer := x.sampleTimer - 1, noFlowTimer := oneLess x.noFlowTimer, suspendTimer := oneLess x.suspendTimer
        dosing := x.dosing.map (fun r => { r with late := none }) })
      gate := { s.gate with timer := s.gate.timer - 1 }
      injectors := s.injectors.map (fun x => { x with window := oneLess x.window, voided := false })
      bay := { s.bay with
        ground := { s.bay.ground with timer := oneLess s.bay.ground.timer }
        overfill := { s.bay.overfill with timer := oneLess s.bay.overfill.timer }
        stop := { s.bay.stop with timer := oneLess s.bay.stop.timer }
        deadman := { s.bay.deadman with elapsed := s.bay.deadman.elapsed.map (fun ms => ms + 1) } }
      terminal := { s.terminal with gapTimer := oneLess s.terminal.gapTimer }
      console := { s.console with gapTimer := oneLess s.console.gapTimer }
      pending := t.pending, due := t.pending } ∧
    t.pending.Nodup ∧ ∀ c, c ∈ t.pending ↔ s.expires c) ∧
  ∀ (s : State) (c : Instr), expiryCommand c → c ∈ s.due →
    (s.shows c → exec c s = exec c (s.expiryTaken c)) ∧ (¬ s.shows c → exec c s = .next (s.expiryTaken c))

/-- The state after reset, the cold start of an engine whose store and journal were never written (R1, R5, R17, R19, R21,
R43, R56, R61, R79, R111, R121, R123, R146, R160, R181, R183; notes/assumptions/6.md; the inputs' levels are
notes/assumptions/5.md). Every invariant stated below holds of it. -/
def Obligations.ResetState : Prop :=
  let s := State.reset
  s.clock = ⟨0, 0, false, 1000⟩ ∧ (∀ e, s.permits.get e = none) ∧ (∀ k, s.products.get k = none) ∧
    (∀ k, s.recipes.get k = none) ∧ (∀ k, s.order k = none) ∧
    (∀ a, (s.arm a).state = .idle ∧ (s.arm a).reason = none ∧ (s.arm a).active = none ∧ (s.arm a).queued = none ∧
      (s.arm a).holds = HoldSet.clear ∧ (s.arm a).stageVolume = 200 ∧ (s.arm a).stageGross = 0 ∧
      (s.arm a).zeroRun = 0 ∧ (s.arm a).closeCount = 0 ∧ (s.arm a).noFlowTimer = none ∧
      (s.arm a).suspendTimer = none ∧ (s.arm a).stray = 0 ∧ (s.arm a).lastOverrun = 0 ∧ (s.arm a).flowRate = 0 ∧
      (s.arm a).sampleTimer = 200 ∧ (s.arm a).lineCarries = ⟨0, 0, 0⟩ ∧ (s.arm a).strayCarries = ⟨0, 0, 0⟩ ∧
      (s.arm a).reducedFlow = false ∧ (s.arm a).dosing = none ∧ (s.arm a).boundTrial = none ∧
      (s.arm a).setup.product = none ∧ (s.arm a).setup.lowStart = 200 ∧ (s.arm a).setup.restart = 100 ∧
      (s.arm a).setup.topOff = 300 ∧ (s.arm a).setup.overrunLimit = 50 ∧
      (∀ p, (s.arm a).setup.positions.get p = none) ∧
      (s.arm a).decoder = ⟨.a, .normal, .normal, 0, 0, .stray, 0, 0, 0, false, ⟨0, 0, 0, 0⟩⟩) ∧
    s.gate = ⟨0, 2000⟩ ∧
    (∀ a, (s.probes.get a).count = 0 ∧ (s.probes.get a).status = .unknown ∧ (s.probes.get a).temperature = 1500 ∧
      (s.probes.get a).invalidRun = 0 ∧ (s.probes.get a).recoveryRun = 0) ∧
    (∀ i, s.injector i = ⟨none, none, ⟨0, 0, 0, 0⟩, false⟩ ∧ s.injectorStore i = ⟨0, 0, 0, false, ⟨0, 0⟩⟩) ∧
    (∀ a, s.meterStore a = ⟨0, [], 0, ⟨0, 0⟩, ⟨0, 0⟩, none⟩) ∧ s.store.sealLevel = .sealOpen ∧ s.store.counter = 0 ∧
    (∀ k, s.journal.slots.get k = .empty) ∧ s.journal.composition = [] ∧ s.journal.lastSequence = 0 ∧
    s.journal.saveArea = [] ∧ s.bay.ground.recognized = .lost ∧ s.bay.overfill.recognized = .lost ∧
    s.bay.stop.active = true ∧ s.bay.deadman.elapsed = none ∧ s.bay.deadman.warned = false ∧ s.bay.saved = false ∧
    (∀ p, s.port p = ⟨[], none, none, none, [], ⟨0, 2, 3, 6⟩, 0xFFFF#16, []⟩) ∧ s.pending = [] ∧ s.due = [] ∧
    s.linesKept ∧ s.claimsAgree ∧ s.interlocked ∧ s.journalRoom ∧ s.journal.kept ∧ s.portsKept ∧ s.dosesKept ∧
    s.dosesCalibrated ∧ s.clockKept ∧ s.store.kept ∧ s.probesKept

/-! ### Requests and frames (10) -/

/-- Every request on a ready port is answered at once, with its tag and code; and where the reply code is neither OK nor
QUEUED, the reply carries that code alone and nothing but the port's frame and reply has changed (R178). -/
def Obligations.RefusedRequestsChangeNothing : Prop :=
  ∀ (i : Instr) (p : PortId) (tag code : Byte) (body : List Byte) (s : State),
    requestFrame i = some (p, tag, code, body) → s.ready p →
      ∃ t c content, exec i s = .next t ∧ (t.port p).transmit = some (replyFrame tag code (ReplyCode.byte c :: content)) ∧
        (c ≠ .ok → c ≠ .queued → content = [] ∧ t = s.turnedAway p tag code c)

/-- Checks 1 and 2 of R178: a code outside the catalogue is answered UNKNOWN_REQUEST, and a request of the other port is
answered NOT_PERMITTED, whatever its body. -/
def Obligations.PortChecksComeFirst : Prop :=
  (∀ (p : PortId) (tag code : Byte) (body : List Byte) (s : State), s.ready p → code.toNat ∉ requestCodes →
    exec (.unknownRequest p tag code body) s = .next (s.turnedAway p tag code .unknownRequest)) ∧
  ∀ (i : Instr) (p : PortId) (tag code : Byte) (body : List Byte) (s : State),
    requestFrame i = some (p, tag, code, body) → s.ready p →
      (p = .console ∧ 0x20 ≤ code.toNat ∧ code.toNat ≤ 0x37 ∨ p = .terminal ∧ 0x40 ≤ code.toNat ∧ code.toNat ≤ 0x47) →
        exec i s = .next (s.turnedAway p tag code .notPermitted)

/-- A valid frame (the command FRAME_WHILE_BUSY, or any request) that completes after the power-fail save is ignored (R172); one
that completes while the transmitter is busy is not judged: it is owed PORT_BUSY, or discarded where a PORT_BUSY is owed or
being sent (R179). That the frame leaves its port hunting is notes/assumptions/4.md. -/
def Obligations.NoRequestIsTakenWhileBusyOrSaved : Prop :=
  ∀ (i : Instr) (p : PortId) (tag code : Byte) (body : List Byte) (s : State),
    requestFrame i = some (p, tag, code, body) →
      (s.bay.saved = true → exec i s = .next (s.heard p)) ∧
      ∀ f, s.bay.saved = false → (s.port p).transmit = some f →
        exec i s = .next (if f.portBusy = true ∨ (s.port p).owed.isSome = true then s.heard p
          else (s.heard p).modifyPort p (fun x => { x with owed := some (tag, code) }))

/-- The bytes of a request's frame, arriving one after another on a hunting port, have the request's own effect: every form of
11's catalogue is read as it is laid out (R177, R178, R190). That a request command leaves its port hunting, as a frame's last
byte does, is notes/assumptions/4.md. -/
def Obligations.TheBytesOfARequestRunIt : Prop :=
  ∀ (i : Instr) (p : PortId) (tag code : Byte) (body : List Byte) (s : State),
    i.wellFormed = true → requestFrame i = some (p, tag, code, body) → (s.port p).receive = [] →
      deliver p (encodeFrame tag code body) s = exec i s

/-- A frame whose last two bytes are not its CRC is discarded: the port hunts again and nothing else has changed (R177,
R190); the event FRAME_BAD_CRC says the same, whatever the receive buffer held. -/
def Obligations.DamagedFramesAreDiscarded : Prop :=
  (∀ (p : PortId) (s : State), exec (.frameBadCrc p) s = .next (s.heard p)) ∧
  ∀ (p : PortId) (tag code x y : Byte) (body : List Byte) (s : State), body.length ≤ 240 → (s.port p).receive = [] →
    let covered := 0xA5#8 :: BitVec.ofNat 8 body.length :: tag :: code :: body
    [x, y] ≠ bigEndian 2 (crc covered).toNat →
      deliver p (covered ++ [x, y]) s = .next (s.heard p)

/-- A character that completes no frame, and the link's other events (R177, R179, R180). An expiry command acts whatever time
its timer shows (notes/assumptions/3.md). -/
def Obligations.PortEvents : Prop :=
  ∀ (p : PortId) (s : State),
    -- hunting: only the sync byte begins a frame
    (∀ b, (s.port p).receive = [] → b ≠ 0xA5#8 → exec (.characterReceived p b) s = .next s) ∧
    ((s.port p).receive = [] → exec (.characterReceived p 0xA5#8) s =
      .next (s.modifyPort p (fun x => { x with receive := [0xA5#8], gapTimer := some 20 }))) ∧
    -- the length byte
    (∀ y b, (s.port p).receive = [y] → exec (.characterReceived p b) s =
      .next (if 240 < b.toNat then s.heard p
        else s.modifyPort p (fun x => { x with receive := [y, b], gapTimer := some 20 }))) ∧
    -- a byte that leaves the frame incomplete
    (∀ y n rest b, (s.port p).receive = y :: n :: rest → n.toNat ≤ 240 → rest.length + 3 < n.toNat + 6 →
      exec (.characterReceived p b) s =
        .next (s.modifyPort p (fun x => { x with receive := (y :: n :: rest) ++ [b], gapTimer := some 20 }))) ∧
    -- the gap, a character fault, a link reset
    (∀ ms, .frameGapTimeout p ∉ s.due → (s.port p).gapTimer = some ms → exec (.frameGapTimeout p) s = .next (s.heard p)) ∧
    exec (.characterFault p) s = .next (s.heard p) ∧
    exec (.linkReset p) s =
      .next (s.modifyPort p (fun x => { x with receive := [], gapTimer := none, owed := none, inService := [] })) ∧
    -- the end of a transmission
    (∀ f, (s.port p).transmit = some f → (s.port p).owed = none →
      exec (.transmissionEnd p) s = .next (s.modifyPort p (fun x => { x with transmit := none }))) ∧
    ∀ f tag code, (s.port p).transmit = some f → (s.port p).owed = some (tag, code) → s.bay.saved = false →
      exec (.transmissionEnd p) s = .next (s.modifyPort p (fun x =>
        { x with transmit := some ⟨encodeFrame tag code [0x02#8], true⟩, owed := none }))

/-! ### Notices (10) -/

/-- A raising enters a port's pending set once, with the current bay time, where the kind is enabled there and the pair is
not pending; else the port's set is unchanged. ESTOP cannot be disabled (R184). A port's attention line is asserted exactly
while its pending set holds a deliverable notice (R185). -/
def Obligations.RaisedNoticesEnterOnce : Prop :=
  ∀ (s : State) (k : NoticeKind) (subject : Nat),
    s.raise k subject = { s with terminal := (s.raise k subject).terminal, console := (s.raise k subject).console } ∧
    ∀ p, let x := s.port p
      let enters := (k = .estop ∨ x.enables.getLsbD (k.code - 1) = true) ∧ ¬ x.holdsNotice k subject
      (enters → (s.raise k subject).port p = { x with notices := x.notices ++ [⟨k, subject, s.now⟩] }) ∧
        (¬ enters → (s.raise k subject).port p = x) ∧
        (x.attention = true ↔ ∃ n ∈ x.notices, x.delivers n)

/-- FETCH NOTICE returns the first deliverable notice in the order of R186, which leaves the pending set, its level entering
the in-service set unless it is ESTOP; with none deliverable it returns NONE and changes nothing (R186, R192). -/
def Obligations.FetchNoticeReturnsTheFirst : Prop :=
  ∀ (p : PortId) (tag : Byte) (s : State), s.ready p →
    (∀ n, n ∈ (s.port p).notices → (s.port p).delivers n →
      (∀ m ∈ (s.port p).notices, (s.port p).delivers m → m ≠ n → (s.port p).precedes n m) →
      let left := (s.port p).notices.filter (fun m => m != n)
      exec (.fetchNotice p tag) s = .next ((s.modifyPort p (fun x =>
        { x with
          notices := left
          inService := if n.kind = .estop then x.inService else (x.urgency n - 1) :: x.inService })).answered p tag 0x0A#8
            (field 1 n.kind.code ++ field 1 n.subject ++ field 2 n.time.day ++ field 4 n.time.second
              ++ field 1 left.length))) ∧
    ((∀ n ∈ (s.port p).notices, ¬ (s.port p).delivers n) →
      exec (.fetchNotice p tag) s = .next (s.answered p tag 0x0A#8
        (List.replicate 8 0#8 ++ field 1 (s.port p).notices.length)))

/-- NOTICE DONE is refused on an empty in-service set; else the numerically lowest level leaves the set, and the reply
carries it (R187). SET NOTICE LEVELS: refused for the other port's designator, then for a field out of range or ESTOP
disabled; else the port's levels and enables take the values carried, and its pending and in-service sets are kept (R188). -/
def Obligations.NoticeLevels : Prop :=
  ∀ (p : PortId) (tag : Byte) (s : State), s.ready p →
    ((s.port p).inService = [] → exec (.noticeDone p tag) s = .next (s.turnedAway p tag 0x0B#8 .wrongState)) ∧
    (∀ l ∈ (s.port p).inService, (∀ m ∈ (s.port p).inService, l ≤ m) →
      exec (.noticeDone p tag) s =
        .next ((s.modifyPort p (fun x => { x with inService := x.inService.erase l })).answered p tag 0x0B#8
          (field 1 l))) ∧
    ∀ (d safety batch dosing record : Nat) (enables : BitVec 16),
      let run := exec (.setNoticeLevels p tag d safety batch dosing record enables) s
      let good := d = portCode p ∧ safety ≤ 7 ∧ batch ≤ 7 ∧ dosing ≤ 7 ∧ record ≤ 7 ∧ enables.getLsbD 0 = true
      let other := (d = 1 ∨ d = 2) ∧ d ≠ portCode p
      (other → run = .next (s.turnedAway p tag 0x0C#8 .notPermitted)) ∧
      (¬ other → ¬ good → run = .next (s.turnedAway p tag 0x0C#8 .badField)) ∧
      (good → run = .next ((s.modifyPort p (fun x =>
        { x with levels := ⟨safety, batch, dosing, record⟩, enables := enables })).answered p tag 0x0C#8 []))

/-! ### Clock and permits (01) -/

/-- The bay clock's advance (R2): one second, the day's turn after second 86,399, the day number staying at 65,535; the
one-second timer restarts, and nothing else changes. SET CLOCK (R3): taken from the terminal port only; refused for a second
above 86,399; else day and second take the values carried, the clock is set, the one-second timer restarts, and no recorded time
or other timer moves. The day is a 2-byte field. An expiry command of a sender's own acts whatever time its timer shows
(notes/assumptions/3.md). -/
def Obligations.BayClock : Prop :=
  ∀ s : State,
    (s.clockKept → .clockAdvance ∉ s.due →
      (s.clock.second < 86399 →
        exec .clockAdvance s = .next { s with clock := { s.clock with second := s.clock.second + 1, timer := 1000 } }) ∧
      (s.clock.second = 86399 → s.clock.day < 65535 → exec .clockAdvance s =
        .next { s with clock := { s.clock with second := 0, day := s.clock.day + 1, timer := 1000 } }) ∧
      (s.clock.second = 86399 → s.clock.day = 65535 →
        exec .clockAdvance s = .next { s with clock := { s.clock with second := 0, timer := 1000 } })) ∧
    ∀ (tag : Byte) (day second : Nat), day ≤ 65535 →
      (s.ready .console →
        exec (.setClock .console tag day second) s = .next (s.turnedAway .console tag 0x20#8 .notPermitted)) ∧
      (s.ready .terminal → 86399 < second →
        exec (.setClock .terminal tag day second) s = .next (s.turnedAway .terminal tag 0x20#8 .badField)) ∧
      (s.ready .terminal → second ≤ 86399 → exec (.setClock .terminal tag day second) s =
        .next (({ s with clock := ⟨day, second, true, 1000⟩ } : State).answered .terminal tag 0x20#8 []))

/-- WRITE PERMIT: a new number takes the lowest-numbered EMPTY entry, or is refused TABLE_FULL; a held number's contents are
replaced, entry, claim and last presentation kept, unless a claimed permit would change its carrier (R8, R9). BARRED written
over ACTIVE is a bar besides: a claim on a CLAIMED order is withdrawn and CLAIM_EXPIRED raised, a claim on another order stands
(R9, R10, R11; that the claiming tanker goes with a withdrawn claim is notes/assumptions/15.md). -/
def Obligations.WritePermit : Prop :=
  ∀ (tag : Byte) (num carrier : Nat) (classes : BitVec 8) (expiry : Nat) (st : PermitState) (s : State),
    s.ready .terminal → 1 ≤ num → num ≤ 99999999 → 1 ≤ carrier → carrier ≤ 65535 → expiry ≤ 65535 →
    let run := exec (.writePermit .terminal tag num carrier classes expiry st.code) s
    (∀ e, (∀ k r, s.permits.get k = some r → r.number ≠ num) → s.permits.get e = none →
      (∀ k < e, s.permits.get k ≠ none) →
      run = .next (({ s with
        permits := s.permits.set e (some ⟨num, carrier, classes, expiry, st, none, none⟩) } : State).answered .terminal tag
          0x21#8 [])) ∧
    ((∀ k r, s.permits.get k = some r → r.number ≠ num) → (∀ k, s.permits.get k ≠ none) →
      run = .next (s.turnedAway .terminal tag 0x21#8 .tableFull)) ∧
    ∀ e q, s.onlyPermit num e q →
      (q.claim ≠ none → carrier ≠ q.carrier → run = .next (s.turnedAway .terminal tag 0x21#8 .inUse)) ∧
      ((q.claim = none ∨ carrier = q.carrier) →
        ¬ (q.state = .active ∧ st = .barred ∧ ∃ slot o, q.claim = some slot ∧ s.order slot = some o ∧ o.state = .claimed) →
        run = .next (({ s with
          permits := s.permits.set e (some { q with
            carrier := carrier, classes := classes, expiry := expiry, state := st }) } : State).answered .terminal tag
              0x21#8 [])) ∧
      ∀ slot o, carrier = q.carrier → q.state = .active → st = .barred → q.claim = some slot → s.order slot = some o →
        o.state = .claimed → o.claimPermit = some num →
        run = .next ((({ s with
          permits := s.permits.set e (some { q with classes := classes, expiry := expiry, state := .barred, claim := none })
          orders := s.orders.set slot (some { o with
            state := .posted, claimPermit := none, claimTanker := none, claimTime := none, claimTimer := none }) } :
              State).raise .claimExpired (number slot)).answered .terminal tag 0x21#8 [])

/-- BAR PERMIT: a permit BARRED already, or without a claim on a CLAIMED order, changes in state at most; a claim on a
CLAIMED order is withdrawn: the permit's claim is none, the order is POSTED again with no claim and no claim timer, and
CLAIM_EXPIRED is raised for its slot (R10, R11; that the claiming tanker goes too is notes/assumptions/15.md). DELETE PERMIT:
refused for a number the table does not hold and for a claimed permit; else the entry is EMPTY and no order changes (R12). -/
def Obligations.BarAndDeletePermit : Prop :=
  ∀ (tag : Byte) (num : Nat) (s : State), s.ready .terminal →
    ((∀ k r, s.permits.get k = some r → r.number ≠ num) →
      exec (.barPermit .terminal tag num) s = .next (s.turnedAway .terminal tag 0x22#8 .noSuch) ∧
      exec (.deletePermit .terminal tag num) s = .next (s.turnedAway .terminal tag 0x23#8 .noSuch)) ∧
    ∀ e q, s.onlyPermit num e q →
      (q.state = .barred → exec (.barPermit .terminal tag num) s = .next (s.answered .terminal tag 0x22#8 [])) ∧
      (q.state = .active → (∀ slot o, q.claim = some slot → s.order slot = some o → o.state ≠ .claimed) →
        exec (.barPermit .terminal tag num) s =
          .next (({ s with permits := s.permits.set e (some { q with state := .barred }) } : State).answered .terminal tag
            0x22#8 [])) ∧
      (∀ slot o, q.state = .active → q.claim = some slot → s.order slot = some o → o.state = .claimed →
        o.claimPermit = some num →
        exec (.barPermit .terminal tag num) s =
          .next ((({ s with
            permits := s.permits.set e (some { q with state := .barred, claim := none })
            orders := s.orders.set slot (some { o with
              state := .posted, claimPermit := none, claimTanker := none, claimTime := none, claimTimer := none }) } :
                State).raise .claimExpired (number slot)).answered .terminal tag 0x22#8 [])) ∧
      (q.claim ≠ none → exec (.deletePermit .terminal tag num) s = .next (s.turnedAway .terminal tag 0x23#8 .inUse)) ∧
      (q.claim = none → exec (.deletePermit .terminal tag num) s =
        .next (({ s with permits := s.permits.set e none } : State).answered .terminal tag 0x23#8 []))

/-! ### Orders (02) -/

/-- POST ORDER: the order takes the lowest-numbered FREE slot, POSTED, with its lines WAITING and nothing claimed; a full
table and a number in use are refused (R24). -/
def Obligations.PostOrder : Prop :=
  ∀ (tag : Byte) (num permit carrier tanker : Nat) (specs : List LineSpec) (s : State), s.ready .terminal →
    ((∀ k, s.order k ≠ none) → exec (.postOrder .terminal tag num permit carrier tanker specs) s =
      .next (s.turnedAway .terminal tag 0x2C#8 .tableFull)) ∧
    ((∃ k, s.order k = none) → (∃ k o, s.order k = some o ∧ o.number = num) →
      exec (.postOrder .terminal tag num permit carrier tanker specs) s =
        .next (s.turnedAway .terminal tag 0x2C#8 .inUse)) ∧
    ∀ slot, s.order slot = none → (∀ k < slot, s.order k ≠ none) → (∀ k o, s.order k = some o → o.number ≠ num) →
      1 ≤ num → num ≤ 99999999 → permit ≤ 99999999 → 1 ≤ carrier → carrier ≤ 65535 → tanker ≤ 999999 →
      s.acceptable specs →
      ∃ lines, postedLines specs lines ∧ exec (.postOrder .terminal tag num permit carrier tanker specs) s =
        .next (({ s with
          orders := s.orders.set slot (some ⟨num, permit, carrier, tanker, lines, .posted, none, none, none, none, none,
            none⟩) } : State).answered .terminal tag 0x2C#8 (field 1 (number slot)))

/-- AMEND ORDER: a POSTED order keeps its slot, number and carrier, and its permit, tanker and lines are replaced; queued
starts that name it are dropped; an order in another state is refused IN_USE (R25). -/
def Obligations.AmendOrder : Prop :=
  ∀ (tag : Byte) (num permit tanker : Nat) (specs : List LineSpec) (s : State) (slot : Fin 24) (o : Order),
    s.ready .terminal → s.onlyOrder num slot o →
    (o.state ≠ .posted →
      exec (.amendOrder .terminal tag num permit tanker specs) s = .next (s.turnedAway .terminal tag 0x2D#8 .inUse)) ∧
    (o.state = .posted → 1 ≤ num → num ≤ 99999999 → permit ≤ 99999999 → tanker ≤ 999999 → s.acceptable specs →
      ∃ lines t, postedLines specs lines ∧
        exec (.amendOrder .terminal tag num permit tanker specs) s = .next (t.answered .terminal tag 0x2D#8 []) ∧
        t = { s with
          orders := s.orders.set slot (some { o with permit := permit, tanker := tanker, lines := lines })
          arms := t.arms, terminal := t.terminal, console := t.console } ∧
        s.startsDropped t num)

/-- PRESENT PERMIT: refused while the clock is unset, for a permit or an order that no table holds, and by the first of the
checks on the permit, the order and the journal that fails; taken, it claims: order and permit name each other, both hold the
bay time, the claim timer starts at 600 s, and JOURNAL_NEAR_FULL is raised where stored notes and reservations then come to 44
(R6, R26, R27, R166). -/
def Obligations.PresentPermit : Prop :=
  ∀ (tag : Byte) (tanker : Nat) (s : State), s.ready .console →
    (∀ num ord, s.clock.isSet = false → exec (.presentPermit .console tag num tanker ord) s =
      .next (s.turnedAway .console tag 0x40#8 .timeUnset)) ∧
    (∀ num ord, s.clock.isSet = true →
      ((∀ e q, s.permits.get e = some q → q.number ≠ num) ∨ ∀ k o, s.order k = some o → o.number ≠ ord) →
      exec (.presentPermit .console tag num tanker ord) s = .next (s.turnedAway .console tag 0x40#8 .noSuch)) ∧
    (∀ e q slot o c, s.clock.isSet = true → s.onlyPermit q.number e q → s.onlyOrder o.number slot o →
      refusedBy (s.claimChecked q o tanker) c →
      exec (.presentPermit .console tag q.number tanker o.number) s = .next (s.turnedAway .console tag 0x40#8 c)) ∧
    ∀ e q slot o, s.clock.isSet = true → s.onlyPermit q.number e q → s.onlyOrder o.number slot o → q.state = .active →
      s.clock.day ≤ q.expiry → o.state = .posted → q.claim = none →
      (o.permit ≠ 0 ∧ o.permit = q.number ∨ o.permit = 0 ∧ o.carrier = q.carrier) →
      (o.tanker = 0 ∨ o.tanker = tanker) → 1 ≤ tanker → tanker ≤ 999999 →
      (∀ l ∈ o.lines, ∃ x, s.products.get l.product = some x ∧ q.classes.getLsbD (x.cls - 1) = true) →
      let run := exec (.presentPermit .console tag q.number tanker o.number) s
      let t := { s with
        orders := s.orders.set slot (some { o with
          state := .claimed, claimPermit := some q.number, claimTanker := some tanker, claimTime := some s.now,
          claimTimer := some 600000 })
        permits := s.permits.set e (some { q with claim := some slot, lastPresented := some s.now }) }
      (48 ≤ s.storedCount + s.reservations → run = .next (s.turnedAway .console tag 0x40#8 .journalFull)) ∧
      (s.storedCount + s.reservations ≤ 42 → run = .next (t.answered .console tag 0x40#8 (field 1 (number slot)))) ∧
      (43 ≤ s.storedCount + s.reservations → s.storedCount + s.reservations ≤ 47 →
        run = .next ((t.raise .journalNearFull 0).answered .console tag 0x40#8 (field 1 (number slot))))

/-- RELEASE CLAIM and the claim timeout: the order is POSTED again with no claim, and the permit's claim is none, its last
presentation kept; the timeout raises CLAIM_EXPIRED and the request raises nothing (R29, R30). An expiry command acts whatever
time its timer shows (notes/assumptions/3.md). -/
def Obligations.ClaimsEnd : Prop :=
  ∀ (s : State) (slot : Fin 24) (o : Order) (e : Fin 200) (q : Permit), s.order slot = some o → o.state = .claimed →
    o.claimPermit = some q.number → s.onlyPermit q.number e q →
    let t := { s with
      orders := s.orders.set slot (some { o with
        state := .posted, claimPermit := none, claimTanker := none, claimTime := none, claimTimer := none })
      permits := s.permits.set e (some { q with claim := none }) }
    (∀ tag, s.ready .console → s.onlyOrder o.number slot o →
      exec (.releaseClaim .console tag o.number) s = .next (t.answered .console tag 0x41#8 [])) ∧
    ∀ ms, .claimTimeout slot ∉ s.due → o.claimTimer = some ms →
      exec (.claimTimeout slot) s = .next (t.raise .claimExpired (number slot))

/-- A LOADING order with no ACTIVE line closes, with its note, at FINISH ORDER (FINISHED), at its idle timeout (TIMED_OUT) and
at CANCEL ORDER (CANCELLED): `State.closedAs` says what the close leaves (R33, R34, R35, R37, R162 to R165). An expiry command
acts whatever time its timer shows (notes/assumptions/3.md). That the note's number passes over that of the note it replaces too
is notes/assumptions/20.md. -/
def Obligations.OrdersCloseWithTheirNote : Prop :=
  ∀ (s : State) (slot : Fin 24) (o : Order) (k : Fin 48), s.order slot = some o → o.state = .loading →
    (∀ l ∈ o.lines, l.isActive = false) → o.claimPermit ≠ none → o.claimTanker ≠ none → o.claimTime ≠ none →
    s.journal.nextSlot k →
    (∀ tag, s.ready .console → s.onlyOrder o.number slot o →
      ∃ t, exec (.finishOrder .console tag o.number) s = .next (t.answered .console tag 0x46#8 []) ∧
        s.closedAs t slot o k .finished) ∧
    (∀ tag, s.ready .terminal → s.onlyOrder o.number slot o →
      ∃ t, exec (.cancelOrder .terminal tag o.number) s = .next (t.answered .terminal tag 0x2E#8 []) ∧
        s.closedAs t slot o k .cancelled) ∧
    ∀ ms, .idleOrderTimeout slot ∉ s.due → o.idleTimer = some ms →
      ∃ t, exec (.idleOrderTimeout slot) s = .next t ∧ s.closedAs t slot o k .timedOut

/-- CANCEL ORDER: refused in CLOSING; in POSTED and CLAIMED the slot is FREE, no note is made, and a claim ends (R35); in
LOADING with ACTIVE lines the order waits in CLOSING: WAITING lines are NOT_LOADED, running lines end ABORTED with CANCEL
and their arms close for the line end, the dosing unit deciding on a final shot on each (R89, R140), and ending lines keep their
results (R36); the same is said out for arms whose lines take no additive. That the judgements follow every dosing event is
notes/assumptions/21.md. -/
def Obligations.CancelOrder : Prop :=
  ∀ (tag : Byte) (s : State) (slot : Fin 24) (o : Order), s.ready .terminal → s.onlyOrder o.number slot o →
    (o.state = .closing →
      exec (.cancelOrder .terminal tag o.number) s = .next (s.turnedAway .terminal tag 0x2E#8 .wrongState)) ∧
    (o.state = .posted → ∃ t : State,
      exec (.cancelOrder .terminal tag o.number) s = .next (t.answered .terminal tag 0x2E#8 []) ∧
      t = { s with
        orders := s.orders.set slot none, arms := t.arms, terminal := t.terminal, console := t.console } ∧
      s.startsDropped t o.number) ∧
    (∀ e q, o.state = .claimed → o.claimPermit = some q.number → s.onlyPermit q.number e q → ∃ t : State,
      exec (.cancelOrder .terminal tag o.number) s = .next (t.answered .terminal tag 0x2E#8 []) ∧
      t = { s with
        orders := s.orders.set slot none, permits := s.permits.set e (some { q with claim := none }), arms := t.arms,
        terminal := t.terminal, console := t.console } ∧
      s.startsDropped t o.number) ∧
    (o.state = .loading → (∃ l ∈ o.lines, l.isActive = true) → s.armsStand → (∀ a, (s.arm a).doses) → ∃ m t : State,
      State.cancelsAll slot (List.finRange 6) s m ∧
      exec (.cancelOrder .terminal tag o.number) s = .next (t.answered .terminal tag 0x2E#8 []) ∧
      t = { m with
        orders := m.orders.modify slot (Option.map (fun x => { x with
          state := .closing
          lines := x.lines.map (fun (l : Line) =>
            if l.isWaiting = true then { l with state := .ended, result := some .notLoaded } else l) }))
        arms := t.arms, terminal := t.terminal, console := t.console } ∧
      m.startsDropped t o.number) ∧
    (o.state = .loading → (∃ l ∈ o.lines, l.isActive = true) → s.linesKept → s.bay.saved = false →
      (∀ a ref, (s.arm a).active = some ref → ref.slot = slot → (s.arm a).dosing = none) → ∃ t : State,
      exec (.cancelOrder .terminal tag o.number) s = .next (t.answered .terminal tag 0x2E#8 []) ∧
      t = { s with
        orders := s.orders.set slot (some { o with
          state := .closing
          lines := o.lines.map (fun (l : Line) =>
            if l.isWaiting = true then { l with state := .ended, result := some .notLoaded }
            else if l.isRunning = true then
              { l with result := some .aborted, flags := { l.flags with cancel := true } }
            else l) })
        arms := t.arms, bay := t.bay, terminal := t.terminal, console := t.console } ∧
      (if ∃ l ∈ o.lines, l.isRunning = true then s.bayFollows t else t.bay = s.bay) ∧
      (∀ a, t.arm a =
        let x := if ∃ ref, (s.arm a).active = some ref ∧ ref.slot = slot ∧ s.running a = true
          then (s.arm a).closedForLineEnd else s.arm a
        if x.queued.map QueuedStart.order = some o.number then { x with queued := none } else x) ∧
      s.raisesOnly t (s.dropsStart o.number) ∧
      ∀ a q, (s.arm a).queued = some q → q.order = o.number → t.announced .startDropped (number a))

/-- WRITE PRODUCT, WRITE ARM SETUP and WRITE RECIPE write one entry of their tables; a product slot in use takes no new class
or coefficients, a recipe slot of an ACTIVE line takes no new content, and an arm setup, whose injector positions are kept, is
written only while its arm is IDLE (R18, R20, R122). -/
def Obligations.TableWrites : Prop :=
  ∀ (tag : Byte) (s : State), s.ready .terminal →
    (∀ (k : Fin 16) nameLength name cls coefA coefB, nameLength ≤ 16 →
      (∀ b ∈ name.take nameLength, 0x20 ≤ b.toNat ∧ b.toNat ≤ 0x7E) → 1 ≤ cls → cls ≤ 8 → coefA ≤ 1500 → coefB ≤ 9999 →
      let run := exec (.writeProduct .terminal tag (number k) nameLength name cls coefA coefB) s
      let used := (∃ a, (s.arm a).setup.product = some k) ∨
        ∃ slot o l, s.order slot = some o ∧ l ∈ o.lines ∧ l.isActive = true ∧ l.product = k
      let same := ∀ q, s.products.get k = some q → q.cls = cls ∧ q.coefA = coefA ∧ q.coefB = coefB
      (used → ¬ same → run = .next (s.turnedAway .terminal tag 0x24#8 .inUse)) ∧
      ((¬ used ∨ same) → run = .next (({ s with
        products := s.products.set k (some ⟨name.take nameLength, cls, coefA, coefB⟩) } : State).answered .terminal tag
          0x24#8 []))) ∧
    (∀ (a : Fin 6) (product : Option (Fin 16)) low re top limit, 100 ≤ low → low ≤ 1000 → 50 ≤ re → re ≤ 500 →
      50 ≤ top → top ≤ 2000 → 10 ≤ limit → limit ≤ 200 → (∀ k, product = some k → s.products.get k ≠ none) →
      let run := exec (.writeArmSetup .terminal tag (number a) (numberOrZero product) low re top limit) s
      ((s.arm a).state ≠ .idle → run = .next (s.turnedAway .terminal tag 0x26#8 .armBusy)) ∧
      ((s.arm a).state = .idle → run = .next ((s.modifyArm a (fun x =>
        { x with setup := ⟨product, low, re, top, limit, x.setup.positions⟩ })).answered .terminal tag 0x26#8 []))) ∧
    ∀ (k : Fin 16) additive rate tolerance, 1 ≤ additive → additive ≤ 255 → 10 ≤ rate → rate ≤ 2500 → 1 ≤ tolerance →
      tolerance ≤ 25 →
      let run := exec (.writeRecipe .terminal tag (number k) additive rate tolerance) s
      let used := ∃ slot o l, s.order slot = some o ∧ l ∈ o.lines ∧ l.isActive = true ∧ l.recipe = some k
      let same := ∀ r, s.recipes.get k = some r → r = ⟨additive, rate, tolerance⟩
      (used → ¬ same → run = .next (s.turnedAway .terminal tag 0x25#8 .inUse)) ∧
      ((¬ used ∨ same) → run = .next (({ s with
        recipes := s.recipes.set k (some ⟨additive, rate, tolerance⟩) } : State).answered .terminal tag 0x25#8 []))

/-! ### Reports -/

/-- The reads answer OK with the content of their rule and change nothing: `State.bayReport` and its neighbours in Safety.lean
spell each report's items in the rule's order (R13, R39, R58, R101, R119, R144, R158, R169, R170, R191, R192); READ AND CLEAR
STATISTICS gives the report of READ STATISTICS and then sets the meters' statistics to 0 (R59). A report of one form has one
length, and a field that fits its width spells its number. The widths that 11 leaves open rest on notes/assumptions/13.md, the
trial factors' places on 28.md, and the additive of a line not started on 24.md. -/
def Obligations.ReportsChangeNothing : Prop :=
  (∀ width n : Nat, (field width n).length = width ∧ (n < 256 ^ width → readBigEndian (field width n) = n)) ∧
  ∀ (p : PortId) (tag : Byte) (s : State), s.ready p →
    exec (.readBay p tag) s = .next (s.answered p tag 0x01#8 s.bayReport) ∧ s.bayReport.length = 55 ∧
    (∀ num e q, s.onlyPermit num e q → (s.permitReport e q).length = 25 ∧
      exec (.readPermit p tag num) s = .next (s.answered p tag 0x02#8 (s.permitReport e q))) ∧
    (∀ o slot raw, o.number ≠ 0 → s.onlyOrder o.number slot o → (o.report slot).length = 37 ∧
      exec (.readOrder p tag o.number raw 0) s = .next (s.answered p tag 0x03#8 (o.report slot))) ∧
    (∀ o slot, s.order slot = some o →
      exec (.readOrder p tag 0 (number slot) 0) s = .next (s.answered p tag 0x03#8 (o.report slot))) ∧
    (∀ slot o k l average, s.order slot = some o → o.line? k = some l → k ≤ 9 → l.record.averages average →
      let totals : Nat × Nat := match l.record.additive, l.arm.bind (fun a => (s.arm a).dosing) with
        | some x, _ => (x.dosed, x.required)
        | none, some r => ((r.fixed l.record.gv).dosed, (r.fixed l.record.gv).required)
        | none, none => (0, 0)
      let c := l.report average totals.1 totals.2
      c.length = 33 ∧ exec (.readOrder p tag 0 (number slot) k) s = .next (s.answered p tag 0x03#8 c) ∧
        (o.number ≠ 0 → s.onlyOrder o.number slot o → ∀ raw,
          exec (.readOrder p tag o.number raw k) s = .next (s.answered p tag 0x03#8 c))) ∧
    (∀ a : Fin 6, (s.armReport a).length = 103 ∧
      exec (.readArm p tag (number a)) s = .next (s.answered p tag 0x04#8 (s.armReport a))) ∧
    (∀ (i : Fin 8) place primary engaging,
      (∀ a q, place = some (a, q) ↔ (s.arm a).setup.positions.get q = some i) →
      (∀ j, primary = some j ↔ (s.injector j).standby = some i) → (place = none ∨ primary = none) →
      (∀ a, engaging = some a ↔ (s.arm a).engaged = some i) →
      (s.injectorReport i place primary engaging).length = 68 ∧ exec (.readInjector p tag (number i)) s =
        .next (s.answered p tag 0x05#8 (s.injectorReport i place primary engaging))) ∧
    (∀ k n, (s.journal.slots.get k).note? = some n →
      (∀ j m, (s.journal.slots.get j).note? = some m → m.sequenceNumber = n.sequenceNumber → j = k) →
      1 ≤ n.sequenceNumber → n.sequenceNumber ≤ 999999 →
      (let c := n.report k (s.journal.slots.get k).isCollected
       c.length = 36 ∧ exec (.readNote p tag n.sequenceNumber 0) s = .next (s.answered p tag 0x06#8 c)) ∧
      ∀ part x readings, part ≤ 9 → 1 ≤ part → n.lines[part - 1]? = some x →
        (∀ b e c, readings = some (b, e, c) ↔ x.atStart = some b ∧ x.atEnd = some e ∧ x.counter = some c) →
        let c := x.report n.sequenceNumber part readings
        c.length = 61 ∧ exec (.readNote p tag n.sequenceNumber part) s = .next (s.answered p tag 0x06#8 c)) ∧
    (let numbers := s.journal.composition.filterMap (fun k => match s.journal.slots.get k with
        | .stored n => some n.sequenceNumber
        | .collected _ => none
        | .empty => none)
     exec (.listNotes p tag) s = .next (s.answered p tag 0x07#8 (field 1 numbers.length ++ numbers.flatMap (field 4)
      ++ field 1 (s.journal.slots.count JournalSlot.isStored) ++ field 1 (s.journal.slots.count JournalSlot.isCollected)
      ++ field 1 (s.journal.slots.count JournalSlot.isEmpty)
      ++ field 1 (s.orders.entries.countP (fun e => e.any (fun o => o.state != .posted)))
      ++ field 4 s.journal.lastSequence))) ∧
    exec (.readTotals p tag 0) s = .next (s.answered p tag 0x08#8
      (field 2 s.store.counter ++ field 1 s.store.sealLevel.code ++ field 1 (if s.bay.switch = .amend then 1 else 2))) ∧
    (∀ a : Fin 6, (s.meterStore a).report.length = 24 + 6 * (s.meterStore a).curve.length ∧
      exec (.readTotals p tag (number a)) s = .next (s.answered p tag 0x08#8 (s.meterStore a).report)) ∧
    (∀ i : Fin 8, (s.injectorStore i).report.length = 16 ∧
      exec (.readTotals p tag (6 + number i)) s = .next (s.answered p tag 0x08#8 (s.injectorStore i).report)) ∧
    (∀ a : Fin 6, let c := field 1 1 ++ (s.arm a).decoder.statisticsReport
      c.length = 24 ∧ exec (.readStatistics p tag (number a)) s = .next (s.answered p tag 0x09#8 c) ∧
      (p = .terminal → exec (.readAndClearStatistics p tag (number a)) s = .next ((s.modifyArm a (fun x =>
        { x with decoder := { x.decoder with stats := ⟨0, 0, 0, 0⟩ } })).answered p tag 0x36#8 c))) ∧
    let c := field 1 6 ++ s.arms.entries.flatMap (fun x => x.decoder.statisticsReport)
    c.length = 139 ∧ exec (.readStatistics p tag 0) s = .next (s.answered p tag 0x09#8 c) ∧
      (p = .terminal → exec (.readAndClearStatistics p tag 0) s = .next (({ s with
        arms := s.arms.map (fun x => { x with decoder := { x.decoder with stats := ⟨0, 0, 0, 0⟩ } }) } : State).answered p
          tag 0x36#8 c))

/-! ### Meter pulses (03) -/

/-- An edge in expected order (R45): an A edge sets the expected edge to B and the A miss count to 0 and counts no pulse; a B
edge sets the expected edge to A and the B miss count to 0 and counts one good pulse, in the line count in LINE mode only. -/
def Obligations.EdgesInOrder : Prop :=
  ∀ (a : Fin 6) (s : State),
    let d := (s.arm a).decoder
    d.statusA = .normal → d.statusB = .normal → d.sampleCount < 4294967295 → d.lineCounted < 4294967295 →
    (d.expected = .a → exec (.meterEdge a .a) s =
      .next (s.modifyArm a (fun x => { x with decoder := { d with expected := .b, missA := 0 } }))) ∧
    (d.expected = .b → exec (.meterEdge a .b) s =
      .next (s.modifyArm a (fun x => { x with decoder := { d with
        expected := .a, missB := 0, sampleCount := d.sampleCount + 1,
        lineCounted := if d.mode = .line then d.lineCounted + 1 else d.lineCounted } })))

/-- An edge of a FAILED channel changes nothing; an edge of the live channel counts one single-channel pulse (R48); and an
edge out of order in STRAY mode counts a corrected pulse and its statistic, and nothing else (R46, R57). -/
def Obligations.EdgesOutOfOrder : Prop :=
  ∀ (a : Fin 6) (c : Channel) (s : State),
    let d := (s.arm a).decoder
    d.sampleCount < 4294967295 → d.lineCounted < 4294967295 →
    (d.status c = .failed → exec (.meterEdge a c) s = .next s) ∧
    (d.status c = .normal → d.status (otherChannel c) = .failed → exec (.meterEdge a c) s =
      .next (s.modifyArm a (fun x => { x with decoder := { d with
        sampleCount := d.sampleCount + 1
        lineCounted := if d.mode = .line then d.lineCounted + 1 else d.lineCounted } }))) ∧
    (d.statusA = .normal → d.statusB = .normal → d.mode = .stray → c ≠ d.expected → exec (.meterEdge a c) s =
      .next (s.modifyArm a (fun x => { x with decoder := { d with
        sampleCount := d.sampleCount + 1
        stats := { d.stats with
          missingA := if c = .b then min 65535 (d.stats.missingA + 1) else d.stats.missingA
          missingB := if c = .a then min 65535 (d.stats.missingB + 1) else d.stats.missingB } } })))

/-- A missing event in LINE mode counts a corrected pulse, its statistic and the channel's miss count (R46). Beyond the
allowance 5 + floor(C ÷ 1,000) PULSE is raised to the arm and the pulse-hold statistic rises (R49); a miss count brought to 4
fails the channel, flags the line SINGLE_CHANNEL, and the channel-failure statistic rises (R47). One event may do both. -/
def Obligations.MissingEventInLineMode : Prop :=
  ∀ (a : Fin 6) (s : State),
    let d := (s.arm a).decoder
    let d1 := { d with
      sampleCount := d.sampleCount + 1
      lineCounted := d.lineCounted + 1
      lineCorrected := d.lineCorrected + 1
      missA := if d.expected = .a then d.missA + 1 else d.missA
      missB := if d.expected = .b then d.missB + 1 else d.missB
      stats := { d.stats with
        missingA := if d.expected = .a then min 65535 (d.stats.missingA + 1) else d.stats.missingA
        missingB := if d.expected = .b then min 65535 (d.stats.missingB + 1) else d.stats.missingB } }
    let exceeds := 5 + (d.lineCounted + 1) / 1000 < d.lineCorrected + 1 ∧ (s.arm a).holds.pulse = false
    let fails := d.expected = .a ∧ 3 ≤ d.missA ∨ d.expected = .b ∧ 3 ≤ d.missB
    d.mode = .line → d.statusA = .normal → d.statusB = .normal → d.sampleCount < 4294967295 →
    d.lineCounted < 4294967295 → d.lineCorrected < 4294967295 →
    let run := exec (.meterEdge a (otherChannel d.expected)) s
    (¬ exceeds → ¬ fails → run = .next (s.modifyArm a (fun x => { x with decoder := d1 }))) ∧
    (∀ ref, ¬ exceeds → fails → (s.arm a).active = some ref →
      run = .next ((s.modifyArm a (fun x => { x with decoder := { d1 with
        statusA := if d.expected = .a then .failed else .normal
        statusB := if d.expected = .b then .failed else .normal
        stats := { d1.stats with channelFailures := min 65535 (d.stats.channelFailures + 1) } } })).modifyLine ref
          (fun l => { l with flags := { l.flags with singleChannel := true } }))) ∧
    (exceeds → ¬ fails → ∃ t, run = .next t ∧
      (s.modifyArm a (fun x => { x with decoder := { d1 with
        stats := { d1.stats with pulseHolds := min 65535 (d.stats.pulseHolds + 1) } } })).heldBy t a .pulse) ∧
    ∀ ref, exceeds → fails → (s.arm a).active = some ref → ∃ t : State,
      run = .next (t.modifyLine ref (fun l => { l with flags := { l.flags with singleChannel := true } })) ∧
      (s.modifyArm a (fun x => { x with decoder := { d1 with
        statusA := if d.expected = .a then .failed else .normal
        statusB := if d.expected = .b then .failed else .normal
        stats := { d1.stats with
          channelFailures := min 65535 (d.stats.channelFailures + 1)
          pulseHolds := min 65535 (d.stats.pulseHolds + 1) } } })).heldBy t a .pulse

/-! ### Volumes (03, 04) -/

/-- The stages of a sample carry every remainder: indicated volume (R53; an uncalibrated meter gives none), flow rate (R54),
gross volume by the meter factor (R71), standard volume by the VCF (R74). -/
def Obligations.SampleStages : Prop :=
  ∀ (k : Nat) (curve : List CurvePoint) (trial : Option Nat) (v : Nat) (c : Carries) (n : Nat),
    let x := sampleVolumes k curve trial v c n
    (0 < k → n * 1000000 + c.indicated = x.indicated * k + x.carries.indicated ∧ x.carries.indicated < k) ∧
    (k = 0 → x.indicated = 0 ∧ x.carries.indicated = 0) ∧
    x.flow = x.indicated * 3 / 10 ∧
    x.indicated * trial.getD (curveFactor curve x.flow) + c.gross = x.gross * 100000 + x.carries.gross ∧
    x.carries.gross < 100000 ∧
    x.gross * v + c.standard = x.standard * 100000 + x.carries.standard ∧ x.carries.standard < 100000

/-- The VCF (R72, R73): the quotient of 10^13 − A × ΔTc × 100,000 + B × ΔTc² by 10^8, rounded to nearest, halves up, and
clamped to 90,000 and 110,000; 100,000 at the reference temperature and where no product is named; and the two computed
cases of R73. -/
def Obligations.VolumeCorrection : Prop :=
  (∀ (coefA coefB : Nat) (temp : Int),
    let num := 10000000000000 - coefA * (temp - 1500) * 100000 + coefB * ((temp - 1500) * (temp - 1500))
    ∃ r : Int, 200000000 * r ≤ 2 * num + 100000000 ∧ 2 * num + 100000000 < 200000000 * (r + 1) ∧
      (r < 90000 → vcf coefA coefB temp = 90000) ∧ (110000 < r → vcf coefA coefB temp = 110000) ∧
      (90000 ≤ r → r ≤ 110000 → (vcf coefA coefB temp : Int) = r)) ∧
  (∀ coefA coefB, vcf coefA coefB 1500 = 100000) ∧ (∀ temp, productVcf none temp = 100000) ∧
  rawVcf 1500 9999 (-4500) = 112600 ∧ vcf 1500 9999 (-4500) = 110000 ∧ vcf 1500 9999 6500 = 95000

/-- The meter factor (R69, R70): 100,000 without a point; the first point's at or below its flow, the last point's at or above
its flow; between two points of a curve of rising flows, the exact linear value rounded to nearest, halves up. -/
def Obligations.MeterFactorCurve : Prop :=
  (∀ q, curveFactor [] q = 100000) ∧
  ∀ (curve : List CurvePoint) (q : Nat), curve.Pairwise (fun x y => x.flow < y.flow) →
    (∀ x, curve.head? = some x → q ≤ x.flow → curveFactor curve q = x.factor) ∧
    (∀ x, curve.getLast? = some x → x.flow ≤ q → curveFactor curve q = x.factor) ∧
    ∀ (k : Nat) (x y : CurvePoint), curve[k]? = some x → curve[k + 1]? = some y → x.flow ≤ q → q ≤ y.flow →
      let num : Int := x.factor * (y.flow - x.flow) + (q - x.flow) * (y.factor - x.factor)
      let den : Int := y.flow - x.flow
      2 * den * curveFactor curve q ≤ 2 * num + den ∧ 2 * num + den < 2 * den * (curveFactor curve q + 1)

/-! ### Temperature (04) -/

/-- The gate: reference and probe edges count, the 40,000th reference edge completes the gate, and a completed gate (R62, R64)
and a timed-out one (R63) judge all six probes: `State.gateEnded` says how they and their arms move (R65 to R67). That
GATE_COMPLETION completes the gate whatever the count is notes/assumptions/9.md, and that GATE_TIMEOUT ends it whatever the
timer shows is notes/assumptions/3.md. -/
def Obligations.GatesJudgeTheProbes : Prop :=
  ∀ s : State,
    (s.gate.referenceCount < 39999 → exec .referenceEdge s =
      .next { s with gate := { s.gate with referenceCount := s.gate.referenceCount + 1 } }) ∧
    (s.gate.referenceCount = 39999 → exec .referenceEdge s = exec .gateCompletion s) ∧
    (∀ a, exec (.probeEdge a) s = .next { s with probes := s.probes.modify a (fun p =>
      { p with count := min 4294967295 (p.count + 1) }) }) ∧
    (∃ t temp, exec .gateCompletion s = .next t ∧
      (∀ a, (s.probes.get a).measures (s.meterStore a).offset (temp a)) ∧ s.gateEnded t temp) ∧
    (.gateTimeout ∉ s.due → ∃ t, exec .gateTimeout s = .next t ∧ s.gateEnded t (fun _ => none))

/-! ### Samples (03, 05, 07) -/

/-- A stray sample: the pulses are taken by the stray carries and the curve's factor, the totalizers advance, the volume joins
the stray accumulator, and STRAY_FLOW is raised where that crosses a multiple of 5,000 mL (R51, R52, R55, R91, R98). -/
def Obligations.StraySamples : Prop :=
  ∀ (a : Fin 6) (s : State), (s.arm a).active = none → .meteringSample a ∉ s.due → (s.arm a).stageGross ≤ 4294967295 →
    let v := s.nextSample a none (s.arm a).strayCarries
    let sum := min 4294967295 ((s.arm a).stray + v.gross)
    let t := { s with
      arms := s.arms.modify a (fun x => { x.counted v 0 with strayCarries := v.carries, stray := sum })
      store := s.storeAfter a v }
    exec (.meteringSample a) s =
      .next (if (s.arm a).stray / 5000 < sum / 5000 then t.raise .strayFlow (number a) else t)

/-- A line sample of an arm that carries a line, flowing, CLOSING or SUSPENDED: the volumes join the line and the totalizers, the
line's dosing is served, and the counts take the sample (R55, R75, R91, R96, R132). In any of these states a running line that it
finds at its preset is ending COMPLETE, and the arm closes for the line end, the dosing unit being told (R86, R89, R140); else a
flowing arm is staged (R85, R87), or counted where ADDITIVE has closed it: `State.lineSampled`. A sample that judges no leak and
completes no close does nothing more: one without pulses, or before the 50th since the close command, or that decides a SUSPENDED
line; and one with pulses, or that makes fewer than ten still in a row (R91, R96; the others are LeaksLockTheArm and
ClosesComplete). That the judgements follow every dosing event is notes/assumptions/21.md, and that a sample's dosing goes before
its counts 22.md. -/
def Obligations.LineSamples : Prop :=
  ∀ (a : Fin 6) (s : State) (ref : LineRef) (l : Line), (s.arm a).active = some ref → s.lineAt ref = some l →
    (s.arm a).state ≠ .idle → (s.arm a).state ≠ .locked → (s.arm a).doses → .meteringSample a ∉ s.due →
    let v := s.nextSample a (s.arm a).boundTrial (s.arm a).lineCarries
    let pulses := (s.arm a).decoder.sampleCount
    (s.arm a).stageGross + v.gross ≤ 4294967295 →
    (pulses = 0 ∨ (s.arm a).closeCount < 49 ∨ (s.arm a).state.flowing = true ∨
      (s.arm a).state = .suspended ∧ s.decides a l) →
    (pulses ≠ 0 ∨ (s.arm a).zeroRun < 9 ∨ (s.arm a).state ≠ .closing) →
    ∃ t, exec (.meteringSample a) s = .next t ∧ s.lineSampled t a ref l

/-- A line sample of a flowing arm whose running line takes additive: its gross volume accrues. With nothing owed, short of the
interval nothing is owed, and past it one shot is owed, which the idle engaged injector issues, its verify window starting at 3 s
(R131, R132, R135). While a shot is in flight, the second shot owed sets the reduced-flow flag and raises FLOW_REDUCED (R133);
and with three owed, a further interval accrued raises ADDITIVE, which closes the arm for a hold, and counts an overspeed
(R134). That the judgements follow every dosing event is notes/assumptions/21.md, and that such an arm is counted in the same
sample 22.md. -/
def Obligations.LineSamplesOweShots : Prop :=
  ∀ (a : Fin 6) (s : State) (ref : LineRef) (l : Line) (r : DosingRecord) (i : Fin 8), (s.arm a).active = some ref →
    s.lineAt ref = some l → (s.arm a).state.flowing = true → (s.arm a).dosing = some r → (s.arm a).engaged = some i →
    r.phase = .accruing → (s.arm a).holds.additive = false → .meteringSample a ∉ s.due →
    let v := s.nextSample a (s.arm a).boundTrial (s.arm a).lineCarries
    let l1 := l.sampled v (s.probes.get a)
    let pulses := (s.arm a).decoder.sampleCount
    let remaining := l.preset * 1000 - l1.delivered
    let sum := r.accumulator + v.gross
    (s.arm a).stageGross + v.gross ≤ 4294967295 → l1.delivered < l.preset * 1000 →
    (r.owed = 0 → r.shot = none → (s.injector i).window = none → sum < 2 * r.interval →
      let fires := r.interval ≤ sum
      let r1 := { r with
        accumulator := if fires then sum - r.interval else sum
        shot := if fires then some ⟨0, false⟩ else none }
      exec (.meteringSample a) s = .next (({ s with
        arms := s.arms.modify a (fun x =>
          { x.counted v v.gross with lineCarries := v.carries, dosing := some r1, reducedFlow := false }.stages remaining
            pulses)
        injectors := if fires then s.injectors.modify i (fun x => { x with window := some 3000 }) else s.injectors
        store := s.storeAfter a v } : State).modifyLine ref (fun _ => l1))) ∧
    (r.owed = 1 → (s.injector i).window ≠ none → l.isRunning = true → (s.arm a).reducedFlow = false → r.interval ≤ sum →
      sum < 2 * r.interval →
      exec (.meteringSample a) s = .next ((({ s with
        arms := s.arms.modify a (fun x =>
          { x.counted v v.gross with
            lineCarries := v.carries, dosing := some { r with owed := 2, accumulator := sum - r.interval }
            reducedFlow := true }.stages remaining pulses)
        store := s.storeAfter a v } : State).modifyLine ref (fun _ => l1)).raise .flowReduced (number a))) ∧
    (r.owed = 3 → (s.injector i).window ≠ none → (s.arm a).reducedFlow = true → r.interval ≤ sum →
      ∃ t, exec (.meteringSample a) s = .next t ∧
        t = { s.modifyLine ref (fun _ => l1) with
          arms := s.arms.modify a (fun x =>
            let y := { x.withCause .additive with dosing := some { r with accumulator := sum } }
            { (y.metered v).counts pulses v.gross with lineCarries := v.carries })
          injectors := s.injectors.modify i (fun x =>
            { x with stats := { x.stats with overspeed := min 65535 (x.stats.overspeed + 1) } })
          store := s.storeAfter a v, bay := t.bay } ∧
        (t.arm a).state = .closing ∧ (t.arm a).reason = some .hold ∧ s.bayFollows t)

/-! ### Arms (05) -/

/-- START LINE. Refused for an arm or line number out of range, for an order or line that the table does not hold, and by the first
of checks 3 to 12 that fails (R6, R11, R81: `State.startChecked`). Else, on an IDLE arm the boundary sample is taken and the line
starts (R52, R81, R82; with its dosing record where it names a recipe, R130); on an arm closing for a line end the start is queued
and the reply is QUEUED (R83). -/
def Obligations.StartLine : Prop :=
  ∀ (tag : Byte) (s : State), s.ready .console →
    (∀ arm num k, (arm = 0 ∨ 6 < arm ∨ k = 0 ∨ 9 < k) →
      exec (.startLine .console tag arm num k) s = .next (s.turnedAway .console tag 0x42#8 .badField)) ∧
    ∀ a : Fin 6,
    (∀ num k, 1 ≤ k → k ≤ 9 →
      ((∀ slot o, s.order slot = some o → o.number ≠ num) ∨ ∃ slot o, s.onlyOrder num slot o ∧ o.line? k = none) →
      exec (.startLine .console tag (number a) num k) s = .next (s.turnedAway .console tag 0x42#8 .noSuch)) ∧
    ∀ (slot : Fin 24) (o : Order) (k : Nat) (l : Line),
    let run := exec (.startLine .console tag (number a) o.number k) s
    (∀ c, s.onlyOrder o.number slot o → o.line? k = some l → k ≤ 9 → s.permitsDiffer → refusedBy (s.startChecked a o l) c →
      run = .next (s.turnedAway .console tag 0x42#8 c)) ∧
    -- the boundary sample is a stray sample of the arm, and no expiry that waits
    (∀ b, s.startable a slot o k l → (s.arm a).state = .idle → (s.arm a).queued = none → (s.arm a).active = none →
      (s.arm a).dosing = none → exec (.meteringSample a) { s with due := [] } = .next b →
      let b1 := { b with due := s.due }
      (l.recipe = none → run = .next ((b1.lineStarted a slot o k l none).answered .console tag 0x42#8 [])) ∧
      ∀ m x p i, l.recipe = some m → s.recipes.get m = some x → s.servedBy a x.additive p i →
        run = .next ((b1.lineStarted a slot o k l (some (DosingRecord.opened x p i (s.injectorStore i)))).answered .console
          tag 0x42#8 [])) ∧
    (s.startable a slot o k l → (s.arm a).state = .closing → (s.arm a).reason = some .lineEnd → (s.arm a).queued = none →
      (∀ m, l.recipe = some m → ∃ x p i, s.recipes.get m = some x ∧ s.servedBy a x.additive p i) →
      run = .next (((s.modifyArm a (fun x => { x with queued := some ⟨o.number, k⟩ })).heard .console).send .console tag
        0x42#8 [0x01#8]))

/-- END LINE and the suspend timeout. In a flowing state the line is ending SHORT and the arm closes for the line end, the dosing
unit deciding on a final shot (R88, R89, R140); in SUSPENDED the line is ENDED at once, SHORT by the request and ABORTED with
SUSPEND_TIMEOUT by the timeout, the arm goes IDLE and LINE_ENDED is raised: its shots are abandoned (R141), its dose is checked
(R142), and an order whose last line this was closes with its note (R32, R37, R88, R92, R95, R162 to R165; `State.lineEndedAs`
says how); in another state END LINE is refused WRONG_STATE. An expiry command acts whatever time its timer shows
(notes/assumptions/3.md). That the judgements follow every dosing event is notes/assumptions/21.md, that the note's number passes
over that of the note it replaces too is 20.md, and that a no-flow timer stops with the suspend timer is 26.md. -/
def Obligations.LinesEndByRequestOrTimeout : Prop :=
  ∀ (tag : Byte) (a : Fin 6) (s : State),
    (s.ready .console → ((s.arm a).state = .idle ∨ (s.arm a).state = .closing ∨ (s.arm a).state = .locked) →
      exec (.endLine .console tag (number a)) s = .next (s.turnedAway .console tag 0x45#8 .wrongState)) ∧
    (∀ ref l, s.ready .console → (s.arm a).state.flowing = true → (s.arm a).active = some ref → s.lineAt ref = some l →
      (s.arm a).doses →
      ∃ t : State, exec (.endLine .console tag (number a)) s = .next (t.answered .console tag 0x45#8 []) ∧
        (s.modifyLine ref (fun x => { x with result := some .short })).closesForLineEnd t a) ∧
    ∀ ref o l, (s.arm a).state = .suspended → (s.arm a).active = some ref → s.order ref.slot = some o →
      o.line? ref.line = some l → (o.state = .loading ∨ o.state = .closing) →
      (s.ready .console → ∃ t : State,
        exec (.endLine .console tag (number a)) s = .next (t.answered .console tag 0x45#8 []) ∧
        s.lineEndedAs t a ref o { l with result := some .short } .idle) ∧
      ∀ ms, .suspendTimeout a ∉ s.due → (s.arm a).suspendTimer = some ms → ∃ t : State, exec (.suspendTimeout a) s = .next t ∧
        s.lineEndedAs t a ref o { l with result := some .aborted, flags := { l.flags with suspendTimeout := true } } .idle

/-- A zero-pulse sample of a closing arm that makes ten or more running (R91), the preset having been judged before (R86). While a
shot is owed or in flight, the final shot of a line that this sample ends among them (R140), the close waits. With none it
completes: for a hold, the line stays running, the arm is SUSPENDED with its timer at 1,800 s and LINE_HELD is raised (R94); for a
line end the line is ENDED and its order judged, one whose last line this was closing with its note (R32, R37, R92, R142, R162 to
R165: `State.lineEndedAs`), and the arm goes IDLE. A queued start is then checked again: it starts its line, without a boundary
sample, or is dropped (R52, R84). That the note's number passes over that of the note it replaces too is notes/assumptions/20.md,
that the judgements follow every dosing event is 21.md, that a sample's dosing goes before its counts is 22.md, and that a no-flow
timer stops with the suspend timer is 26.md. -/
def Obligations.ClosesComplete : Prop :=
  ∀ (a : Fin 6) (s : State) (ref : LineRef) (o : Order) (l : Line), (s.arm a).active = some ref →
    s.order ref.slot = some o → o.line? ref.line = some l → (s.arm a).state = .closing →
    (s.arm a).decoder.sampleCount = 0 → 9 ≤ (s.arm a).zeroRun → (s.arm a).doses → .meteringSample a ∉ s.due →
    let v := s.nextSample a (s.arm a).boundTrial (s.arm a).lineCarries
    let l1 := s.lineAfter a l
    let waits (r : DosingRecord) : Prop := r.owed ≠ 0 ∨ r.shot ≠ none ∨ r.phase = .accruing ∧
      (r.interval ≤ r.accumulator + v.gross ∨ s.decides a l ∧ r.interval ≤ 2 * (r.accumulator + v.gross))
    (s.arm a).stageGross + v.gross ≤ 4294967295 →
    ∃ n : State, s.lineSampled n a ref l ∧
      (∀ r, (s.arm a).dosing = some r → waits r → exec (.meteringSample a) s = .next n) ∧
      ((∀ r, (s.arm a).dosing = some r → ¬ waits r) →
        ((s.arm a).reason = some .hold → ¬ s.decides a l → exec (.meteringSample a) s = .next ({ n with
          arms := n.arms.modify a (fun x =>
            { x with state := .suspended, reason := none, suspendTimer := some 1800000 }) }.raise .lineHeld (number a))) ∧
        ((s.arm a).reason = some .lineEnd ∧ l.isEnding = true ∨ s.decides a l → (o.state = .loading ∨ o.state = .closing) →
          ∃ t : State,
          n.lineEndedAs t a ref { o with lines := o.lines.set (ref.line - 1) l1 } l1 .idle ∧
          ((t.arm a).queued = none → exec (.meteringSample a) s = .next t) ∧
          ∀ q, (t.arm a).queued = some q →
            let u := t.modifyArm a (fun x => { x with queued := none })
            ((∀ k x, t.order k = some x → x.number ≠ q.order) →
              exec (.meteringSample a) s = .next (u.raise .startDropped (number a))) ∧
            (∀ slot o2, t.onlyOrder q.order slot o2 →
              (o2.line? q.line = none ∨ ∃ l2, o2.line? q.line = some l2 ∧ t.unstartable a o2 l2) →
              exec (.meteringSample a) s = .next (u.raise .startDropped (number a))) ∧
            ∀ slot o2 l2, o2.number = q.order → t.startable a slot o2 q.line l2 → (s.arm a).suspendTimer = none →
              (l2.recipe = none → exec (.meteringSample a) s = .next (u.lineStarted a slot o2 q.line l2 none)) ∧
              ∀ k x p i, l2.recipe = some k → t.recipes.get k = some x → t.servedBy a x.additive p i →
                exec (.meteringSample a) s = .next (u.lineStarted a slot o2 q.line l2
                  (some (DosingRecord.opened x p i (t.injectorStore i))))))

/-- A leak: a sample with pulses, the 50th or later since the close command, on an arm CLOSING or SUSPENDED. The preset is judged
first, at the same sample: a running line of a CLOSING arm that has reached it is ending COMPLETE and its leak is judged with that
result, and a SUSPENDED arm whose line has reached it is closing anew, with no leak (R86, R96). The line's dosing is served, its
shots are then abandoned (R141); the line is ENDED with LEAK, ABORTED if it was running, its dose checked (R142) and its order
judged, one whose last line this was closing with its note (R32, R37, R162 to R165: `State.lineEndedAs`); the arm is LOCKED, its
queued start dropped, and LEAK and LINE_ENDED are raised (R96). That the note's number passes over that of the note it replaces
too is notes/assumptions/20.md, that the judgements follow every dosing event is 21.md, that a sample's dosing goes before its
counts is 22.md, and that a leak stops a no-flow timer too is 26.md. -/
def Obligations.LeaksLockTheArm : Prop :=
  ∀ (a : Fin 6) (s : State) (ref : LineRef) (o : Order) (l : Line), (s.arm a).active = some ref →
    s.order ref.slot = some o → o.line? ref.line = some l → (o.state = .loading ∨ o.state = .closing) →
    ((s.arm a).state = .closing ∨ (s.arm a).state = .suspended ∧ ¬ s.decides a l) → (s.arm a).doses →
    (s.arm a).decoder.sampleCount ≠ 0 → 49 ≤ (s.arm a).closeCount → .meteringSample a ∉ s.due →
    let v := s.nextSample a (s.arm a).boundTrial (s.arm a).lineCarries
    let l1 := s.lineAfter a l
    (s.arm a).stageGross + v.gross ≤ 4294967295 →
    ∃ n t : State, s.lineSampled n a ref l ∧
      n.lineEndedAs t a ref { o with lines := o.lines.set (ref.line - 1) l1 }
        { l1 with result := some (l1.result.getD .aborted), flags := { l1.flags with leak := true } } .locked ∧
      exec (.meteringSample a) s = .next ((if (t.arm a).queued.isSome = true
        then (t.modifyArm a (fun x => { x with queued := none })).raise .startDropped (number a) else t).raise .leak
          (number a))

/-! ### Holds and bay permissives (06) -/

/-- SUSPEND ARM, HOLD ARM and the no-flow timeout raise OPERATOR, TERMINAL and NO_FLOW for an arm that carries a line, which
takes the cause by the table of R105; the requests are refused WRONG_STATE for an arm that carries none (R87, R105, R107, R108).
An expiry command acts whatever time its timer shows (notes/assumptions/3.md). -/
def Obligations.HoldsCloseTheArm : Prop :=
  ∀ (tag : Byte) (a : Fin 6) (s : State),
    (s.ready .console → (s.arm a).active = none →
      exec (.suspendArm .console tag (number a)) s = .next (s.turnedAway .console tag 0x43#8 .wrongState)) ∧
    (s.ready .terminal → (s.arm a).active = none →
      exec (.holdArm .terminal tag (number a)) s = .next (s.turnedAway .terminal tag 0x2F#8 .wrongState)) ∧
    (∀ ref, s.ready .console → (s.arm a).active = some ref →
      ∃ t : State, exec (.suspendArm .console tag (number a)) s = .next (t.answered .console tag 0x43#8 []) ∧
        s.heldBy t a .operator) ∧
    (∀ ref, s.ready .terminal → (s.arm a).active = some ref →
      ∃ t : State, exec (.holdArm .terminal tag (number a)) s = .next (t.answered .terminal tag 0x2F#8 []) ∧
        s.heldBy t a .terminal) ∧
    ∀ ms, .noFlowTimeout a ∉ s.due → (s.arm a).state = .lowStart → (s.arm a).noFlowTimer = some ms →
      ∃ t : State, exec (.noFlowTimeout a) s = .next t ∧ s.heldBy t a .noFlow

/-- CLEAR LOCKOUT after ten still samples (R97), RESUME ARM of a SUSPENDED arm that holds the driver's causes alone (R109) and
RELEASE ARM (R110), with their refusals. -/
def Obligations.ArmsAreFreedByRequest : Prop :=
  ∀ (tag : Byte) (a : Fin 6) (s : State),
    (s.ready .terminal →
      let run := exec (.clearLockout .terminal tag (number a)) s
      (((s.arm a).state ≠ .locked ∨ (s.arm a).zeroRun < 10) →
        run = .next (s.turnedAway .terminal tag 0x31#8 .wrongState)) ∧
      ((s.arm a).state = .locked → 10 ≤ (s.arm a).zeroRun → run = .next ((s.modifyArm a (fun x =>
        { x with state := .idle, stray := 0, strayCarries := ⟨0, 0, 0⟩ })).answered .terminal tag 0x31#8 []))) ∧
    (s.ready .terminal →
      let run := exec (.releaseArm .terminal tag (number a)) s
      ((s.arm a).active = none → run = .next (s.turnedAway .terminal tag 0x30#8 .wrongState)) ∧
      ∀ ref, (s.arm a).active = some ref → run = .next ((s.modifyArm a (fun x =>
        { x with holds := { x.holds with terminal := false } })).answered .terminal tag 0x30#8 [])) ∧
    (s.ready .console →
      let run := exec (.resumeArm .console tag (number a)) s
      let h := (s.arm a).holds
      let blocked := h.terminal = true ∨ h.ground = true ∨ h.overfill = true ∨ h.deadman = true ∨ h.probe = true ∨
        h.additive = true
      ((s.arm a).state ≠ .suspended → run = .next (s.turnedAway .console tag 0x44#8 .wrongState)) ∧
      ((s.arm a).state = .suspended → blocked → run = .next (s.turnedAway .console tag 0x44#8 .held)) ∧
      ((s.arm a).state = .suspended → ¬ blocked → run = .next (({ s with
        arms := s.arms.modify a (fun x => { x with
          holds := HoldSet.clear, suspendTimer := none, state := .lowStart, stageVolume := x.setup.restart,
          stageGross := 0, zeroRun := 0, closeCount := 0, noFlowTimer := some 30000 })
        bay := { s.bay with deadman := { s.bay.deadman with elapsed := some 0, warned := false } } } : State).answered
          .console tag 0x44#8 [])))

/-- The valve outputs follow the arm's state by the table of R80, are on only while the arm carries a line, and are all off
while a permissive is LOST. A permissive: its loss is recognized at once, raises its cause for every arm, shuts every valve and
raises PERMISSIVE_LOST; a return starts 5 s of restoration, a drop meanwhile stops it; its end recognizes PRESENT and clears the
cause from every arm without moving one (R112, R113). An expiry command acts whatever time its timer shows (notes/assumptions/3.md). -/
def Obligations.Permissives : Prop :=
  (∀ (s : State) (a : Fin 6),
    ((s.arm a).low = true ↔
      (s.arm a).state = .lowStart ∨ (s.arm a).state = .fullFlow ∨ (s.arm a).state = .topOff) ∧
    ((s.arm a).full = true ↔ (s.arm a).state = .fullFlow ∧ (s.arm a).reducedFlow = false) ∧
    (s.interlocked → ((s.arm a).low = true ∨ (s.arm a).full = true) → (s.arm a).active.isSome = true) ∧
    (s.interlocked → (s.bay.ground.recognized = .lost ∨ s.bay.overfill.recognized = .lost) → s.valvesOff)) ∧
  ∀ (i : Permissive) (s : State),
    let cause : HoldCause := match i with | .ground => .ground | .overfill => .overfill
    ((s.permissive i).level = true → (s.permissive i).recognized = .present → s.armsStand →
      ∃ t : State, exec (.permissiveLoss i) s = .next (t.raise .permissiveLost 0) ∧
        t = { s with
          arms := s.arms.map (fun x => x.withCause cause)
          bay := { (s.modifyPermissive i (fun _ => ⟨false, .lost, none⟩)).bay with
            deadman := if ∃ a, (s.arm a).state.flowing = true then { s.bay.deadman with elapsed := none }
              else s.bay.deadman } } ∧
        t.valvesOff) ∧
    ((s.permissive i).level = true → (s.permissive i).recognized = .lost →
      exec (.permissiveLoss i) s = .next (s.modifyPermissive i (fun x => { x with level := false, timer := none }))) ∧
    ((s.permissive i).level = false → (s.permissive i).recognized = .lost →
      exec (.permissiveInputReturn i) s =
        .next (s.modifyPermissive i (fun x => { x with level := true, timer := some 5000 }))) ∧
    ∀ ms, .permissiveRestored i ∉ s.due → (s.permissive i).timer = some ms → exec (.permissiveRestored i) s =
      .next { s.modifyPermissive i (fun x => { x with recognized := .present, timer := none }) with
        arms := s.arms.map (fun x => { x with holds := x.holds.put false cause }) }

/-- The emergency stop. Its activation shuts every valve and every solenoid, abandons every owed shot and shot in flight, ends
every running line ABORTED with ESTOP and closes its arm for the line end, leaves ending lines their results, drops every queued
start and raises ESTOP (R114); while it is ACTIVE a release runs 5 s and a new press stops that; the release's end recognizes
INACTIVE and moves nothing else (R115). An expiry command acts whatever time its timer shows (notes/assumptions/3.md). -/
def Obligations.EmergencyStop : Prop :=
  ∀ s : State,
    (s.bay.stop.level = false → s.bay.stop.active = false → s.linesKept → s.dosesKept → s.bay.saved = false →
      ∃ t : State, exec .estopActivation s = .next t ∧
        t = { s with
          orders := s.orders.map (Option.map (fun o => { o with lines := o.lines.map (fun l =>
            if l.isRunning = true then { l with result := some .aborted, flags := { l.flags with estop := true } }
            else l) }))
          arms := t.arms, injectors := s.injectors.map (fun x => { x with window := none })
          bay := { s.bay with
            stop := ⟨true, true, none⟩
            deadman := if ∃ a, s.running a = true then { s.bay.deadman with elapsed := none } else s.bay.deadman }
          terminal := t.terminal, console := t.console } ∧
        (∀ a, t.arm a = { (if s.running a = true then (s.arm a).closedForLineEnd else s.arm a) with
          queued := none
          dosing := (s.arm a).dosing.map (fun r => { r with
            owed := 0, shot := none, accumulator := 0
            phase := if r.phase = .accruing then .finishing else r.phase })
          reducedFlow := if ∃ r, (s.arm a).dosing = some r ∧ r.phase = .accruing then false
            else (s.arm a).reducedFlow }) ∧
        t.valvesOff ∧ s.raisesOnly t (fun k subject => k = .estop ∧ subject = 0 ∨
          k = .startDropped ∧ ∃ a, (s.arm a).queued.isSome = true ∧ subject = number a) ∧ t.announced .estop 0 ∧
        ∀ a, (s.arm a).queued.isSome = true → t.announced .startDropped (number a)) ∧
    (s.bay.stop.level = false → s.bay.stop.active = true → exec .estopActivation s =
      .next { s with bay := { s.bay with stop := ⟨true, true, none⟩ } }) ∧
    (s.bay.stop.level = true → s.bay.stop.active = true → exec .estopInputRelease s =
      .next { s with bay := { s.bay with stop := ⟨false, true, some 5000⟩ } }) ∧
    ∀ ms, .estopReleaseTimeout ∉ s.due → s.bay.stop.timer = some ms → exec .estopReleaseTimeout s =
      .next { s with bay := { s.bay with stop := { s.bay.stop with active := false, timer := none } } }

/-- The deadman timer: its warning raises DEADMAN_DUE once; its expiry raises DEADMAN for every flowing arm, so that every valve
is shut, and stops it; a timer stopped, or restarted since its warning, has no expiry (R120); a press clears DEADMAN from every
arm and restarts it while any arm flows; the button's release is no press (R116, R117, R118). An expiry command acts whatever
time its timer shows (notes/assumptions/3.md). The button's level and the kept warning-given item are notes/assumptions/7.md
and 25.md. -/
def Obligations.Deadman : Prop :=
  ∀ s : State,
    (∀ ms, .deadmanWarning ∉ s.due → s.bay.deadman.elapsed = some ms → s.bay.deadman.warned = false → exec .deadmanWarning s =
      .next (({ s with bay := { s.bay with deadman := { s.bay.deadman with warned := true } } } : State).raise
        .deadmanDue 0)) ∧
    (.deadmanExpiry ∉ s.due → (s.bay.deadman.elapsed = none ∨ s.bay.deadman.warned = false) → exec .deadmanExpiry s = .next s) ∧
    (∀ ms, .deadmanExpiry ∉ s.due → s.bay.deadman.elapsed = some ms → s.bay.deadman.warned = true → s.armsStand →
      ∃ t : State, exec .deadmanExpiry s = .next t ∧
      t = { s with
        arms := s.arms.map (fun x => if x.state.flowing = true then x.withCause .deadman else x)
        bay := { s.bay with deadman := { s.bay.deadman with elapsed := none } } } ∧
      t.valvesOff) ∧
    (s.bay.deadman.pressed = false → exec (.deadmanPress true) s = .next { s with
      arms := s.arms.map (fun x => { x with holds := { x.holds with deadman := false } })
      bay := { s.bay with deadman :=
        if ∃ a, (s.arm a).state.flowing = true then ⟨true, some 0, false⟩
        else { s.bay.deadman with pressed := true } } }) ∧
    exec (.deadmanPress false) s =
      .next { s with bay := { s.bay with deadman := { s.bay.deadman with pressed := false } } }

/-! ### Injectors (07) -/

/-- ASSIGN INJECTOR and REMOVE INJECTOR on an IDLE arm (R125, R126), ASSIGN STANDBY (R127) and RETURN INJECTOR (R129), with
some of their refusals. -/
def Obligations.InjectorsAreDeployed : Prop :=
  ∀ (tag : Byte) (s : State), s.ready .terminal →
    let unassigned (i : Fin 8) : Prop :=
      (∀ a p, (s.arm a).setup.positions.get p ≠ some i) ∧ ∀ j, (s.injector j).standby ≠ some i
    (∀ (a : Fin 6) (p : Fin 2) (i : Fin 8),
      let assign := exec (.assignInjector .terminal tag (number a) (number p) (number i)) s
      ((s.arm a).state ≠ .idle → assign = .next (s.turnedAway .terminal tag 0x27#8 .armBusy)) ∧
      ((s.arm a).state = .idle → ((s.arm a).setup.positions.get p ≠ none ∨ ¬ unassigned i) →
        assign = .next (s.turnedAway .terminal tag 0x27#8 .inUse)) ∧
      ((s.arm a).state = .idle → (s.arm a).setup.positions.get p = none → unassigned i →
        (s.injectorStore i).failed = false →
        assign = .next (({ s with
          arms := s.arms.modify a (fun x =>
            { x with setup := { x.setup with positions := x.setup.positions.set p (some i) } })
          injectors := s.injectors.modify i (fun x => { x with standby := none }) } : State).answered .terminal tag 0x27#8
            [])) ∧
      ((s.arm a).state = .idle → (s.arm a).setup.positions.get p = some i →
        exec (.removeInjector .terminal tag (number a) (number p)) s = .next (({ s with
          arms := s.arms.modify a (fun x => { x with setup := { x.setup with positions := x.setup.positions.set p none } })
          injectors := s.injectors.modify i (fun x => { x with standby := none }) } : State).answered .terminal tag 0x28#8
            []))) ∧
    (∀ j i : Fin 8, j ≠ i → (s.injectorStore i).failed = false → (∃ a p, (s.arm a).setup.positions.get p = some j) →
      (unassigned i → (s.injector j).standby = none → (s.injectorStore i).additive = (s.injectorStore j).additive →
        exec (.assignStandby .terminal tag (number j) (number i)) s = .next (({ s with
          injectors := s.injectors.modify j (fun x => { x with standby := some i }) } : State).answered .terminal tag
            0x29#8 [])) ∧
      ((¬ unassigned i ∨ (s.injector j).standby ≠ none) →
        exec (.assignStandby .terminal tag (number j) (number i)) s =
          .next (s.turnedAway .terminal tag 0x29#8 .inUse))) ∧
    ∀ i : Fin 8,
      ((s.injectorStore i).failed = false →
        exec (.returnInjector .terminal tag (number i)) s = .next (s.turnedAway .terminal tag 0x2B#8 .wrongState)) ∧
      ((s.injectorStore i).failed = true →
        exec (.returnInjector .terminal tag (number i)) s = .next ((s.modifyInjectorStore i (fun x =>
          { x with failed := false })).answered .terminal tag 0x2B#8 []))

/-- RELEASE STANDBY (R128): refused for a number outside 1 to 8, then for an injector that is no standby; else the pair is
dissolved, whatever the state of the primary's arm. -/
def Obligations.ReleaseStandby : Prop :=
  ∀ (tag : Byte) (s : State), s.ready .terminal →
    (∀ raw, (raw = 0 ∨ 8 < raw) →
      exec (.releaseStandby .terminal tag raw) s = .next (s.turnedAway .terminal tag 0x2A#8 .badField)) ∧
    (∀ i : Fin 8, (∀ j, (s.injector j).standby ≠ some i) →
      exec (.releaseStandby .terminal tag (number i)) s = .next (s.turnedAway .terminal tag 0x2A#8 .wrongState)) ∧
    ∀ i j : Fin 8, s.rolesKept → (s.injector j).standby = some i →
      exec (.releaseStandby .terminal tag (number i)) s = .next (({ s with
        injectors := s.injectors.modify j (fun x => { x with standby := none }) } : State).answered .terminal tag 0x2A#8 [])

/-- A feedback pulse advances its injector's dosing totalizer (R124, R156). Of an engaged injector it joins the line's feedback
and the shot in flight's; the pulse that reaches the target makes the shot good: the injector is IDLE, its statistic rises,
the retry budget is 2 again (R136), the next owed shot is issued, and the reduced-flow flag and ADDITIVE are judged (R133 to
R135: `State.dosed`; that the judgements follow every dosing event is notes/assumptions/21.md). With nothing owed the flag is
clear, and ADDITIVE leaves the arm where less than an interval has accrued and the injector serves. Of an injector that is not
engaged a pulse counts to no line, but for the one that would have reached the target of the attempt that failed it, which
counts to F (R145; the record and the shot it joins are notes/assumptions/27.md). The mark `voided` is the model's own
(notes/assumptions/3.md). -/
def Obligations.FeedbackPulses : Prop :=
  ∀ (i : Fin 8) (s : State), (s.injectorStore i).kFactor ≠ 0 →
    let store := { s.store with injectors := s.store.injectors.modify i (fun x => { x with total :=
      ⟨(x.total.millilitres + (x.total.remainder + 1000000) / x.kFactor) % 1000000000,
        (x.total.remainder + 1000000) % x.kFactor⟩ }) }
    ((∀ a, (s.arm a).engaged ≠ some i) →
      ((∀ a r, (s.arm a).dosing = some r → r.late ≠ some i) →
        exec (.injectorFeedbackPulse i) s = .next { s with store := store }) ∧
      ∀ a r, (s.arm a).dosing = some r → r.late = some i →
        (∀ b x, b ≠ a → (s.arm b).dosing = some x → x.late ≠ some i) →
        exec (.injectorFeedbackPulse i) s = .next { s with
          store := store
          arms := s.arms.modify a (fun x => { x with
            dosing := some { r with feedback := r.feedback + 1, late := none } }) }) ∧
    ∀ a r, (s.arm a).engaged = some i → (∀ b, b ≠ a → (s.arm b).engaged ≠ some i) → (s.arm a).dosing = some r →
      (r.shot = none → exec (.injectorFeedbackPulse i) s = .next { s with
        store := store
        arms := s.arms.modify a (fun x => { x with dosing := some { r with feedback := r.feedback + 1 } }) }) ∧
      (∀ n retry, r.shot = some ⟨n, retry⟩ → n + 1 < r.target →
        exec (.injectorFeedbackPulse i) s = .next { s with
          store := store
          arms := s.arms.modify a (fun x => { x with
            dosing := some { r with feedback := r.feedback + 1, shot := some ⟨n + 1, retry⟩ } })
          injectors := s.injectors.modify i (fun x => { x with voided := false }) }) ∧
      ∀ n retry, r.shot = some ⟨n, retry⟩ → r.target ≤ n + 1 →
        let s1 := { s with
          store := store
          injectors := s.injectors.modify i (fun x => { x with
            window := none
            voided := decide (0 < r.owed)
            stats := if retry = true then { x.stats with goodAfterRetry := min 65535 (x.stats.goodAfterRetry + 1) }
              else { x.stats with firstGood := min 65535 (x.stats.firstGood + 1) } }) }
        let r1 := { r with feedback := r.feedback + 1, shot := none, budget := 2 }
        (0 < r.interval → ∃ t, exec (.injectorFeedbackPulse i) s = .next t ∧ s1.dosed t a i r1) ∧
        (r.owed = 0 →
          let clears := r.accumulator < r.interval ∧ (s.injectorStore i).failed = false ∧
            (s.injectorStore i).additive = r.additive
          exec (.injectorFeedbackPulse i) s = .next { s1 with
            arms := s.arms.modify a (fun x => { x with
              dosing := some r1
              reducedFlow := false
              holds := if clears then { x.holds with additive := false } else x.holds }) })

/-- The verify window's expiry. One that stands behind the pulse that made its shot good does not happen: that window has
stopped, and the shot issued after it stays in flight (R145). At any other, with retry budget left, the same shot is attempted
afresh (R137). Without, the injector is FAILED and INJECTOR_FAILED is raised: its standby takes over the position and the
record, with its own interval, target and K-factor, the dosed quantity so far being kept, and issues what is then owed (R138);
with no standby the position is empty, the record is DISENGAGED and ADDITIVE is raised for the arm (R139). `State.dosed` says
what follows each of the first two (R133 to R135; that the judgements follow every dosing event is notes/assumptions/21.md).
The record notes in `late` that the attempt lacked one pulse of its target, which R145 lets it still count
(notes/assumptions/27.md). An expiry command acts whatever time its timer shows (notes/assumptions/3.md). -/
def Obligations.VerifyWindows : Prop :=
  ∀ (i : Fin 8) (s : State),
    .verifyWindowExpiry i ∉ s.due → ((s.injector i).voided = true → exec (.verifyWindowExpiry i) s = .next { s with
      injectors := s.injectors.modify i (fun x => { x with voided := false }) }) ∧
    ∀ (a : Fin 6) (r : DosingRecord) (ms : Nat) (shot : Shot), (s.injector i).voided = false → (s.arm a).engaged = some i →
      (∀ b, b ≠ a → (s.arm b).engaged ≠ some i) → (s.arm a).dosing = some r → (s.injector i).window = some ms →
      r.shot = some shot →
      let late := if r.target ≤ shot.feedback + 1 then some i else none
      (0 < r.budget → ∃ t, exec (.verifyWindowExpiry i) s = .next t ∧
        State.dosed { s with injectors := s.injectors.modify i (fun x => { x with window := some 3000 }) } t a i
          { r with budget := r.budget - 1, shot := some ⟨0, true⟩ }) ∧
      (r.budget = 0 → (s.injector i).standby = none → ∃ t : State,
        exec (.verifyWindowExpiry i) s = .next (t.raise .injectorFailed (number i)) ∧
        t = { s with
          injectors := s.injectors.modify i (fun x =>
            { x with window := none, stats := { x.stats with failed := min 65535 (x.stats.failed + 1) } })
          store := { s.store with injectors := s.store.injectors.modify i (fun x => { x with failed := true }) }
          arms := s.arms.modify a (fun x => { x.withCause .additive with
            setup := { x.setup with positions := x.setup.positions.set r.position none }
            dosing := some { r with phase := .disengaged, owed := 0, accumulator := 0, shot := none, late := late }
            reducedFlow := false })
          bay := t.bay } ∧
        if (s.arm a).state.flowing = true ∧ (s.arm a).active.isSome = true ∧ (s.arm a).holds.additive = false
          then s.bayFollows t else t.bay = s.bay) ∧
      ∀ j, r.budget = 0 → (s.injector i).standby = some j → j ≠ i → 0 < (s.injectorStore j).shotSize * 10000 / r.rate →
        ∀ ref, (s.arm a).active = some ref →
          let taken : DosingRecord := { r with
            dosedBefore := r.dosedBefore + r.feedback * 1000000 / r.servingKf
            feedback := 0
            serving := j
            servingKf := (s.injectorStore j).kFactor
            interval := (s.injectorStore j).shotSize * 10000 / r.rate
            target := max 1 (((s.injectorStore j).shotSize * (s.injectorStore j).kFactor + 99999999) / 100000000)
            budget := 2
            shot := none
            late := late }
          let s1 : State := { s.modifyLine ref (fun x => { x with flags := { x.flags with standbyUsed := true } }) with
            injectors := s.injectors.modify i (fun x => { x with
              standby := none, window := none, stats := { x.stats with failed := min 65535 (x.stats.failed + 1) } })
            store := { s.store with injectors := s.store.injectors.modify i (fun x => { x with failed := true }) }
            arms := s.arms.modify a (fun x => { x with
              setup := { x.setup with positions := x.setup.positions.set r.position (some j) }, dosing := some taken.settled }) }
          ∃ t, exec (.verifyWindowExpiry i) s = .next t ∧
            (s1.raise .injectorFailed (number i)).dosed t a j taken.settled

/-! ### Calibration, seal and trial factors (08) -/

/-- WRITE CALIBRATION of the four items (R149, R150): refused SWITCH_LOCKED, SEALED and COUNTER_FULL in that order; else, the
arm carrying no line or the injector being neither engaged nor in SHOT, the item takes the values carried, the counter rises
by 1, an arm's pending trial factor is discarded, and the reply carries the new counter. -/
def Obligations.WriteCalibration : Prop :=
  ∀ (tag : Byte) (s : State), s.ready .terminal →
    (∀ c arm k points offset injector additive shotSize kf,
      (c = Instr.writeCalibrationKFactor .terminal tag arm k ∨ c = Instr.writeCalibrationCurve .terminal tag arm points ∨
        c = Instr.writeCalibrationOffset .terminal tag arm offset ∨
        c = Instr.writeCalibrationInjector .terminal tag injector additive shotSize kf) →
      (s.bay.switch = .locked → exec c s = .next (s.turnedAway .terminal tag 0x33#8 .switchLocked)) ∧
      (s.bay.switch = .amend → s.store.sealLevel ≠ .sealOpen →
        exec c s = .next (s.turnedAway .terminal tag 0x33#8 .sealed)) ∧
      (s.bay.switch = .amend → s.store.sealLevel = .sealOpen → s.store.counter = 65535 →
        exec c s = .next (s.turnedAway .terminal tag 0x33#8 .counterFull))) ∧
    (s.bay.switch = .amend → s.store.sealLevel = .sealOpen → s.store.counter < 65535 →
      (∀ a : Fin 6,
        let written (f : MeterStore → MeterStore) : Outcome := .next (({ s with store := { s.store with
          meters := s.store.meters.modify a (fun m => { f m with pendingTrial := none })
          counter := s.store.counter + 1 } } : State).answered .terminal tag 0x33#8 (field 2 (s.store.counter + 1)))
        ((s.arm a).active ≠ none → ∀ k, exec (.writeCalibrationKFactor .terminal tag (number a) k) s =
          .next (s.turnedAway .terminal tag 0x33#8 .armBusy)) ∧
        ((s.arm a).active = none →
          (∀ k, 1000 ≤ k → k ≤ 999999 →
            exec (.writeCalibrationKFactor .terminal tag (number a) k) s = written (fun m => { m with kFactor := k })) ∧
          (∀ points : List CurvePoint, 1 ≤ points.length → points.length ≤ 4 →
            points.Pairwise (fun x y => x.flow < y.flow) →
            (∀ x ∈ points, 1 ≤ x.flow ∧ x.flow ≤ 5000 ∧ 95000 ≤ x.factor ∧ x.factor ≤ 105000) →
            exec (.writeCalibrationCurve .terminal tag (number a) points) s = written (fun m => { m with curve := points })) ∧
          ∀ offset : Int, -200 ≤ offset → offset ≤ 200 →
            exec (.writeCalibrationOffset .terminal tag (number a) offset) s = written (fun m => { m with offset := offset }))) ∧
      ∀ (i : Fin 8) additive shotSize kf, (∀ a, (s.arm a).engaged ≠ some i) → (s.injector i).window = none →
        1 ≤ additive → additive ≤ 255 → 500 ≤ shotSize → shotSize ≤ 50000 → 100000 ≤ kf → kf ≤ 9999999 →
        (additive = (s.injectorStore i).additive ∨
          (∀ a p, (s.arm a).setup.positions.get p ≠ some i) ∧ ∀ j, (s.injector j).standby ≠ some i) →
        exec (.writeCalibrationInjector .terminal tag (number i) additive shotSize kf) s = .next (({ s with
          store := { s.store with
            injectors := s.store.injectors.modify i (fun x =>
              { x with additive := additive, shotSize := shotSize, kFactor := kf })
            counter := s.store.counter + 1 } } : State).answered .terminal tag 0x33#8 (field 2 (s.store.counter + 1))))

/-- The calibration switch acts on nothing by itself (R148). SET SEAL takes an equal or a higher level, in either switch
position, the raising to FIXED discarding every pending trial factor, and refuses a lower one (R152). WRITE TRIAL FACTOR is
refused in LOCKED and at FIXED; else the factor is pending for the arm, or withdrawn by 0 (R153). -/
def Obligations.SealAndTrialFactors : Prop :=
  ∀ (tag : Byte) (s : State),
    (∀ x, exec (.calibrationSwitchChange x) s = .next { s with bay := { s.bay with switch := x } }) ∧
    (s.ready .terminal → ∀ level : SealLevel,
      let run := exec (.setSeal .terminal tag level.code) s
      (level.code < s.store.sealLevel.code → run = .next (s.turnedAway .terminal tag 0x34#8 .wrongState)) ∧
      (s.store.sealLevel.code ≤ level.code → run = .next (({ s with store := { s.store with
        sealLevel := level
        meters := if level = .sealFixed ∧ s.store.sealLevel ≠ .sealFixed
          then s.store.meters.map (fun m => { m with pendingTrial := none }) else s.store.meters } } : State).answered
            .terminal tag 0x34#8 []))) ∧
    (s.ready .terminal → ∀ (a : Fin 6) (factor : Nat), factor = 0 ∨ 95000 ≤ factor ∧ factor ≤ 105000 →
      let run := exec (.writeTrialFactor .terminal tag (number a) factor) s
      (s.bay.switch = .locked → run = .next (s.turnedAway .terminal tag 0x35#8 .switchLocked)) ∧
      (s.bay.switch = .amend → s.store.sealLevel = .sealFixed →
        run = .next (s.turnedAway .terminal tag 0x35#8 .sealed)) ∧
      (s.bay.switch = .amend → s.store.sealLevel ≠ .sealFixed → run = .next ((s.modifyMeterStore a (fun m =>
        { m with pendingTrial := if factor = 0 then none else some factor })).answered .terminal tag 0x35#8 [])))

/-! ### The note journal (09) -/

/-- COLLECT NOTE turns a STORED note COLLECTED, and is refused WRONG_STATE for a COLLECTED one (R161, R167); MARK PRINTED adds
one to a note's printed count, which stays at 255, and answers it (R168); a number that no note carries is refused NO_SUCH. -/
def Obligations.NotesAreCollectedAndPrinted : Prop :=
  ∀ (tag : Byte) (seq : Nat) (s : State), 1 ≤ seq → seq ≤ 999999 →
    (s.journal.lacks seq →
      (s.ready .terminal → exec (.collectNote .terminal tag seq) s = .next (s.turnedAway .terminal tag 0x32#8 .noSuch)) ∧
      (s.ready .console → exec (.markPrinted .console tag seq) s = .next (s.turnedAway .console tag 0x47#8 .noSuch))) ∧
    ∀ (k : Fin 48) (n : Note), (s.journal.slots.get k).note? = some n → n.sequenceNumber = seq →
      (∀ j m, (s.journal.slots.get j).note? = some m → m.sequenceNumber = seq → j = k) →
      (s.ready .terminal →
        ((s.journal.slots.get k).isCollected = true →
          exec (.collectNote .terminal tag seq) s = .next (s.turnedAway .terminal tag 0x32#8 .wrongState)) ∧
        ((s.journal.slots.get k).isStored = true → exec (.collectNote .terminal tag seq) s = .next (({ s with
          journal := { s.journal with slots := s.journal.slots.set k (.collected n) } } : State).answered .terminal tag
            0x32#8 []))) ∧
      (s.ready .console →
        let n1 := { n with printed := min 255 (n.printed + 1) }
        exec (.markPrinted .console tag seq) s = .next (({ s with journal := { s.journal with
          slots := s.journal.slots.set k
            (if (s.journal.slots.get k).isStored = true then .stored n1 else .collected n1) } } : State).answered .console
              tag 0x47#8 (field 1 n1.printed)))

/-! ### Power failure and restart (09, 10) -/

/-- The power-fail save (R100, R172, R173): every valve and solenoid is off, every arm is at rest without a line, order timers
stop, the save area takes the image of every CLAIMED, LOADING or CLOSING order in slot order, an active line's with its end
readings, and no notice is raised; a second assertion saves nothing. -/
def Obligations.PowerFailSave : Prop :=
  ∀ s : State,
    (s.bay.saved = true → exec .powerFailSave s = .next { s with bay := { s.bay with powerFail := true } }) ∧
    (s.bay.saved = false → s.linesKept → s.dosesKept → ∃ t : State, exec .powerFailSave s = .next t ∧
      t = { s with
        orders := t.orders, arms := t.arms, injectors := s.injectors.map (fun x => { x with window := none })
        journal := { s.journal with saveArea := t.journal.saveArea }
        bay := { s.bay with powerFail := true, saved := true, deadman := { s.bay.deadman with elapsed := none } } } ∧
      t.valvesOff ∧
      (∀ a, t.arm a = { s.arm a with
        state := if (s.arm a).state = .locked then .locked else .idle
        reason := none, active := none, holds := HoldSet.clear, queued := none, noFlowTimer := none, suspendTimer := none
        lineCarries := ⟨0, 0, 0⟩, boundTrial := none, dosing := none, reducedFlow := false
        decoder := { (s.arm a).decoder with mode := .stray }
        lastOverrun := ((s.activeLine a).map (fun l => (l.delivered + 500) / 1000 - l.preset)).getD
          (s.arm a).lastOverrun }) ∧
      t.journal.saveArea = t.orders.entries.filterMap (fun e => e.bind (fun o => if o.reserves then some o else none)) ∧
      (∀ slot, s.order slot = none → t.order slot = none) ∧
      ∀ slot o, s.order slot = some o → ∃ o1, t.order slot = some o1 ∧
        o1 = { o with claimTimer := none, idleTimer := none, lines := o1.lines } ∧ o1.lines.length = o.lines.length ∧
        ∀ k l, o.line? k = some l → ∃ l1, o1.line? k = some l1 ∧
          ((∀ a, l.state ≠ .active a) → l1 = l) ∧
          ∀ a, l.state = .active a →
            l1 = { l with
              flags := { l.flags with
                doseDeviation := l1.flags.doseDeviation
                overrun := l.flags.overrun ||
                  decide ((s.arm a).setup.overrunLimit < (l.delivered + 500) / 1000 - l.preset) }
              record := { l.record with
                additive := l1.record.additive
                atEnd := some ⟨(s.meterStore a).gross, (s.meterStore a).standard⟩ } } ∧
            ((s.arm a).dosing = none → l1.record.additive = l.record.additive ∧
              l1.flags.doseDeviation = l.flags.doseDeviation) ∧
            ∀ r, (s.arm a).dosing = some r →
              let dosed := r.dosedBefore + r.feedback * 1000000 / r.servingKf
              let required := (l.record.gv * r.rate + 500000) / 1000000
              l1.record.additive = some ⟨r.additive, dosed, required⟩ ∧
              (l1.flags.doseDeviation = true ↔ l.flags.doseDeviation = true ∨
                0 < required ∧ (r.tolerance * required : Int) < |(dosed : Int) - required| * 100))

/-- A cold start (R111, R146, R151, R154, R174, R175, R181): every block takes its cold-start values, the store and the journal
are kept but for HELD turning OPEN and pending trial factors, and the save area is turned into notes: an image that delivered
product becomes an INTERRUPTED note with NOTE_STORED, another is discarded, in the order of the images; JOURNAL_NEAR_FULL is
raised where images were found and 44 or more notes are then STORED (notes/assumptions/16.md). A deassertion of the warning
after the save is a cold start. That a note's number passes over that of the note it replaces too is notes/assumptions/20.md; what
a deassertion does is notes/assumptions/8.md; that a probe's last gate is absent after a cold start is notes/assumptions/17.md. -/
def Obligations.ColdStart : Prop :=
  ∀ s : State,
    let cold := { State.reset with
      store := { s.store with
        meters := s.store.meters.map (fun m => { m with pendingTrial := none })
        sealLevel := if s.store.sealLevel = .sealHeld then .sealOpen else s.store.sealLevel }
      journal := { s.journal with saveArea := [] }
      bay := { s.bay with
        ground := ⟨s.bay.ground.level, .lost, if s.bay.ground.level = true then some 5000 else none⟩
        overfill := ⟨s.bay.overfill.level, .lost, if s.bay.overfill.level = true then some 5000 else none⟩
        stop := ⟨s.bay.stop.level, true, if s.bay.stop.level = true then none else some 5000⟩
        deadman := ⟨s.bay.deadman.pressed, none, false⟩
        saved := false }
      pending := s.pending, due := s.due }
    (s.bay.saved = false →
      exec .powerFailWarningDeassert s = .next { s with bay := { s.bay with powerFail := false } }) ∧
    (s.bay.saved = true →
      exec .powerFailWarningDeassert s = exec .coldStart { s with bay := { s.bay with powerFail := false } }) ∧
    (s.journal.saveArea = [] → exec .coldStart s = .next cold) ∧
    (∀ o, s.journal.saveArea = [o] → (∀ l ∈ o.lines, l.record.gv = 0) → s.storedCount ≤ 43 →
      exec .coldStart s = .next cold) ∧
    (s.journal.kept → s.storedCount + s.journal.saveArea.length ≤ 48 →
      let delivered (o : Order) : Bool := o.lines.any (fun l => decide (0 < l.record.gv))
      let ended (o : Order) : Order := { o with lines := o.lines.map (fun l =>
        if l.isRunning = true then { l with result := some .aborted } else l) }
      ∃ j : Journal,
        Journal.gainsAll { s.journal with saveArea := [] } j ((s.journal.saveArea.filter delivered).map
          (fun o n => n.records (ended o) .interrupted ⟨0, 0, false, 1000⟩)) ∧
        exec .coldStart s = .next ((({ cold with journal := j } : State).raiseIf (s.journal.saveArea.any delivered)
          .noteStored 0).raiseIf (decide (s.journal.saveArea ≠ [] ∧ 44 ≤ j.slots.count JournalSlot.isStored))
            .journalNearFull 0)) ∧
    ∀ o k l, s.journal.saveArea = [o] → l ∈ o.lines → 0 < l.record.gv → s.journal.nextSlot k → s.storedCount ≤ 42 →
      ∃ n, exec .coldStart s = .next (({ cold with journal := { s.journal with
          slots := s.journal.slots.set k (.stored n)
          composition := s.journal.composition.filter (fun j => j != k) ++ [k]
          lastSequence := n.sequenceNumber
          saveArea := [] } } : State).raise .noteStored 0) ∧
        s.journal.lacks n.sequenceNumber ∧ n.order = o.number ∧ n.cause = .interrupted ∧ n.clockUnset = true ∧
        n.closeTime = ⟨0, 0⟩ ∧ n.lines.length = o.lines.length ∧
        ∀ (j : Nat) (x : Line) (y : NoteLine), o.lines[j]? = some x → n.lines[j]? = some y →
          y.compartment = x.compartment ∧ y.gvLitres = (x.record.gv + 500) / 1000 ∧ y.flags = x.flags ∧
          y.result = if x.isWaiting = true then some .notLoaded else if x.isRunning = true then some .aborted
            else x.result

/-- RESTART (R38, R99, R182): every valve and solenoid is off; each LOADING or CLOSING order, in slot order, leaves a note with
cause RESTART, its active lines ABORTED or with their result, their records fixed (R93, R142, R157), and the other notes are
kept (R164, R165, R171); the order table is empty, and the claims on its orders have ended; every arm is at rest and one that is
LOCKED stays so, every pending trial factor is gone, both ports' sets hold nothing but ORDER_CLOSED for each closed order and
NOTE_STORED, and the reply carries the number of notes and the last sequence number; the clock, the tables, the gate, the
probes and the bay's inputs are kept, and each permit but for its claim. That a note's number passes over that of the note it
replaces too is notes/assumptions/20.md. -/
def Obligations.Restart : Prop :=
  ∀ (tag : Byte) (s : State), s.ready .terminal → s.linesKept →
    let closing (k : Fin 24) : Prop := ∃ o, s.order k = some o ∧ (o.state = .loading ∨ o.state = .closing)
    ∃ (t : State) (count : Nat), exec (.restart .terminal tag) s =
        .next (t.answered .terminal tag 0x37#8 (field 1 count ++ field 4 t.journal.lastSequence)) ∧
      count = s.orders.count (fun e => match e with
        | some o => o.state == .loading || o.state == .closing
        | none => false) ∧
      t = { s with
        permits := t.permits, orders := Table.fill 24 none, arms := t.arms
        injectors := s.injectors.map (fun x => { x with window := none })
        store := { s.store with meters := s.store.meters.map (fun m => { m with pendingTrial := none }) }
        journal := t.journal, bay := { s.bay with deadman := { s.bay.deadman with elapsed := none } }
        terminal := t.terminal, console := t.console } ∧
      t.valvesOff ∧
      (∀ a, t.arm a = { s.arm a with
        state := if (s.arm a).state = .locked then .locked else .idle
        reason := none, active := none, holds := HoldSet.clear, queued := none, noFlowTimer := none, suspendTimer := none
        stray := 0, lineCarries := ⟨0, 0, 0⟩, strayCarries := ⟨0, 0, 0⟩, boundTrial := none, dosing := none
        reducedFlow := false, decoder := { (s.arm a).decoder with mode := .stray }
        lastOverrun := ((s.activeLine a).map (fun l => (l.delivered + 500) / 1000 - l.preset)).getD
          (s.arm a).lastOverrun }) ∧
      (s.journalRoom → s.journal.kept → s.journal.gainsAll t.journal
        ((s.orders.entries.filterMap (fun e => e.filter (fun o => o.state == .loading || o.state == .closing))).map
          (fun o n => n.records { o with lines := o.lines.map (fun l => match l.state with
            | .active a => { s.fixed a l with state := .ended, result := some (l.result.getD .aborted) }
            | .waiting => l
            | .ended => l) } .restart s.clock))) ∧
      (∀ e, s.permits.get e = none → t.permits.get e = none) ∧
      (∀ e q, s.permits.get e = some q →
        ((∃ k o, s.order k = some o ∧ o.claimPermit = some q.number) → t.permits.get e = some { q with claim := none }) ∧
        ((∀ k o, s.order k = some o → o.claimPermit ≠ some q.number) → t.permits.get e = some q)) ∧
      ∀ p, t.port p = { s.port p with notices := (t.port p).notices, inService := [] } ∧
        (∀ n ∈ (t.port p).notices, n.kind = .noteStored ∨ n.kind = .orderClosed ∧ ∃ k, closing k ∧ n.subject = number k) ∧
        ∀ k, closing k → t.announced .orderClosed (number k) ∧ t.announced .noteStored 0

/-! ### Invariants of every step -/

/-- Every step keeps lines and arms in agreement (R23, R44, R81, R89, R104), and permits and orders: permit numbers and order
numbers are not repeated (R5, R21), and a permit's claim and the claiming permit of an order name each other (R7). -/
def Obligations.LinesAndArmsAgree : Prop :=
  ∀ s t : State, step s = .next t → (s.linesKept → t.linesKept) ∧ (s.claimsAgree → t.claimsAgree)

/-- Every step keeps the interlock: while a permissive is recognized LOST, every arm that carries a line holds its cause, and
every arm stands by its state (R105, R112, R113). -/
def Obligations.InterlockHolds : Prop :=
  ∀ s t : State, step s = .next t → s.interlocked → t.interlocked

/-- Every step keeps room in the journal: stored notes and reservations never exceed 48 (R166), nor do stored notes and saved
images (R172, R174); and the composition order lists the slots that hold a note, each once (R164), no two notes carrying one
number (R165). -/
def Obligations.JournalHasRoom : Prop :=
  ∀ s t : State, step s = .next t → (s.journalRoom → t.journalRoom) ∧ (s.journal.kept → t.journal.kept)

/-- Every step keeps the notice unit's sets free of repeated pairs and levels (R184, R185, R188). -/
def Obligations.NoticeSetsAreKept : Prop :=
  ∀ s t : State, step s = .next t → s.portsKept → t.portsKept

/-- Every step keeps the dosing unit: every arm stands by its state, dosing records stay within their bound on arms that carry
a line (R131), and roles, positions, standbys and shots agree (R124); and recipes, calibrations and open records keep their
ranges, an open record that engages no injector being DISENGAGED (R122, R130, R138, R139, R150). -/
def Obligations.DosingIsKept : Prop :=
  ∀ s t : State, step s = .next t → s.dosesKept → t.dosesKept ∧ (s.dosesCalibrated → t.dosesCalibrated)

/-- Every step keeps the clock, the calibration event counter, the totalizers and the probes' temperatures in their ranges
(R2, R68, R147, R155). -/
def Obligations.RangesAreKept : Prop :=
  ∀ s t : State, step s = .next t → s.clockKept ∧ s.store.kept ∧ s.probesKept →
    t.clockKept ∧ t.store.kept ∧ t.probesKept

/-- The seal level never falls, except that a cold start turns HELD into OPEN (R151). -/
def Obligations.SealNeverFalls : Prop :=
  ∀ (c : Instr) (s t : State), exec c s = .next t →
    let coldStarts := c = .coldStart ∨ c = .powerFailWarningDeassert ∧ s.bay.saved = true
    (¬ coldStarts → s.store.sealLevel.code ≤ t.store.sealLevel.code) ∧
      (coldStarts → t.store.sealLevel = if s.store.sealLevel = .sealHeld then .sealOpen else s.store.sealLevel)
end

