-- ==== Sys2Proof/Laws/Table.lean ====
section
/-!
SUPPORT. Tables: reading after writing, equality entry by entry, and what the searches and counts say.
-/

namespace Sys2Proof

variable {n : Nat} {α β : Type}

/-- Two tables with the same entry for every object are equal. -/
theorem Table.ext_get {s t : Table n α} (h : ∀ i, s.get i = t.get i) : s = t := by
  obtain ⟨xs, hx⟩ := s
  obtain ⟨ys, hy⟩ := t
  have : xs = ys := by
    apply List.ext_getElem (by rw [hx, hy])
    intro k h1 _
    exact h ⟨k, by omega⟩
  subst this
  rfl

@[simp] theorem Table.get_set_self (t : Table n α) (i : Fin n) (x : α) : (t.set i x).get i = x := by
  simp [Table.get, Table.set]

theorem Table.get_set_ne (t : Table n α) {i j : Fin n} (x : α) (h : j ≠ i) : (t.set i x).get j = t.get j := by
  have : i.val ≠ j.val := fun e => h (Fin.ext e.symm)
  simp [Table.get, Table.set, List.getElem_set_ne this]

/-- Reading any object after one write. -/
theorem Table.get_set (t : Table n α) (i j : Fin n) (x : α) :
    (t.set i x).get j = if j = i then x else t.get j := by
  split
  · next h => rw [h, Table.get_set_self]
  · next h => exact t.get_set_ne x h

/-- Reading any object after one change. -/
theorem Table.get_modify (t : Table n α) (i j : Fin n) (f : α → α) :
    (t.modify i f).get j = if j = i then f (t.get j) else t.get j := by
  unfold Table.modify
  rw [Table.get_set]
  split <;> simp_all

@[simp] theorem Table.get_modify_self (t : Table n α) (i : Fin n) (f : α → α) :
    (t.modify i f).get i = f (t.get i) := by rw [Table.get_modify, if_pos rfl]

theorem Table.get_modify_ne (t : Table n α) {i j : Fin n} (f : α → α) (h : j ≠ i) :
    (t.modify i f).get j = t.get j := by rw [Table.get_modify, if_neg h]

@[simp] theorem Table.get_map (t : Table n α) (f : α → β) (i : Fin n) : (t.map f).get i = f (t.get i) := by
  simp [Table.get, Table.map]

@[simp] theorem Table.get_fill (x : α) (i : Fin n) : (Table.fill n x).get i = x := by
  simp [Table.get, Table.fill]

/-- A table's entries are exactly what its objects hold. -/
theorem Table.mem_entries (t : Table n α) (x : α) : x ∈ t.entries ↔ ∃ i, t.get i = x := by
  constructor
  · intro h
    obtain ⟨k, hk, rfl⟩ := List.mem_iff_getElem.mp h
    exact ⟨⟨k, by rw [← t.size]; exact hk⟩, rfl⟩
  · rintro ⟨i, rfl⟩
    exact List.getElem_mem _

/-- The search answers the lowest-numbered object whose entry meets the test. -/
theorem Table.find?_eq_some (t : Table n α) (p : α → Bool) (i : Fin n) :
    t.find? p = some i ↔ p (t.get i) = true ∧ ∀ j < i, p (t.get j) = false := by
  unfold Table.find?
  constructor
  · intro h
    split at h
    · next k hk =>
      split at h
      · next hn =>
        cases h
        rw [List.findIdx?_eq_some_iff_getElem] at hk
        obtain ⟨hl, hp, hlt⟩ := hk
        refine ⟨hp, fun j hj => ?_⟩
        have := hlt j.val hj
        simpa [Table.get] using this
      · cases h
    · cases h
  · rintro ⟨hp, hlt⟩
    have : t.entries.findIdx? p = some i.val := by
      rw [List.findIdx?_eq_some_iff_getElem]
      refine ⟨by rw [t.size]; exact i.isLt, hp, fun j hj => ?_⟩
      have := hlt ⟨j, by omega⟩ hj
      simpa [Table.get] using this
    simp [this]

/-- The search answers nothing exactly when no entry meets the test. -/
theorem Table.find?_eq_none (t : Table n α) (p : α → Bool) :
    t.find? p = none ↔ ∀ i, p (t.get i) = false := by
  constructor
  · intro h i
    by_contra hi
    have hmem : ∃ x ∈ t.entries, p x = true := ⟨t.get i, (t.mem_entries _).mpr ⟨i, rfl⟩, by simpa using hi⟩
    unfold Table.find? at h
    split at h
    · next k hk =>
      rw [List.findIdx?_eq_some_iff_getElem] at hk
      obtain ⟨hl, _, _⟩ := hk
      rw [t.size] at hl
      simp [hl] at h
    · next hk =>
      rw [List.findIdx?_eq_none_iff] at hk
      obtain ⟨x, hx, hpx⟩ := hmem
      simp [hk x hx] at hpx
  · intro h
    unfold Table.find?
    have : t.entries.findIdx? p = none := by
      rw [List.findIdx?_eq_none_iff]
      intro x hx
      obtain ⟨i, rfl⟩ := (t.mem_entries x).mp hx
      exact h i
    simp [this]

/-- A write moves the count of a test by what it takes away and what it adds. -/
theorem Table.count_set (t : Table n α) (p : α → Bool) (i : Fin n) (x : α) :
    (t.set i x).count p + (if p (t.get i) then 1 else 0) = t.count p + (if p x then 1 else 0) := by
  have hl : i.val < t.entries.length := by rw [t.size]; exact i.isLt
  have h := List.countP_set (p := p) (a := x) hl
  have hle : p (t.get i) = true → 0 < t.entries.countP p := fun hp =>
    List.countP_pos_iff.mpr ⟨t.get i, (t.mem_entries _).mpr ⟨i, rfl⟩, hp⟩
  simp only [Table.count, Table.set, Table.get] at *
  rw [h]
  split <;> split <;> simp_all

/-- An index on the wire that lies in range names the object of that number. -/
theorem indexOf_eq_some {n raw : Nat} {i : Fin n} : indexOf n raw = some i ↔ raw = i.val + 1 := by
  unfold indexOf
  split
  · next h =>
    constructor
    · intro e
      have := congrArg (fun o => o.map Fin.val) e
      simp at this
      omega
    · intro e
      congr
      omega
  · next h =>
    constructor
    · intro e; cases e
    · intro e
      have := i.isLt
      omega

@[simp] theorem indexOf_number {n : Nat} (i : Fin n) : indexOf n (i.val + 1) = some i := indexOf_eq_some.mpr rfl

/-- An index on the wire outside 1 to n names nothing. -/
theorem indexOf_eq_none {n raw : Nat} : indexOf n raw = none ↔ raw = 0 ∨ n < raw := by
  unfold indexOf
  split <;> simp_all <;> omega

/-- The lowest-numbered free entry of a table. -/
theorem Table.freeEntry {t : Table n (Option α)} {e : Fin n} (h : t.get e = none)
    (hl : ∀ k < e, t.get k ≠ none) : t.find? Option.isNone = some e := by
  rw [Table.find?_eq_some]
  refine ⟨by simp [h], fun j hj => ?_⟩
  cases hj' : t.get j with
  | none => exact absurd hj' (hl j hj)
  | some _ => rfl

/-- Changing the one entry that holds a value is writing its new value there. -/
theorem Table.modify_eq_set (t : Table n α) (i : Fin n) (f : α → α) :
    t.modify i f = t.set i (f (t.get i)) := rfl

theorem Table.set_set (t : Table n α) (i : Fin n) (x y : α) : (t.set i x).set i y = t.set i y := by
  apply Table.ext_get
  intro j
  simp only [Table.get_set]
  split <;> rfl

/-- Writing an entry that stands there already. -/
theorem Table.set_get_self (t : Table n α) (i : Fin n) : t.set i (t.get i) = t := by
  apply Table.ext_get
  intro j
  rw [Table.get_set]
  split
  · next h => rw [h]
  · rfl

end Sys2Proof
end

