-- ==== Sys2Proof/Laws/State.lean ====
section
/-!
SUPPORT. What each named update of the state leaves alone: one lemma a field an update, and the field it writes.
-/

namespace Sys2Proof.Machine

variable (s : State)

/-! ### modifyArm -/

@[simp] theorem State.modifyArm_clock (a : Fin 6) (f : Arm → Arm) : (s.modifyArm a f).clock = s.clock := rfl
@[simp] theorem State.modifyArm_permits (a : Fin 6) (f : Arm → Arm) : (s.modifyArm a f).permits = s.permits := rfl
@[simp] theorem State.modifyArm_products (a : Fin 6) (f : Arm → Arm) : (s.modifyArm a f).products = s.products := rfl
@[simp] theorem State.modifyArm_recipes (a : Fin 6) (f : Arm → Arm) : (s.modifyArm a f).recipes = s.recipes := rfl
@[simp] theorem State.modifyArm_orders (a : Fin 6) (f : Arm → Arm) : (s.modifyArm a f).orders = s.orders := rfl
@[simp] theorem State.modifyArm_gate (a : Fin 6) (f : Arm → Arm) : (s.modifyArm a f).gate = s.gate := rfl
@[simp] theorem State.modifyArm_probes (a : Fin 6) (f : Arm → Arm) : (s.modifyArm a f).probes = s.probes := rfl
@[simp] theorem State.modifyArm_injectors (a : Fin 6) (f : Arm → Arm) : (s.modifyArm a f).injectors = s.injectors := rfl
@[simp] theorem State.modifyArm_store (a : Fin 6) (f : Arm → Arm) : (s.modifyArm a f).store = s.store := rfl
@[simp] theorem State.modifyArm_journal (a : Fin 6) (f : Arm → Arm) : (s.modifyArm a f).journal = s.journal := rfl
@[simp] theorem State.modifyArm_bay (a : Fin 6) (f : Arm → Arm) : (s.modifyArm a f).bay = s.bay := rfl
@[simp] theorem State.modifyArm_terminal (a : Fin 6) (f : Arm → Arm) : (s.modifyArm a f).terminal = s.terminal := rfl
@[simp] theorem State.modifyArm_console (a : Fin 6) (f : Arm → Arm) : (s.modifyArm a f).console = s.console := rfl
@[simp] theorem State.modifyArm_pending (a : Fin 6) (f : Arm → Arm) : (s.modifyArm a f).pending = s.pending := rfl
@[simp] theorem State.modifyArm_due (a : Fin 6) (f : Arm → Arm) : (s.modifyArm a f).due = s.due := rfl
/-- Reading any arm after one arm changes. -/
@[simp] theorem State.arm_modifyArm (a b : Fin 6) (f : Arm → Arm) :
    (s.modifyArm a f).arm b = if b = a then f (s.arm b) else s.arm b := s.arms.get_modify a b f

/-! ### modifyInjector -/

@[simp] theorem State.modifyInjector_clock (i : Fin 8) (f : Injector → Injector) : (s.modifyInjector i f).clock = s.clock := rfl
@[simp] theorem State.modifyInjector_permits (i : Fin 8) (f : Injector → Injector) : (s.modifyInjector i f).permits = s.permits := rfl
@[simp] theorem State.modifyInjector_products (i : Fin 8) (f : Injector → Injector) : (s.modifyInjector i f).products = s.products := rfl
@[simp] theorem State.modifyInjector_recipes (i : Fin 8) (f : Injector → Injector) : (s.modifyInjector i f).recipes = s.recipes := rfl
@[simp] theorem State.modifyInjector_orders (i : Fin 8) (f : Injector → Injector) : (s.modifyInjector i f).orders = s.orders := rfl
@[simp] theorem State.modifyInjector_arms (i : Fin 8) (f : Injector → Injector) : (s.modifyInjector i f).arms = s.arms := rfl
@[simp] theorem State.modifyInjector_gate (i : Fin 8) (f : Injector → Injector) : (s.modifyInjector i f).gate = s.gate := rfl
@[simp] theorem State.modifyInjector_probes (i : Fin 8) (f : Injector → Injector) : (s.modifyInjector i f).probes = s.probes := rfl
@[simp] theorem State.modifyInjector_store (i : Fin 8) (f : Injector → Injector) : (s.modifyInjector i f).store = s.store := rfl
@[simp] theorem State.modifyInjector_journal (i : Fin 8) (f : Injector → Injector) : (s.modifyInjector i f).journal = s.journal := rfl
@[simp] theorem State.modifyInjector_bay (i : Fin 8) (f : Injector → Injector) : (s.modifyInjector i f).bay = s.bay := rfl
@[simp] theorem State.modifyInjector_terminal (i : Fin 8) (f : Injector → Injector) : (s.modifyInjector i f).terminal = s.terminal := rfl
@[simp] theorem State.modifyInjector_console (i : Fin 8) (f : Injector → Injector) : (s.modifyInjector i f).console = s.console := rfl
@[simp] theorem State.modifyInjector_pending (i : Fin 8) (f : Injector → Injector) : (s.modifyInjector i f).pending = s.pending := rfl
@[simp] theorem State.modifyInjector_due (i : Fin 8) (f : Injector → Injector) : (s.modifyInjector i f).due = s.due := rfl
/-- Reading any injector after one changes. -/
@[simp] theorem State.injector_modifyInjector (i j : Fin 8) (f : Injector → Injector) :
    (s.modifyInjector i f).injector j = if j = i then f (s.injector j) else s.injector j := s.injectors.get_modify i j f

/-! ### modifyMeterStore -/

@[simp] theorem State.modifyMeterStore_clock (a : Fin 6) (f : MeterStore → MeterStore) : (s.modifyMeterStore a f).clock = s.clock := rfl
@[simp] theorem State.modifyMeterStore_permits (a : Fin 6) (f : MeterStore → MeterStore) : (s.modifyMeterStore a f).permits = s.permits := rfl
@[simp] theorem State.modifyMeterStore_products (a : Fin 6) (f : MeterStore → MeterStore) : (s.modifyMeterStore a f).products = s.products := rfl
@[simp] theorem State.modifyMeterStore_recipes (a : Fin 6) (f : MeterStore → MeterStore) : (s.modifyMeterStore a f).recipes = s.recipes := rfl
@[simp] theorem State.modifyMeterStore_orders (a : Fin 6) (f : MeterStore → MeterStore) : (s.modifyMeterStore a f).orders = s.orders := rfl
@[simp] theorem State.modifyMeterStore_arms (a : Fin 6) (f : MeterStore → MeterStore) : (s.modifyMeterStore a f).arms = s.arms := rfl
@[simp] theorem State.modifyMeterStore_gate (a : Fin 6) (f : MeterStore → MeterStore) : (s.modifyMeterStore a f).gate = s.gate := rfl
@[simp] theorem State.modifyMeterStore_probes (a : Fin 6) (f : MeterStore → MeterStore) : (s.modifyMeterStore a f).probes = s.probes := rfl
@[simp] theorem State.modifyMeterStore_injectors (a : Fin 6) (f : MeterStore → MeterStore) : (s.modifyMeterStore a f).injectors = s.injectors := rfl
@[simp] theorem State.modifyMeterStore_journal (a : Fin 6) (f : MeterStore → MeterStore) : (s.modifyMeterStore a f).journal = s.journal := rfl
@[simp] theorem State.modifyMeterStore_bay (a : Fin 6) (f : MeterStore → MeterStore) : (s.modifyMeterStore a f).bay = s.bay := rfl
@[simp] theorem State.modifyMeterStore_terminal (a : Fin 6) (f : MeterStore → MeterStore) : (s.modifyMeterStore a f).terminal = s.terminal := rfl
@[simp] theorem State.modifyMeterStore_console (a : Fin 6) (f : MeterStore → MeterStore) : (s.modifyMeterStore a f).console = s.console := rfl
@[simp] theorem State.modifyMeterStore_pending (a : Fin 6) (f : MeterStore → MeterStore) : (s.modifyMeterStore a f).pending = s.pending := rfl
@[simp] theorem State.modifyMeterStore_due (a : Fin 6) (f : MeterStore → MeterStore) : (s.modifyMeterStore a f).due = s.due := rfl
/-- Reading any meter's store after one changes. -/
@[simp] theorem State.meterStore_modifyMeterStore (a b : Fin 6) (f : MeterStore → MeterStore) :
    (s.modifyMeterStore a f).meterStore b = if b = a then f (s.meterStore b) else s.meterStore b :=
  s.store.meters.get_modify a b f
@[simp] theorem State.modifyMeterStore_injectorStore (a : Fin 6) (f : MeterStore → MeterStore) (i : Fin 8) :
    (s.modifyMeterStore a f).injectorStore i = s.injectorStore i := rfl
@[simp] theorem State.modifyMeterStore_sealLevel (a : Fin 6) (f : MeterStore → MeterStore) :
    (s.modifyMeterStore a f).store.sealLevel = s.store.sealLevel := rfl
@[simp] theorem State.modifyMeterStore_counter (a : Fin 6) (f : MeterStore → MeterStore) :
    (s.modifyMeterStore a f).store.counter = s.store.counter := rfl

/-! ### modifyInjectorStore -/

@[simp] theorem State.modifyInjectorStore_clock (i : Fin 8) (f : InjectorStore → InjectorStore) : (s.modifyInjectorStore i f).clock = s.clock := rfl
@[simp] theorem State.modifyInjectorStore_permits (i : Fin 8) (f : InjectorStore → InjectorStore) : (s.modifyInjectorStore i f).permits = s.permits := rfl
@[simp] theorem State.modifyInjectorStore_products (i : Fin 8) (f : InjectorStore → InjectorStore) : (s.modifyInjectorStore i f).products = s.products := rfl
@[simp] theorem State.modifyInjectorStore_recipes (i : Fin 8) (f : InjectorStore → InjectorStore) : (s.modifyInjectorStore i f).recipes = s.recipes := rfl
@[simp] theorem State.modifyInjectorStore_orders (i : Fin 8) (f : InjectorStore → InjectorStore) : (s.modifyInjectorStore i f).orders = s.orders := rfl
@[simp] theorem State.modifyInjectorStore_arms (i : Fin 8) (f : InjectorStore → InjectorStore) : (s.modifyInjectorStore i f).arms = s.arms := rfl
@[simp] theorem State.modifyInjectorStore_gate (i : Fin 8) (f : InjectorStore → InjectorStore) : (s.modifyInjectorStore i f).gate = s.gate := rfl
@[simp] theorem State.modifyInjectorStore_probes (i : Fin 8) (f : InjectorStore → InjectorStore) : (s.modifyInjectorStore i f).probes = s.probes := rfl
@[simp] theorem State.modifyInjectorStore_injectors (i : Fin 8) (f : InjectorStore → InjectorStore) : (s.modifyInjectorStore i f).injectors = s.injectors := rfl
@[simp] theorem State.modifyInjectorStore_journal (i : Fin 8) (f : InjectorStore → InjectorStore) : (s.modifyInjectorStore i f).journal = s.journal := rfl
@[simp] theorem State.modifyInjectorStore_bay (i : Fin 8) (f : InjectorStore → InjectorStore) : (s.modifyInjectorStore i f).bay = s.bay := rfl
@[simp] theorem State.modifyInjectorStore_terminal (i : Fin 8) (f : InjectorStore → InjectorStore) : (s.modifyInjectorStore i f).terminal = s.terminal := rfl
@[simp] theorem State.modifyInjectorStore_console (i : Fin 8) (f : InjectorStore → InjectorStore) : (s.modifyInjectorStore i f).console = s.console := rfl
@[simp] theorem State.modifyInjectorStore_pending (i : Fin 8) (f : InjectorStore → InjectorStore) : (s.modifyInjectorStore i f).pending = s.pending := rfl
@[simp] theorem State.modifyInjectorStore_due (i : Fin 8) (f : InjectorStore → InjectorStore) : (s.modifyInjectorStore i f).due = s.due := rfl
/-- Reading any injector's store after one changes. -/
@[simp] theorem State.injectorStore_modifyInjectorStore (i j : Fin 8) (f : InjectorStore → InjectorStore) :
    (s.modifyInjectorStore i f).injectorStore j = if j = i then f (s.injectorStore j) else s.injectorStore j :=
  s.store.injectors.get_modify i j f
@[simp] theorem State.modifyInjectorStore_meterStore (i : Fin 8) (f : InjectorStore → InjectorStore) (a : Fin 6) :
    (s.modifyInjectorStore i f).meterStore a = s.meterStore a := rfl
@[simp] theorem State.modifyInjectorStore_meters (i : Fin 8) (f : InjectorStore → InjectorStore) :
    (s.modifyInjectorStore i f).store.meters = s.store.meters := rfl
@[simp] theorem State.modifyInjectorStore_sealLevel (i : Fin 8) (f : InjectorStore → InjectorStore) :
    (s.modifyInjectorStore i f).store.sealLevel = s.store.sealLevel := rfl
@[simp] theorem State.modifyInjectorStore_counter (i : Fin 8) (f : InjectorStore → InjectorStore) :
    (s.modifyInjectorStore i f).store.counter = s.store.counter := rfl

/-! ### setOrder -/

@[simp] theorem State.setOrder_clock (k : Fin 24) (o : Option Order) : (s.setOrder k o).clock = s.clock := rfl
@[simp] theorem State.setOrder_permits (k : Fin 24) (o : Option Order) : (s.setOrder k o).permits = s.permits := rfl
@[simp] theorem State.setOrder_products (k : Fin 24) (o : Option Order) : (s.setOrder k o).products = s.products := rfl
@[simp] theorem State.setOrder_recipes (k : Fin 24) (o : Option Order) : (s.setOrder k o).recipes = s.recipes := rfl
@[simp] theorem State.setOrder_arms (k : Fin 24) (o : Option Order) : (s.setOrder k o).arms = s.arms := rfl
@[simp] theorem State.setOrder_gate (k : Fin 24) (o : Option Order) : (s.setOrder k o).gate = s.gate := rfl
@[simp] theorem State.setOrder_probes (k : Fin 24) (o : Option Order) : (s.setOrder k o).probes = s.probes := rfl
@[simp] theorem State.setOrder_injectors (k : Fin 24) (o : Option Order) : (s.setOrder k o).injectors = s.injectors := rfl
@[simp] theorem State.setOrder_store (k : Fin 24) (o : Option Order) : (s.setOrder k o).store = s.store := rfl
@[simp] theorem State.setOrder_journal (k : Fin 24) (o : Option Order) : (s.setOrder k o).journal = s.journal := rfl
@[simp] theorem State.setOrder_bay (k : Fin 24) (o : Option Order) : (s.setOrder k o).bay = s.bay := rfl
@[simp] theorem State.setOrder_terminal (k : Fin 24) (o : Option Order) : (s.setOrder k o).terminal = s.terminal := rfl
@[simp] theorem State.setOrder_console (k : Fin 24) (o : Option Order) : (s.setOrder k o).console = s.console := rfl
@[simp] theorem State.setOrder_pending (k : Fin 24) (o : Option Order) : (s.setOrder k o).pending = s.pending := rfl
@[simp] theorem State.setOrder_due (k : Fin 24) (o : Option Order) : (s.setOrder k o).due = s.due := rfl
/-- Reading any slot after one is written. -/
@[simp] theorem State.order_setOrder (k m : Fin 24) (o : Option Order) :
    (s.setOrder k o).order m = if m = k then o else s.order m := s.orders.get_set k m o

/-! ### modifyOrder -/

@[simp] theorem State.modifyOrder_clock (k : Fin 24) (f : Order → Order) : (s.modifyOrder k f).clock = s.clock := rfl
@[simp] theorem State.modifyOrder_permits (k : Fin 24) (f : Order → Order) : (s.modifyOrder k f).permits = s.permits := rfl
@[simp] theorem State.modifyOrder_products (k : Fin 24) (f : Order → Order) : (s.modifyOrder k f).products = s.products := rfl
@[simp] theorem State.modifyOrder_recipes (k : Fin 24) (f : Order → Order) : (s.modifyOrder k f).recipes = s.recipes := rfl
@[simp] theorem State.modifyOrder_arms (k : Fin 24) (f : Order → Order) : (s.modifyOrder k f).arms = s.arms := rfl
@[simp] theorem State.modifyOrder_gate (k : Fin 24) (f : Order → Order) : (s.modifyOrder k f).gate = s.gate := rfl
@[simp] theorem State.modifyOrder_probes (k : Fin 24) (f : Order → Order) : (s.modifyOrder k f).probes = s.probes := rfl
@[simp] theorem State.modifyOrder_injectors (k : Fin 24) (f : Order → Order) : (s.modifyOrder k f).injectors = s.injectors := rfl
@[simp] theorem State.modifyOrder_store (k : Fin 24) (f : Order → Order) : (s.modifyOrder k f).store = s.store := rfl
@[simp] theorem State.modifyOrder_journal (k : Fin 24) (f : Order → Order) : (s.modifyOrder k f).journal = s.journal := rfl
@[simp] theorem State.modifyOrder_bay (k : Fin 24) (f : Order → Order) : (s.modifyOrder k f).bay = s.bay := rfl
@[simp] theorem State.modifyOrder_terminal (k : Fin 24) (f : Order → Order) : (s.modifyOrder k f).terminal = s.terminal := rfl
@[simp] theorem State.modifyOrder_console (k : Fin 24) (f : Order → Order) : (s.modifyOrder k f).console = s.console := rfl
@[simp] theorem State.modifyOrder_pending (k : Fin 24) (f : Order → Order) : (s.modifyOrder k f).pending = s.pending := rfl
@[simp] theorem State.modifyOrder_due (k : Fin 24) (f : Order → Order) : (s.modifyOrder k f).due = s.due := rfl
/-- Reading any slot after one order changes. -/
@[simp] theorem State.order_modifyOrder (k m : Fin 24) (f : Order → Order) :
    (s.modifyOrder k f).order m = if m = k then (s.order m).map f else s.order m := s.orders.get_modify k m _

/-! ### modifyLine -/

@[simp] theorem State.modifyLine_clock (ref : LineRef) (f : Line → Line) : (s.modifyLine ref f).clock = s.clock := rfl
@[simp] theorem State.modifyLine_permits (ref : LineRef) (f : Line → Line) : (s.modifyLine ref f).permits = s.permits := rfl
@[simp] theorem State.modifyLine_products (ref : LineRef) (f : Line → Line) : (s.modifyLine ref f).products = s.products := rfl
@[simp] theorem State.modifyLine_recipes (ref : LineRef) (f : Line → Line) : (s.modifyLine ref f).recipes = s.recipes := rfl
@[simp] theorem State.modifyLine_arms (ref : LineRef) (f : Line → Line) : (s.modifyLine ref f).arms = s.arms := rfl
@[simp] theorem State.modifyLine_gate (ref : LineRef) (f : Line → Line) : (s.modifyLine ref f).gate = s.gate := rfl
@[simp] theorem State.modifyLine_probes (ref : LineRef) (f : Line → Line) : (s.modifyLine ref f).probes = s.probes := rfl
@[simp] theorem State.modifyLine_injectors (ref : LineRef) (f : Line → Line) : (s.modifyLine ref f).injectors = s.injectors := rfl
@[simp] theorem State.modifyLine_store (ref : LineRef) (f : Line → Line) : (s.modifyLine ref f).store = s.store := rfl
@[simp] theorem State.modifyLine_journal (ref : LineRef) (f : Line → Line) : (s.modifyLine ref f).journal = s.journal := rfl
@[simp] theorem State.modifyLine_bay (ref : LineRef) (f : Line → Line) : (s.modifyLine ref f).bay = s.bay := rfl
@[simp] theorem State.modifyLine_terminal (ref : LineRef) (f : Line → Line) : (s.modifyLine ref f).terminal = s.terminal := rfl
@[simp] theorem State.modifyLine_console (ref : LineRef) (f : Line → Line) : (s.modifyLine ref f).console = s.console := rfl
@[simp] theorem State.modifyLine_pending (ref : LineRef) (f : Line → Line) : (s.modifyLine ref f).pending = s.pending := rfl
@[simp] theorem State.modifyLine_due (ref : LineRef) (f : Line → Line) : (s.modifyLine ref f).due = s.due := rfl

/-! ### modifyDeadman -/

@[simp] theorem State.modifyDeadman_clock (f : Deadman → Deadman) : (s.modifyDeadman f).clock = s.clock := rfl
@[simp] theorem State.modifyDeadman_permits (f : Deadman → Deadman) : (s.modifyDeadman f).permits = s.permits := rfl
@[simp] theorem State.modifyDeadman_products (f : Deadman → Deadman) : (s.modifyDeadman f).products = s.products := rfl
@[simp] theorem State.modifyDeadman_recipes (f : Deadman → Deadman) : (s.modifyDeadman f).recipes = s.recipes := rfl
@[simp] theorem State.modifyDeadman_orders (f : Deadman → Deadman) : (s.modifyDeadman f).orders = s.orders := rfl
@[simp] theorem State.modifyDeadman_arms (f : Deadman → Deadman) : (s.modifyDeadman f).arms = s.arms := rfl
@[simp] theorem State.modifyDeadman_gate (f : Deadman → Deadman) : (s.modifyDeadman f).gate = s.gate := rfl
@[simp] theorem State.modifyDeadman_probes (f : Deadman → Deadman) : (s.modifyDeadman f).probes = s.probes := rfl
@[simp] theorem State.modifyDeadman_injectors (f : Deadman → Deadman) : (s.modifyDeadman f).injectors = s.injectors := rfl
@[simp] theorem State.modifyDeadman_store (f : Deadman → Deadman) : (s.modifyDeadman f).store = s.store := rfl
@[simp] theorem State.modifyDeadman_journal (f : Deadman → Deadman) : (s.modifyDeadman f).journal = s.journal := rfl
@[simp] theorem State.modifyDeadman_terminal (f : Deadman → Deadman) : (s.modifyDeadman f).terminal = s.terminal := rfl
@[simp] theorem State.modifyDeadman_console (f : Deadman → Deadman) : (s.modifyDeadman f).console = s.console := rfl
@[simp] theorem State.modifyDeadman_pending (f : Deadman → Deadman) : (s.modifyDeadman f).pending = s.pending := rfl
@[simp] theorem State.modifyDeadman_due (f : Deadman → Deadman) : (s.modifyDeadman f).due = s.due := rfl
@[simp] theorem State.modifyDeadman_deadman (f : Deadman → Deadman) :
    (s.modifyDeadman f).bay.deadman = f s.bay.deadman := rfl
@[simp] theorem State.modifyDeadman_bay_ground (f : Deadman → Deadman) : (s.modifyDeadman f).bay.ground = s.bay.ground := rfl
@[simp] theorem State.modifyDeadman_bay_overfill (f : Deadman → Deadman) : (s.modifyDeadman f).bay.overfill = s.bay.overfill := rfl
@[simp] theorem State.modifyDeadman_bay_stop (f : Deadman → Deadman) : (s.modifyDeadman f).bay.stop = s.bay.stop := rfl
@[simp] theorem State.modifyDeadman_bay_switch (f : Deadman → Deadman) : (s.modifyDeadman f).bay.switch = s.bay.switch := rfl
@[simp] theorem State.modifyDeadman_bay_powerFail (f : Deadman → Deadman) : (s.modifyDeadman f).bay.powerFail = s.bay.powerFail := rfl
@[simp] theorem State.modifyDeadman_bay_saved (f : Deadman → Deadman) : (s.modifyDeadman f).bay.saved = s.bay.saved := rfl

/-! ### modifyStop -/

@[simp] theorem State.modifyStop_clock (f : StopInput → StopInput) : (s.modifyStop f).clock = s.clock := rfl
@[simp] theorem State.modifyStop_permits (f : StopInput → StopInput) : (s.modifyStop f).permits = s.permits := rfl
@[simp] theorem State.modifyStop_products (f : StopInput → StopInput) : (s.modifyStop f).products = s.products := rfl
@[simp] theorem State.modifyStop_recipes (f : StopInput → StopInput) : (s.modifyStop f).recipes = s.recipes := rfl
@[simp] theorem State.modifyStop_orders (f : StopInput → StopInput) : (s.modifyStop f).orders = s.orders := rfl
@[simp] theorem State.modifyStop_arms (f : StopInput → StopInput) : (s.modifyStop f).arms = s.arms := rfl
@[simp] theorem State.modifyStop_gate (f : StopInput → StopInput) : (s.modifyStop f).gate = s.gate := rfl
@[simp] theorem State.modifyStop_probes (f : StopInput → StopInput) : (s.modifyStop f).probes = s.probes := rfl
@[simp] theorem State.modifyStop_injectors (f : StopInput → StopInput) : (s.modifyStop f).injectors = s.injectors := rfl
@[simp] theorem State.modifyStop_store (f : StopInput → StopInput) : (s.modifyStop f).store = s.store := rfl
@[simp] theorem State.modifyStop_journal (f : StopInput → StopInput) : (s.modifyStop f).journal = s.journal := rfl
@[simp] theorem State.modifyStop_terminal (f : StopInput → StopInput) : (s.modifyStop f).terminal = s.terminal := rfl
@[simp] theorem State.modifyStop_console (f : StopInput → StopInput) : (s.modifyStop f).console = s.console := rfl
@[simp] theorem State.modifyStop_pending (f : StopInput → StopInput) : (s.modifyStop f).pending = s.pending := rfl
@[simp] theorem State.modifyStop_due (f : StopInput → StopInput) : (s.modifyStop f).due = s.due := rfl
@[simp] theorem State.modifyStop_bay_ground (f : StopInput → StopInput) : (s.modifyStop f).bay.ground = s.bay.ground := rfl
@[simp] theorem State.modifyStop_bay_overfill (f : StopInput → StopInput) : (s.modifyStop f).bay.overfill = s.bay.overfill := rfl
@[simp] theorem State.modifyStop_bay_deadman (f : StopInput → StopInput) : (s.modifyStop f).bay.deadman = s.bay.deadman := rfl
@[simp] theorem State.modifyStop_bay_switch (f : StopInput → StopInput) : (s.modifyStop f).bay.switch = s.bay.switch := rfl
@[simp] theorem State.modifyStop_bay_powerFail (f : StopInput → StopInput) : (s.modifyStop f).bay.powerFail = s.bay.powerFail := rfl
@[simp] theorem State.modifyStop_bay_saved (f : StopInput → StopInput) : (s.modifyStop f).bay.saved = s.bay.saved := rfl
@[simp] theorem State.modifyStop_stop (f : StopInput → StopInput) : (s.modifyStop f).bay.stop = f s.bay.stop := rfl

/-! ### modifyPermit -/

@[simp] theorem State.modifyPermit_clock (e : Fin 200) (f : Permit → Permit) : (s.modifyPermit e f).clock = s.clock := rfl
@[simp] theorem State.modifyPermit_products (e : Fin 200) (f : Permit → Permit) : (s.modifyPermit e f).products = s.products := rfl
@[simp] theorem State.modifyPermit_recipes (e : Fin 200) (f : Permit → Permit) : (s.modifyPermit e f).recipes = s.recipes := rfl
@[simp] theorem State.modifyPermit_orders (e : Fin 200) (f : Permit → Permit) : (s.modifyPermit e f).orders = s.orders := rfl
@[simp] theorem State.modifyPermit_arms (e : Fin 200) (f : Permit → Permit) : (s.modifyPermit e f).arms = s.arms := rfl
@[simp] theorem State.modifyPermit_gate (e : Fin 200) (f : Permit → Permit) : (s.modifyPermit e f).gate = s.gate := rfl
@[simp] theorem State.modifyPermit_probes (e : Fin 200) (f : Permit → Permit) : (s.modifyPermit e f).probes = s.probes := rfl
@[simp] theorem State.modifyPermit_injectors (e : Fin 200) (f : Permit → Permit) : (s.modifyPermit e f).injectors = s.injectors := rfl
@[simp] theorem State.modifyPermit_store (e : Fin 200) (f : Permit → Permit) : (s.modifyPermit e f).store = s.store := rfl
@[simp] theorem State.modifyPermit_journal (e : Fin 200) (f : Permit → Permit) : (s.modifyPermit e f).journal = s.journal := rfl
@[simp] theorem State.modifyPermit_bay (e : Fin 200) (f : Permit → Permit) : (s.modifyPermit e f).bay = s.bay := rfl
@[simp] theorem State.modifyPermit_terminal (e : Fin 200) (f : Permit → Permit) : (s.modifyPermit e f).terminal = s.terminal := rfl
@[simp] theorem State.modifyPermit_console (e : Fin 200) (f : Permit → Permit) : (s.modifyPermit e f).console = s.console := rfl
@[simp] theorem State.modifyPermit_pending (e : Fin 200) (f : Permit → Permit) : (s.modifyPermit e f).pending = s.pending := rfl
@[simp] theorem State.modifyPermit_due (e : Fin 200) (f : Permit → Permit) : (s.modifyPermit e f).due = s.due := rfl

/-! ### endClaim -/

@[simp] theorem State.endClaim_clock (num : Option Nat) : (s.endClaim num).clock = s.clock := rfl
@[simp] theorem State.endClaim_products (num : Option Nat) : (s.endClaim num).products = s.products := rfl
@[simp] theorem State.endClaim_recipes (num : Option Nat) : (s.endClaim num).recipes = s.recipes := rfl
@[simp] theorem State.endClaim_orders (num : Option Nat) : (s.endClaim num).orders = s.orders := rfl
@[simp] theorem State.endClaim_arms (num : Option Nat) : (s.endClaim num).arms = s.arms := rfl
@[simp] theorem State.endClaim_gate (num : Option Nat) : (s.endClaim num).gate = s.gate := rfl
@[simp] theorem State.endClaim_probes (num : Option Nat) : (s.endClaim num).probes = s.probes := rfl
@[simp] theorem State.endClaim_injectors (num : Option Nat) : (s.endClaim num).injectors = s.injectors := rfl
@[simp] theorem State.endClaim_store (num : Option Nat) : (s.endClaim num).store = s.store := rfl
@[simp] theorem State.endClaim_journal (num : Option Nat) : (s.endClaim num).journal = s.journal := rfl
@[simp] theorem State.endClaim_bay (num : Option Nat) : (s.endClaim num).bay = s.bay := rfl
@[simp] theorem State.endClaim_terminal (num : Option Nat) : (s.endClaim num).terminal = s.terminal := rfl
@[simp] theorem State.endClaim_console (num : Option Nat) : (s.endClaim num).console = s.console := rfl
@[simp] theorem State.endClaim_pending (num : Option Nat) : (s.endClaim num).pending = s.pending := rfl
@[simp] theorem State.endClaim_due (num : Option Nat) : (s.endClaim num).due = s.due := rfl

/-! ### setSlots -/

@[simp] theorem State.setSlots_clock (t : Table 48 JournalSlot) : (s.setSlots t).clock = s.clock := rfl
@[simp] theorem State.setSlots_permits (t : Table 48 JournalSlot) : (s.setSlots t).permits = s.permits := rfl
@[simp] theorem State.setSlots_products (t : Table 48 JournalSlot) : (s.setSlots t).products = s.products := rfl
@[simp] theorem State.setSlots_recipes (t : Table 48 JournalSlot) : (s.setSlots t).recipes = s.recipes := rfl
@[simp] theorem State.setSlots_orders (t : Table 48 JournalSlot) : (s.setSlots t).orders = s.orders := rfl
@[simp] theorem State.setSlots_arms (t : Table 48 JournalSlot) : (s.setSlots t).arms = s.arms := rfl
@[simp] theorem State.setSlots_gate (t : Table 48 JournalSlot) : (s.setSlots t).gate = s.gate := rfl
@[simp] theorem State.setSlots_probes (t : Table 48 JournalSlot) : (s.setSlots t).probes = s.probes := rfl
@[simp] theorem State.setSlots_injectors (t : Table 48 JournalSlot) : (s.setSlots t).injectors = s.injectors := rfl
@[simp] theorem State.setSlots_store (t : Table 48 JournalSlot) : (s.setSlots t).store = s.store := rfl
@[simp] theorem State.setSlots_bay (t : Table 48 JournalSlot) : (s.setSlots t).bay = s.bay := rfl
@[simp] theorem State.setSlots_terminal (t : Table 48 JournalSlot) : (s.setSlots t).terminal = s.terminal := rfl
@[simp] theorem State.setSlots_console (t : Table 48 JournalSlot) : (s.setSlots t).console = s.console := rfl
@[simp] theorem State.setSlots_pending (t : Table 48 JournalSlot) : (s.setSlots t).pending = s.pending := rfl
@[simp] theorem State.setSlots_due (t : Table 48 JournalSlot) : (s.setSlots t).due = s.due := rfl

/-! ### raise -/

@[simp] theorem State.raise_clock (k : NoticeKind) (subject : Nat) : (s.raise k subject).clock = s.clock := rfl
@[simp] theorem State.raise_permits (k : NoticeKind) (subject : Nat) : (s.raise k subject).permits = s.permits := rfl
@[simp] theorem State.raise_products (k : NoticeKind) (subject : Nat) : (s.raise k subject).products = s.products := rfl
@[simp] theorem State.raise_recipes (k : NoticeKind) (subject : Nat) : (s.raise k subject).recipes = s.recipes := rfl
@[simp] theorem State.raise_orders (k : NoticeKind) (subject : Nat) : (s.raise k subject).orders = s.orders := rfl
@[simp] theorem State.raise_arms (k : NoticeKind) (subject : Nat) : (s.raise k subject).arms = s.arms := rfl
@[simp] theorem State.raise_gate (k : NoticeKind) (subject : Nat) : (s.raise k subject).gate = s.gate := rfl
@[simp] theorem State.raise_probes (k : NoticeKind) (subject : Nat) : (s.raise k subject).probes = s.probes := rfl
@[simp] theorem State.raise_injectors (k : NoticeKind) (subject : Nat) : (s.raise k subject).injectors = s.injectors := rfl
@[simp] theorem State.raise_store (k : NoticeKind) (subject : Nat) : (s.raise k subject).store = s.store := rfl
@[simp] theorem State.raise_journal (k : NoticeKind) (subject : Nat) : (s.raise k subject).journal = s.journal := rfl
@[simp] theorem State.raise_bay (k : NoticeKind) (subject : Nat) : (s.raise k subject).bay = s.bay := rfl
@[simp] theorem State.raise_pending (k : NoticeKind) (subject : Nat) : (s.raise k subject).pending = s.pending := rfl
@[simp] theorem State.raise_due (k : NoticeKind) (subject : Nat) : (s.raise k subject).due = s.due := rfl
/-- What a raising does to either port (R184). -/
@[simp] theorem State.port_raise (k : NoticeKind) (subject : Nat) (p : PortId) :
    (s.raise k subject).port p = (s.port p).raise k subject s.now := by cases p <;> rfl

/-! ### modifyDosing -/

@[simp] theorem State.modifyDosing_clock (a : Fin 6) (f : DosingRecord → DosingRecord) : (s.modifyDosing a f).clock = s.clock := rfl
@[simp] theorem State.modifyDosing_permits (a : Fin 6) (f : DosingRecord → DosingRecord) : (s.modifyDosing a f).permits = s.permits := rfl
@[simp] theorem State.modifyDosing_products (a : Fin 6) (f : DosingRecord → DosingRecord) : (s.modifyDosing a f).products = s.products := rfl
@[simp] theorem State.modifyDosing_recipes (a : Fin 6) (f : DosingRecord → DosingRecord) : (s.modifyDosing a f).recipes = s.recipes := rfl
@[simp] theorem State.modifyDosing_orders (a : Fin 6) (f : DosingRecord → DosingRecord) : (s.modifyDosing a f).orders = s.orders := rfl
@[simp] theorem State.modifyDosing_gate (a : Fin 6) (f : DosingRecord → DosingRecord) : (s.modifyDosing a f).gate = s.gate := rfl
@[simp] theorem State.modifyDosing_probes (a : Fin 6) (f : DosingRecord → DosingRecord) : (s.modifyDosing a f).probes = s.probes := rfl
@[simp] theorem State.modifyDosing_injectors (a : Fin 6) (f : DosingRecord → DosingRecord) : (s.modifyDosing a f).injectors = s.injectors := rfl
@[simp] theorem State.modifyDosing_store (a : Fin 6) (f : DosingRecord → DosingRecord) : (s.modifyDosing a f).store = s.store := rfl
@[simp] theorem State.modifyDosing_journal (a : Fin 6) (f : DosingRecord → DosingRecord) : (s.modifyDosing a f).journal = s.journal := rfl
@[simp] theorem State.modifyDosing_bay (a : Fin 6) (f : DosingRecord → DosingRecord) : (s.modifyDosing a f).bay = s.bay := rfl
@[simp] theorem State.modifyDosing_terminal (a : Fin 6) (f : DosingRecord → DosingRecord) : (s.modifyDosing a f).terminal = s.terminal := rfl
@[simp] theorem State.modifyDosing_console (a : Fin 6) (f : DosingRecord → DosingRecord) : (s.modifyDosing a f).console = s.console := rfl
@[simp] theorem State.modifyDosing_pending (a : Fin 6) (f : DosingRecord → DosingRecord) : (s.modifyDosing a f).pending = s.pending := rfl
@[simp] theorem State.modifyDosing_due (a : Fin 6) (f : DosingRecord → DosingRecord) : (s.modifyDosing a f).due = s.due := rfl

/-! ### modifyDecoder -/

@[simp] theorem State.modifyDecoder_clock (a : Fin 6) (f : Decoder → Decoder) : (s.modifyDecoder a f).clock = s.clock := rfl
@[simp] theorem State.modifyDecoder_permits (a : Fin 6) (f : Decoder → Decoder) : (s.modifyDecoder a f).permits = s.permits := rfl
@[simp] theorem State.modifyDecoder_products (a : Fin 6) (f : Decoder → Decoder) : (s.modifyDecoder a f).products = s.products := rfl
@[simp] theorem State.modifyDecoder_recipes (a : Fin 6) (f : Decoder → Decoder) : (s.modifyDecoder a f).recipes = s.recipes := rfl
@[simp] theorem State.modifyDecoder_orders (a : Fin 6) (f : Decoder → Decoder) : (s.modifyDecoder a f).orders = s.orders := rfl
@[simp] theorem State.modifyDecoder_gate (a : Fin 6) (f : Decoder → Decoder) : (s.modifyDecoder a f).gate = s.gate := rfl
@[simp] theorem State.modifyDecoder_probes (a : Fin 6) (f : Decoder → Decoder) : (s.modifyDecoder a f).probes = s.probes := rfl
@[simp] theorem State.modifyDecoder_injectors (a : Fin 6) (f : Decoder → Decoder) : (s.modifyDecoder a f).injectors = s.injectors := rfl
@[simp] theorem State.modifyDecoder_store (a : Fin 6) (f : Decoder → Decoder) : (s.modifyDecoder a f).store = s.store := rfl
@[simp] theorem State.modifyDecoder_journal (a : Fin 6) (f : Decoder → Decoder) : (s.modifyDecoder a f).journal = s.journal := rfl
@[simp] theorem State.modifyDecoder_bay (a : Fin 6) (f : Decoder → Decoder) : (s.modifyDecoder a f).bay = s.bay := rfl
@[simp] theorem State.modifyDecoder_terminal (a : Fin 6) (f : Decoder → Decoder) : (s.modifyDecoder a f).terminal = s.terminal := rfl
@[simp] theorem State.modifyDecoder_console (a : Fin 6) (f : Decoder → Decoder) : (s.modifyDecoder a f).console = s.console := rfl
@[simp] theorem State.modifyDecoder_pending (a : Fin 6) (f : Decoder → Decoder) : (s.modifyDecoder a f).pending = s.pending := rfl
@[simp] theorem State.modifyDecoder_due (a : Fin 6) (f : Decoder → Decoder) : (s.modifyDecoder a f).due = s.due := rfl

/-! ### setPosition -/

@[simp] theorem State.setPosition_clock (a : Fin 6) (p : Fin 2) (i : Option (Fin 8)) : (s.setPosition a p i).clock = s.clock := rfl
@[simp] theorem State.setPosition_permits (a : Fin 6) (p : Fin 2) (i : Option (Fin 8)) : (s.setPosition a p i).permits = s.permits := rfl
@[simp] theorem State.setPosition_products (a : Fin 6) (p : Fin 2) (i : Option (Fin 8)) : (s.setPosition a p i).products = s.products := rfl
@[simp] theorem State.setPosition_recipes (a : Fin 6) (p : Fin 2) (i : Option (Fin 8)) : (s.setPosition a p i).recipes = s.recipes := rfl
@[simp] theorem State.setPosition_orders (a : Fin 6) (p : Fin 2) (i : Option (Fin 8)) : (s.setPosition a p i).orders = s.orders := rfl
@[simp] theorem State.setPosition_gate (a : Fin 6) (p : Fin 2) (i : Option (Fin 8)) : (s.setPosition a p i).gate = s.gate := rfl
@[simp] theorem State.setPosition_probes (a : Fin 6) (p : Fin 2) (i : Option (Fin 8)) : (s.setPosition a p i).probes = s.probes := rfl
@[simp] theorem State.setPosition_injectors (a : Fin 6) (p : Fin 2) (i : Option (Fin 8)) : (s.setPosition a p i).injectors = s.injectors := rfl
@[simp] theorem State.setPosition_store (a : Fin 6) (p : Fin 2) (i : Option (Fin 8)) : (s.setPosition a p i).store = s.store := rfl
@[simp] theorem State.setPosition_journal (a : Fin 6) (p : Fin 2) (i : Option (Fin 8)) : (s.setPosition a p i).journal = s.journal := rfl
@[simp] theorem State.setPosition_bay (a : Fin 6) (p : Fin 2) (i : Option (Fin 8)) : (s.setPosition a p i).bay = s.bay := rfl
@[simp] theorem State.setPosition_terminal (a : Fin 6) (p : Fin 2) (i : Option (Fin 8)) : (s.setPosition a p i).terminal = s.terminal := rfl
@[simp] theorem State.setPosition_console (a : Fin 6) (p : Fin 2) (i : Option (Fin 8)) : (s.setPosition a p i).console = s.console := rfl
@[simp] theorem State.setPosition_pending (a : Fin 6) (p : Fin 2) (i : Option (Fin 8)) : (s.setPosition a p i).pending = s.pending := rfl
@[simp] theorem State.setPosition_due (a : Fin 6) (p : Fin 2) (i : Option (Fin 8)) : (s.setPosition a p i).due = s.due := rfl

/-! ### clearHold -/

@[simp] theorem State.clearHold_clock (a : Fin 6) (c : HoldCause) : (s.clearHold a c).clock = s.clock := rfl
@[simp] theorem State.clearHold_permits (a : Fin 6) (c : HoldCause) : (s.clearHold a c).permits = s.permits := rfl
@[simp] theorem State.clearHold_products (a : Fin 6) (c : HoldCause) : (s.clearHold a c).products = s.products := rfl
@[simp] theorem State.clearHold_recipes (a : Fin 6) (c : HoldCause) : (s.clearHold a c).recipes = s.recipes := rfl
@[simp] theorem State.clearHold_orders (a : Fin 6) (c : HoldCause) : (s.clearHold a c).orders = s.orders := rfl
@[simp] theorem State.clearHold_gate (a : Fin 6) (c : HoldCause) : (s.clearHold a c).gate = s.gate := rfl
@[simp] theorem State.clearHold_probes (a : Fin 6) (c : HoldCause) : (s.clearHold a c).probes = s.probes := rfl
@[simp] theorem State.clearHold_injectors (a : Fin 6) (c : HoldCause) : (s.clearHold a c).injectors = s.injectors := rfl
@[simp] theorem State.clearHold_store (a : Fin 6) (c : HoldCause) : (s.clearHold a c).store = s.store := rfl
@[simp] theorem State.clearHold_journal (a : Fin 6) (c : HoldCause) : (s.clearHold a c).journal = s.journal := rfl
@[simp] theorem State.clearHold_bay (a : Fin 6) (c : HoldCause) : (s.clearHold a c).bay = s.bay := rfl
@[simp] theorem State.clearHold_terminal (a : Fin 6) (c : HoldCause) : (s.clearHold a c).terminal = s.terminal := rfl
@[simp] theorem State.clearHold_console (a : Fin 6) (c : HoldCause) : (s.clearHold a c).console = s.console := rfl
@[simp] theorem State.clearHold_pending (a : Fin 6) (c : HoldCause) : (s.clearHold a c).pending = s.pending := rfl
@[simp] theorem State.clearHold_due (a : Fin 6) (c : HoldCause) : (s.clearHold a c).due = s.due := rfl

/-! ### modifyPort and send -/

@[simp] theorem State.modifyPort_clock (p : PortId) (f : Port → Port) : (s.modifyPort p f).clock = s.clock := by
  cases p <;> rfl
@[simp] theorem State.modifyPort_permits (p : PortId) (f : Port → Port) : (s.modifyPort p f).permits = s.permits := by
  cases p <;> rfl
@[simp] theorem State.modifyPort_products (p : PortId) (f : Port → Port) : (s.modifyPort p f).products = s.products := by
  cases p <;> rfl
@[simp] theorem State.modifyPort_recipes (p : PortId) (f : Port → Port) : (s.modifyPort p f).recipes = s.recipes := by
  cases p <;> rfl
@[simp] theorem State.modifyPort_orders (p : PortId) (f : Port → Port) : (s.modifyPort p f).orders = s.orders := by
  cases p <;> rfl
@[simp] theorem State.modifyPort_arms (p : PortId) (f : Port → Port) : (s.modifyPort p f).arms = s.arms := by
  cases p <;> rfl
@[simp] theorem State.modifyPort_gate (p : PortId) (f : Port → Port) : (s.modifyPort p f).gate = s.gate := by
  cases p <;> rfl
@[simp] theorem State.modifyPort_probes (p : PortId) (f : Port → Port) : (s.modifyPort p f).probes = s.probes := by
  cases p <;> rfl
@[simp] theorem State.modifyPort_injectors (p : PortId) (f : Port → Port) : (s.modifyPort p f).injectors = s.injectors := by
  cases p <;> rfl
@[simp] theorem State.modifyPort_store (p : PortId) (f : Port → Port) : (s.modifyPort p f).store = s.store := by
  cases p <;> rfl
@[simp] theorem State.modifyPort_journal (p : PortId) (f : Port → Port) : (s.modifyPort p f).journal = s.journal := by
  cases p <;> rfl
@[simp] theorem State.modifyPort_bay (p : PortId) (f : Port → Port) : (s.modifyPort p f).bay = s.bay := by
  cases p <;> rfl
@[simp] theorem State.modifyPort_pending (p : PortId) (f : Port → Port) : (s.modifyPort p f).pending = s.pending := by
  cases p <;> rfl
@[simp] theorem State.modifyPort_due (p : PortId) (f : Port → Port) : (s.modifyPort p f).due = s.due := by
  cases p <;> rfl
/-- Reading any port after one changes. -/
@[simp] theorem State.port_modifyPort (p q : PortId) (f : Port → Port) :
    (s.modifyPort p f).port q = if q = p then f (s.port q) else s.port q := by cases p <;> cases q <;> rfl
@[simp] theorem State.send_clock (p : PortId) (tag code : Byte) (body : List Byte) :
    (s.send p tag code body).clock = s.clock := by cases p <;> rfl
@[simp] theorem State.send_permits (p : PortId) (tag code : Byte) (body : List Byte) :
    (s.send p tag code body).permits = s.permits := by cases p <;> rfl
@[simp] theorem State.send_products (p : PortId) (tag code : Byte) (body : List Byte) :
    (s.send p tag code body).products = s.products := by cases p <;> rfl
@[simp] theorem State.send_recipes (p : PortId) (tag code : Byte) (body : List Byte) :
    (s.send p tag code body).recipes = s.recipes := by cases p <;> rfl
@[simp] theorem State.send_orders (p : PortId) (tag code : Byte) (body : List Byte) :
    (s.send p tag code body).orders = s.orders := by cases p <;> rfl
@[simp] theorem State.send_arms (p : PortId) (tag code : Byte) (body : List Byte) :
    (s.send p tag code body).arms = s.arms := by cases p <;> rfl
@[simp] theorem State.send_gate (p : PortId) (tag code : Byte) (body : List Byte) :
    (s.send p tag code body).gate = s.gate := by cases p <;> rfl
@[simp] theorem State.send_probes (p : PortId) (tag code : Byte) (body : List Byte) :
    (s.send p tag code body).probes = s.probes := by cases p <;> rfl
@[simp] theorem State.send_injectors (p : PortId) (tag code : Byte) (body : List Byte) :
    (s.send p tag code body).injectors = s.injectors := by cases p <;> rfl
@[simp] theorem State.send_store (p : PortId) (tag code : Byte) (body : List Byte) :
    (s.send p tag code body).store = s.store := by cases p <;> rfl
@[simp] theorem State.send_journal (p : PortId) (tag code : Byte) (body : List Byte) :
    (s.send p tag code body).journal = s.journal := by cases p <;> rfl
@[simp] theorem State.send_bay (p : PortId) (tag code : Byte) (body : List Byte) :
    (s.send p tag code body).bay = s.bay := by cases p <;> rfl
@[simp] theorem State.send_pending (p : PortId) (tag code : Byte) (body : List Byte) :
    (s.send p tag code body).pending = s.pending := by cases p <;> rfl
@[simp] theorem State.send_due (p : PortId) (tag code : Byte) (body : List Byte) :
    (s.send p tag code body).due = s.due := by cases p <;> rfl
/-- Reading any port after a reply is sent: the reply is the transmission of its port. -/
@[simp] theorem State.port_send (p q : PortId) (tag code : Byte) (body : List Byte) :
    (s.send p tag code body).port q =
      if q = p then { s.port q with transmit := some (replyFrame tag code body) } else s.port q := by
  cases p <;> cases q <;> rfl

/-! ### modifyPermissive -/

@[simp] theorem State.modifyPermissive_clock (i : Permissive) (f : PermissiveInput → PermissiveInput) :
    (s.modifyPermissive i f).clock = s.clock := by cases i <;> rfl
@[simp] theorem State.modifyPermissive_permits (i : Permissive) (f : PermissiveInput → PermissiveInput) :
    (s.modifyPermissive i f).permits = s.permits := by cases i <;> rfl
@[simp] theorem State.modifyPermissive_products (i : Permissive) (f : PermissiveInput → PermissiveInput) :
    (s.modifyPermissive i f).products = s.products := by cases i <;> rfl
@[simp] theorem State.modifyPermissive_recipes (i : Permissive) (f : PermissiveInput → PermissiveInput) :
    (s.modifyPermissive i f).recipes = s.recipes := by cases i <;> rfl
@[simp] theorem State.modifyPermissive_orders (i : Permissive) (f : PermissiveInput → PermissiveInput) :
    (s.modifyPermissive i f).orders = s.orders := by cases i <;> rfl
@[simp] theorem State.modifyPermissive_arms (i : Permissive) (f : PermissiveInput → PermissiveInput) :
    (s.modifyPermissive i f).arms = s.arms := by cases i <;> rfl
@[simp] theorem State.modifyPermissive_gate (i : Permissive) (f : PermissiveInput → PermissiveInput) :
    (s.modifyPermissive i f).gate = s.gate := by cases i <;> rfl
@[simp] theorem State.modifyPermissive_probes (i : Permissive) (f : PermissiveInput → PermissiveInput) :
    (s.modifyPermissive i f).probes = s.probes := by cases i <;> rfl
@[simp] theorem State.modifyPermissive_injectors (i : Permissive) (f : PermissiveInput → PermissiveInput) :
    (s.modifyPermissive i f).injectors = s.injectors := by cases i <;> rfl
@[simp] theorem State.modifyPermissive_store (i : Permissive) (f : PermissiveInput → PermissiveInput) :
    (s.modifyPermissive i f).store = s.store := by cases i <;> rfl
@[simp] theorem State.modifyPermissive_journal (i : Permissive) (f : PermissiveInput → PermissiveInput) :
    (s.modifyPermissive i f).journal = s.journal := by cases i <;> rfl
@[simp] theorem State.modifyPermissive_terminal (i : Permissive) (f : PermissiveInput → PermissiveInput) :
    (s.modifyPermissive i f).terminal = s.terminal := by cases i <;> rfl
@[simp] theorem State.modifyPermissive_console (i : Permissive) (f : PermissiveInput → PermissiveInput) :
    (s.modifyPermissive i f).console = s.console := by cases i <;> rfl
@[simp] theorem State.modifyPermissive_pending (i : Permissive) (f : PermissiveInput → PermissiveInput) :
    (s.modifyPermissive i f).pending = s.pending := by cases i <;> rfl
@[simp] theorem State.modifyPermissive_due (i : Permissive) (f : PermissiveInput → PermissiveInput) :
    (s.modifyPermissive i f).due = s.due := by cases i <;> rfl
/-- Reading either permissive after one changes. -/
@[simp] theorem State.permissive_modifyPermissive (i j : Permissive) (f : PermissiveInput → PermissiveInput) :
    (s.modifyPermissive i f).permissive j = if j = i then f (s.permissive j) else s.permissive j := by
  cases i <;> cases j <;> rfl
@[simp] theorem State.modifyPermissive_bay_stop (i : Permissive) (f : PermissiveInput → PermissiveInput) :
    (s.modifyPermissive i f).bay.stop = s.bay.stop := by cases i <;> rfl
@[simp] theorem State.modifyPermissive_bay_deadman (i : Permissive) (f : PermissiveInput → PermissiveInput) :
    (s.modifyPermissive i f).bay.deadman = s.bay.deadman := by cases i <;> rfl
@[simp] theorem State.modifyPermissive_bay_switch (i : Permissive) (f : PermissiveInput → PermissiveInput) :
    (s.modifyPermissive i f).bay.switch = s.bay.switch := by cases i <;> rfl
@[simp] theorem State.modifyPermissive_bay_powerFail (i : Permissive) (f : PermissiveInput → PermissiveInput) :
    (s.modifyPermissive i f).bay.powerFail = s.bay.powerFail := by cases i <;> rfl
@[simp] theorem State.modifyPermissive_bay_saved (i : Permissive) (f : PermissiveInput → PermissiveInput) :
    (s.modifyPermissive i f).bay.saved = s.bay.saved := by cases i <;> rfl

/-! ### Views that read one field -/

theorem State.arm_congr {s t : State} (h : s.arms = t.arms) (a : Fin 6) : s.arm a = t.arm a := by
  simp only [State.arm, h]

theorem State.order_congr {s t : State} (h : s.orders = t.orders) (k : Fin 24) : s.order k = t.order k := by
  simp only [State.order, h]

theorem State.injector_congr {s t : State} (h : s.injectors = t.injectors) (i : Fin 8) :
    s.injector i = t.injector i := by simp only [State.injector, h]

theorem State.port_congr {s t : State} (h : s.terminal = t.terminal) (g : s.console = t.console) (p : PortId) :
    s.port p = t.port p := by cases p <;> simp only [State.port, h, g]

end Sys2Proof.Machine
end

