-- ==== Sys2Proof/Laws/Ops.lean ====
section
/-!
SUPPORT. What each shared operation can do, said once: a frame's fate on its port, a request's checks, finding a permit or an
order, raising a notice and a hold cause, the deadman timer, claims, queued starts, and the composition and close of an order.
-/

namespace Sys2Proof.Machine

/-! ### A frame on its port (R172, R178, R179) -/

/-- On a ready port that the request may come from, a frame is judged and answered. -/
theorem State.frame_ready {s : State} {p : PortId} (h : s.ready p) {who : Senders} (hw : who.permits p = true)
    (tag code : Byte) (judge : State → Answer) :
    s.frame p tag code who judge = (judge (s.heard p)).1.send p tag code (judge (s.heard p)).2 := by
  obtain ⟨h1, h2⟩ := h
  cases p <;> simp_all [State.frame, State.heard, State.modifyPort, State.port, Port.hunt]

/-- On a ready port that the request may not come from, a frame is refused NOT_PERMITTED. -/
theorem State.frame_wrongPort {s : State} {p : PortId} (h : s.ready p) {who : Senders} (hw : who.permits p = false)
    (tag code : Byte) (judge : State → Answer) :
    s.frame p tag code who judge = s.turnedAway p tag code .notPermitted := by
  obtain ⟨h1, h2⟩ := h
  cases p <;> simp_all [State.frame, State.turnedAway, State.heard, State.modifyPort, State.port, Port.hunt]

/-- After the power-fail save a frame is ignored. -/
theorem State.frame_saved {s : State} (h : s.bay.saved = true) (p : PortId) (tag code : Byte) (who : Senders)
    (judge : State → Answer) : s.frame p tag code who judge = s.heard p := by
  simp [State.frame, State.heard, h]

/-- While the transmitter is busy a frame is owed PORT_BUSY, or discarded. -/
theorem State.frame_busy {s : State} {p : PortId} (h : s.bay.saved = false) {f : Transmission}
    (hf : (s.port p).transmit = some f) (tag code : Byte) (who : Senders) (judge : State → Answer) :
    s.frame p tag code who judge = (s.heard p).modifyPort p (Port.busyFrame tag code) := by
  cases p <;> simp_all [State.frame, State.heard, State.port, State.modifyPort, Port.hunt]

/-- A request whose checks all pass acts. -/
theorem State.checked_ok (s : State) (checks : List (Bool × ReplyCode)) (act : Answer)
    (h : ∀ c ∈ checks, c.1 = false) : s.checked checks act = act := by
  unfold State.checked
  rw [List.find?_eq_none.mpr (fun c hc => by simp [h c hc])]

/-- A request is refused with the code of the first check that fails. -/
theorem State.checked_refused (s : State) (before : List (Bool × ReplyCode)) (c : ReplyCode)
    (after : List (Bool × ReplyCode)) (act : Answer) (h : ∀ b ∈ before, b.1 = false) :
    s.checked (before ++ (true, c) :: after) act = s.refuse c := by
  unfold State.checked
  rw [List.find?_append, List.find?_eq_none.mpr (fun b hb => by simp [h b hb])]
  rfl

/-- Checks that say what the statements' checks say refuse as `refusedBy` says. -/
theorem State.checked_refusedBy (s : State) (act : Answer) {said : List (Prop × ReplyCode)} {checks : List (Bool × ReplyCode)}
    (same : List.Forall₂ (fun p b => (b.1 = true ↔ p.1) ∧ b.2 = p.2) said checks) {c : ReplyCode} (h : refusedBy said c) :
    s.checked checks act = s.refuse c := by
  have found : ∃ x, checks.find? (fun b => b.1) = some x ∧ x.2 = c := by
    induction same with
    | nil => exact h.elim
    | @cons p b _ _ hp _ ih =>
      rcases h with ⟨h1, h2⟩ | ⟨h1, h2⟩
      · exact ⟨b, by simp [hp.1.mpr h1], hp.2.trans h2.symm⟩
      · obtain ⟨x, hx, hc⟩ := ih h2
        have hb : b.1 = false := by simpa using mt hp.1.mp h1
        exact ⟨x, by simp [hb, hx], hc⟩
  obtain ⟨x, hx, rfl⟩ := found
  simp [State.checked, hx]

/-! ### Finding permits and orders -/

theorem State.findPermit_eq {s : State} {num : Nat} {e : Fin 200} {q : Permit} (h : s.onlyPermit num e q) :
    s.findPermit num = some e := by
  obtain ⟨h1, h2, h3⟩ := h
  unfold State.findPermit
  rw [Table.find?_eq_some]
  refine ⟨by simp [h1, h2], fun j hj => ?_⟩
  cases hp : s.permits.get j with
  | none => rfl
  | some r =>
    by_cases hr : r.number = num
    · exact absurd (h3 j r hp hr) (Fin.ne_of_lt hj)
    · simpa using hr

theorem State.findPermit_none {s : State} {num : Nat} (h : ∀ k r, s.permits.get k = some r → r.number ≠ num) :
    s.findPermit num = none := by
  unfold State.findPermit
  rw [Table.find?_eq_none]
  intro i
  cases hp : s.permits.get i with
  | none => rfl
  | some r => simpa using h i r hp

/-- The permit of a number, found in its one entry. -/
theorem State.permitFound {s : State} {num : Nat} {e : Fin 200} {q : Permit} (h : s.onlyPermit num e q) :
    (s.findPermit num).bind (fun e => (s.permits.get e).map (fun p => (e, p))) = some (e, q) := by
  simp [State.findPermit_eq h, h.1]

theorem State.findOrder_eq {s : State} {num : Nat} {k : Fin 24} {o : Order} (h : s.onlyOrder num k o) :
    s.findOrder num = some k := by
  obtain ⟨h1, h2, h3⟩ := h
  unfold State.findOrder
  rw [Table.find?_eq_some]
  have h1' : s.orders.get k = some o := h1
  refine ⟨by simp [h1', h2], fun j hj => ?_⟩
  cases hp : s.orders.get j with
  | none => rfl
  | some r =>
    by_cases hr : r.number = num
    · exact absurd (h3 j r hp hr) (Fin.ne_of_lt hj)
    · simpa using hr

theorem State.findOrder_none {s : State} {num : Nat} (h : ∀ k o, s.order k = some o → o.number ≠ num) :
    s.findOrder num = none := by
  unfold State.findOrder
  rw [Table.find?_eq_none]
  intro i
  cases hp : s.orders.get i with
  | none => rfl
  | some r => simpa using h i r hp

/-- The order of a number, found in its one slot. -/
theorem State.orderFound {s : State} {num : Nat} {k : Fin 24} {o : Order} (h : s.onlyOrder num k o) :
    (s.findOrder num).bind (fun k => (s.order k).map (fun o => (k, o))) = some (k, o) := by
  simp [State.findOrder_eq h, h.1]

/-! ### Every arm in turn -/

/-- Acting on every arm is acting on the six of them, the lowest-numbered first. -/
theorem State.forArms_eq (s : State) (f : Fin 6 → State → State) :
    s.forArms f = f 5 (f 4 (f 3 (f 2 (f 1 (f 0 s))))) := rfl

/-- What each arm's action keeps, acting on every arm keeps. -/
theorem State.forArms_keeps {s : State} {f : Fin 6 → State → State} {P : State → Prop} (h : P s)
    (hf : ∀ a t, P t → P (f a t)) : P (s.forArms f) := by
  rw [State.forArms_eq]
  exact hf _ _ (hf _ _ (hf _ _ (hf _ _ (hf _ _ (hf _ _ h)))))

/-- Where each arm's action changes that arm alone, acting on every arm changes each by its own. -/
theorem State.arm_forArms {s : State} {f : Fin 6 → State → State} {g : Fin 6 → Arm → Arm}
    (hf : ∀ a t b, (f a t).arm b = if b = a then g a (t.arm a) else t.arm b) (b : Fin 6) :
    (s.forArms f).arm b = g b (s.arm b) := by
  rw [State.forArms_eq]
  fin_cases b <;> simp [hf]

/-! ### Raising a notice (R184) -/

theorem Port.enters_iff (x : Port) (k : NoticeKind) (subject : Nat) :
    (x.enabled k && !x.notices.any (fun n => n.kind == k && n.subject == subject)) = true ↔
      x.enabled k = true ∧ ¬ x.holdsNotice k subject := by simp [Port.holdsNotice]

/-- A raising enters the pending set of a port that enables its kind and does not hold its pair. -/
theorem Port.raise_enters {x : Port} {k : NoticeKind} {subject : Nat} (h : x.enabled k = true)
    (g : ¬ x.holdsNotice k subject) (time : BayTime) :
    x.raise k subject time = { x with notices := x.notices ++ [⟨k, subject, time⟩] } := by
  rw [Port.raise, if_pos ((Port.enters_iff x k subject).mpr ⟨h, g⟩)]

/-- Any other raising is absorbed. -/
theorem Port.raise_absorbed {x : Port} {k : NoticeKind} {subject : Nat}
    (h : ¬ (x.enabled k = true ∧ ¬ x.holdsNotice k subject)) (time : BayTime) : x.raise k subject time = x := by
  rw [Port.raise, if_neg (fun c => h ((Port.enters_iff x k subject).mp c))]

/-- What a raising leaves of a port: its pending set alone may grow, by a notice of that kind and subject. -/
theorem Port.raise_spec (x : Port) (k : NoticeKind) (subject : Nat) (time : BayTime) :
    x.raise k subject time = { x with notices := (x.raise k subject time).notices } ∧
      (∀ n ∈ x.notices, n ∈ (x.raise k subject time).notices) ∧
      (∀ n ∈ (x.raise k subject time).notices, n ∈ x.notices ∨ n = ⟨k, subject, time⟩) ∧
      (x.enabled k = true → (x.raise k subject time).holdsNotice k subject) := by
  by_cases h : x.enabled k = true ∧ ¬ x.holdsNotice k subject
  · rw [Port.raise_enters h.1 h.2]
    exact ⟨rfl, fun n hn => List.mem_append_left _ hn, fun n hn => by simpa using hn,
      fun _ => ⟨⟨k, subject, time⟩, by simp, rfl, rfl⟩⟩
  · rw [Port.raise_absorbed h]
    exact ⟨rfl, fun n hn => hn, fun n hn => .inl hn, fun he => by tauto⟩

/-- A notice just raised stands in the pending set of every port that enables its kind. -/
theorem State.announced_raise (s : State) (k : NoticeKind) (subject : Nat) :
    (s.raise k subject).announced k subject := by
  intro p he
  rw [State.port_raise] at he ⊢
  obtain ⟨h1, -, -, h4⟩ := (s.port p).raise_spec k subject s.now
  rw [h1] at he
  exact h4 he

/-- A later raising takes no notice back. -/
theorem State.announced_raise_of {s : State} {k : NoticeKind} {subject : Nat} (h : s.announced k subject)
    (k' : NoticeKind) (subject' : Nat) : (s.raise k' subject').announced k subject := by
  intro p he
  rw [State.port_raise] at he ⊢
  obtain ⟨h1, h2, -, -⟩ := (s.port p).raise_spec k' subject' s.now
  rw [h1] at he
  obtain ⟨n, hn, g⟩ := h p he
  exact ⟨n, h2 n hn, g⟩

/-- A raising moves the ports in their pending sets alone, by a notice of its pair. -/
theorem State.raisesOnly_raise (s : State) (k : NoticeKind) (subject : Nat) :
    s.raisesOnly (s.raise k subject) (fun c x => c = k ∧ x = subject) := by
  intro p
  rw [State.port_raise]
  by_cases h : (s.port p).enabled k = true ∧ ¬ (s.port p).holdsNotice k subject
  · exact ⟨[⟨k, subject, s.now⟩], Port.raise_enters h.1 h.2 s.now, by simp⟩
  · exact ⟨[], by rw [Port.raise_absorbed h, List.append_nil], by simp⟩

@[simp] theorem State.raiseIf_true (s : State) (k : NoticeKind) (subject : Nat) :
    s.raiseIf true k subject = s.raise k subject := rfl

@[simp] theorem State.raiseIf_false (s : State) (k : NoticeKind) (subject : Nat) : s.raiseIf false k subject = s := rfl

/-- Nothing is raised from a state to itself. -/
theorem State.raisesOnly_refl (s : State) (raised : NoticeKind → Nat → Prop) : s.raisesOnly s raised :=
  fun _ => ⟨[], by rw [List.append_nil], by simp⟩

/-- What is raised is raised among more. -/
theorem State.raisesOnly_mono {s t : State} {raised more : NoticeKind → Nat → Prop} (h : s.raisesOnly t raised)
    (le : ∀ k subject, raised k subject → more k subject) : s.raisesOnly t more := by
  intro p
  obtain ⟨new, h1, h2⟩ := h p
  exact ⟨new, h1, fun n hn => ⟨le _ _ (h2 n hn).1, (h2 n hn).2⟩⟩

/-- Raisings one after another, at one bay time. -/
theorem State.raisesOnly_trans {s t u : State} {raised : NoticeKind → Nat → Prop} (same : t.now = s.now)
    (h : s.raisesOnly t raised) (g : t.raisesOnly u raised) : s.raisesOnly u raised := by
  intro p
  obtain ⟨x, h1, h2⟩ := h p
  obtain ⟨y, g1, g2⟩ := g p
  refine ⟨x ++ y, by rw [g1, h1, List.append_assoc], fun n hn => ?_⟩
  rcases List.mem_append.mp hn with hn | hn
  · exact h2 n hn
  · exact same ▸ g2 n hn

/-- Hearing a frame and raising a notice do not meet. -/
theorem State.raise_heard (s : State) (k : NoticeKind) (subject : Nat) (p : PortId) :
    (s.raise k subject).heard p = (s.heard p).raise k subject := by
  have h : ∀ x : Port, (x.raise k subject s.now).hunt = x.hunt.raise k subject s.now := by
    intro x
    by_cases g : x.enabled k = true ∧ ¬ x.holdsNotice k subject
    · rw [Port.raise_enters g.1 g.2, Port.raise_enters (x := x.hunt) g.1 g.2]
      rfl
    · rw [Port.raise_absorbed g, Port.raise_absorbed (x := x.hunt) g]
  have ht := h s.terminal
  have hc := h s.console
  cases p <;> simp_all [State.raise, State.heard, State.modifyPort, State.now]

/-! ### Expiries (notes/assumptions/3.md) -/

/-- An expiry that no millisecond queued has its effect. -/
theorem State.expiry_own {s : State} {c : Instr} (h : c ∉ s.due) (act : State → State) : s.expiry c act = act s :=
  if_neg h

/-- An expiry that the last millisecond queued has its effect while its timer shows that it has run out. -/
theorem State.expiry_due {s : State} {c : Instr} (h : c ∈ s.due) (act : State → State) :
    s.expiry c act = if s.ranOut c then act (s.expiryTaken c) else s.expiryTaken c :=
  if_pos h

/-- Once taken it waits no more. -/
@[simp] theorem State.not_mem_expiryTaken_due (s : State) (c : Instr) : c ∉ (s.expiryTaken c).due := by
  simp [State.expiryTaken]

/-- What a timer shows, as the statements say it. -/
theorem State.ranOut_iff (s : State) (c : Instr) : s.ranOut c = true ↔ s.shows c := by
  cases c <;> simp [State.ranOut, State.shows, runOut, Config.deadmanWarning, Config.deadmanLimit, Option.bind_eq_some_iff]

/-! ### The deadman timer (R116) -/

theorem State.anyFlowing_iff (s : State) : s.anyFlowing = true ↔ ∃ a, (s.arm a).state.flowing = true := by
  simp only [State.anyFlowing, List.any_eq_true, State.arm]
  constructor
  · rintro ⟨x, hx, h⟩
    obtain ⟨a, rfl⟩ := (Table.mem_entries _ _).mp hx
    exact ⟨a, h⟩
  · rintro ⟨a, h⟩
    exact ⟨_, (Table.mem_entries _ _).mpr ⟨a, rfl⟩, h⟩

/-- The deadman timer stops where no arm flows, and nothing else moves. -/
theorem State.settleDeadman_eq (s : State) :
    s.settleDeadman = { s with bay := if ∃ a, (s.arm a).state.flowing = true then s.bay
      else { s.bay with deadman := { s.bay.deadman with elapsed := none } } } := by
  unfold State.settleDeadman
  by_cases h : ∃ a, (s.arm a).state.flowing = true
  · rw [if_pos ((State.anyFlowing_iff s).mpr h), if_pos h]
  · rw [if_neg (fun c => h ((State.anyFlowing_iff s).mp c)), if_neg h]
    rfl

/-! ### Hold causes (R105) -/

/-- A cause raised for an arm does what `State.heldBy` says, and nothing else. -/
theorem State.raiseHold_heldBy (s : State) (a : Fin 6) (c : HoldCause) : s.heldBy (s.raiseHold a c) a c := by
  unfold State.raiseHold State.heldBy
  by_cases h : (s.arm a).active.isSome = true ∧ (s.arm a).holds.has c = false
  · have hn : ((s.arm a).active.isNone || (s.arm a).holds.has c) = false := by
      simp [h.2, ← Option.not_isSome, h.1]
    simp only [hn, Bool.false_eq_true, if_false]
    by_cases hf : (s.arm a).state.flowing = true
    · have harm : ((s.modifyArm a (fun x => { x with holds := x.holds.put true c })).modifyArm a
          Arm.closeForHold).arms = s.arms.modify a (fun x => x.withCause c) := by
        have h' : (s.arms.get a).active.isSome = true ∧ (s.arms.get a).holds.has c = false := h
        have hf' : (s.arms.get a).state.flowing = true := hf
        simp [State.modifyArm, Table.modify_eq_set, Table.set_set, Arm.withCause, Arm.closeForHold, h', hf']
      simp only [hf, if_true, h.1, h.2, and_self]
      rw [State.settleDeadman_eq]
      refine ⟨?_, ?_⟩
      · show State.mk _ _ _ _ _ _ _ _ _ _ _ _ _ _ _ _ = State.mk _ _ _ _ _ _ _ _ _ _ _ _ _ _ _ _
        rw [harm]
        rfl
      · rfl
    · have h' : (s.arms.get a).active.isSome = true ∧ (s.arms.get a).holds.has c = false := h
      have hf' : ¬ (s.arms.get a).state.flowing = true := hf
      simp only [hf, if_false, false_and, Bool.false_eq_true]
      refine ⟨?_, rfl⟩
      simp [State.modifyArm, Table.modify_eq_set, Arm.withCause, h', hf']
  · have hn : ((s.arm a).active.isNone || (s.arm a).holds.has c) = true := by
      cases ha : (s.arm a).active <;> simp_all
    have h' : ¬ ((s.arms.get a).active.isSome = true ∧ (s.arms.get a).holds.has c = false) := h
    simp only [hn, if_true]
    refine ⟨?_, ?_⟩
    · simp only [Table.modify_eq_set, Arm.withCause, if_neg h']
      rw [Table.set_get_self]
    · rw [if_neg (by tauto)]
      trivial

/-! ### Claims (R7, R29) -/

/-- Where one entry alone holds the claiming permit, ending the claim changes that entry alone. -/
theorem State.endClaim_set {s : State} {num : Nat} {e : Fin 200} {q : Permit} (h : s.onlyPermit num e q) :
    s.endClaim (some num) = { s with permits := s.permits.set e (some { q with claim := none }) } := by
  obtain ⟨h1, h2, h3⟩ := h
  unfold State.endClaim
  congr 1
  apply Table.ext_get
  intro i
  rw [Table.get_map, Table.get_set]
  split
  · next hi => simp [hi, h1, h2]
  · next hi =>
    cases hr : s.permits.get i with
    | none => rfl
    | some r => simp [show ¬ num = r.number from fun e' => hi (h3 i r hr e'.symm)]

/-- A claim withdrawn: its order POSTED without it, its permit free of it, and nothing else. -/
theorem State.withdrawClaim_eq {s : State} {slot : Fin 24} {o : Order} {e : Fin 200} {q : Permit}
    (ho : s.order slot = some o) (hc : o.claimPermit = some q.number) (hq : s.onlyPermit q.number e q) :
    s.withdrawClaim slot = { s with
      orders := s.orders.set slot (some o.unclaim), permits := s.permits.set e (some { q with claim := none }) } := by
  have ho' : s.orders.get slot = some o := ho
  simp only [State.withdrawClaim, ho, hc]
  rw [State.endClaim_set (s := s.modifyOrder slot Order.unclaim) (e := e) (q := q) hq]
  simp [State.modifyOrder, Table.modify_eq_set, ho']

/-! ### Queued starts (R83) -/

/-- A queued start is dropped: the arm is rid of it and START_DROPPED is raised, where the arm holds one. -/
theorem State.dropQueued_eq (s : State) (a : Fin 6) :
    s.dropQueued a = if (s.arm a).queued.isSome = true
      then ({ s with arms := s.arms.modify a (fun x => { x with queued := none }) } : State).raise .startDropped (number a)
      else s := rfl

/-! ### Composition of a note (R164, R165) -/

/-- The slot of R164 is the one a composition takes. -/
theorem Journal.freeSlot_eq {j : Journal} {k : Fin 48} (h : j.nextSlot k) : j.freeSlot = some k := by
  unfold Journal.freeSlot
  rcases h with ⟨h1, h2⟩ | ⟨h1, h2, earlier, later, h3, h4⟩
  · rw [(Table.find?_eq_some _ _ _).mpr ⟨h1, fun i hi => by simp [h2 i hi]⟩]
  · rw [(Table.find?_eq_none _ _).mpr (fun i => by simp [h1 i])]
    simp only [h3, List.find?_append]
    rw [List.find?_eq_none.mpr (fun i hi => by simp [h4 i hi])]
    simp [h2]

/-- A composition stores the note in the slot of R164, as the latest, with the next sequence number. -/
theorem State.compose_eq {s : State} {k : Fin 48} (h : s.journal.nextSlot k) (o : Order) (cause : CloseCause) :
    s.compose o cause =
      { s with journal := s.journal.store k (noteOf o cause s.journal.nextSequence s.clock) } := by
  simp [State.compose, Journal.freeSlot_eq h]

/-! ### Sequence numbers (R165) -/

/-- The numbers after a sequence number run through 1 to 999,999 and around. -/
theorem sequenceAfter_iterate {n : Nat} (h1 : 1 ≤ n) (h2 : n ≤ 999999) (i : Nat) :
    sequenceAfter^[i] n = (n - 1 + i) % 999999 + 1 := by
  induction i with
  | zero => simp only [Function.iterate_zero, id_eq]; omega
  | succ i ih =>
    rw [Function.iterate_succ_apply', ih]
    unfold sequenceAfter
    split <;> omega

/-- The number the search ends at is carried by no note, unless every number it passed over was carried. -/
theorem freshSequence_spec (used : List Nat) (fuel n : Nat) (h : freshSequence used fuel n ∈ used) :
    ∀ i ≤ fuel, sequenceAfter^[i] n ∈ used := by
  induction fuel generalizing n with
  | zero => intro i hi; simpa [Nat.le_zero.mp hi, freshSequence] using h
  | succ fuel ih =>
    unfold freshSequence at h
    split at h
    · next hn =>
      intro i hi
      cases i with
      | zero => simpa using hn
      | succ i => simpa using ih _ h i (Nat.le_of_succ_le_succ hi)
    · next hn => exact absurd h (by simpa using hn)

/-- At most 48 notes stand in the journal. -/
theorem Journal.sequenceNumbers_length (j : Journal) : j.sequenceNumbers.length ≤ 48 := by
  have h := List.length_filterMap_le (fun e : JournalSlot => e.note?.map Note.sequenceNumber) j.slots.entries
  rw [j.slots.size] at h
  exact h

/-- The next sequence number is carried by no note in the journal. -/
theorem Journal.lacks_nextSequence (j : Journal) : j.lacks j.nextSequence := by
  have hstart : 1 ≤ sequenceAfter j.lastSequence ∧ sequenceAfter j.lastSequence ≤ 999999 := by
    unfold sequenceAfter; split <;> omega
  have hfresh : j.nextSequence ∉ j.sequenceNumbers := by
    intro hmem
    have hall := freshSequence_spec _ _ _ hmem
    have hsub : (List.range 49).map (fun i => sequenceAfter^[i] (sequenceAfter j.lastSequence)) ⊆ j.sequenceNumbers := by
      intro x hx
      obtain ⟨i, hi, rfl⟩ := List.mem_map.mp hx
      exact hall i (by have := List.mem_range.mp hi; omega)
    have hnodup : ((List.range 49).map (fun i => sequenceAfter^[i] (sequenceAfter j.lastSequence))).Nodup := by
      refine List.Nodup.map_on (fun x hx y hy hxy => ?_) List.nodup_range
      rw [sequenceAfter_iterate hstart.1 hstart.2, sequenceAfter_iterate hstart.1 hstart.2] at hxy
      have := List.mem_range.mp hx
      have := List.mem_range.mp hy
      omega
    have hlen := (hnodup.subperm hsub).length_le
    have := j.sequenceNumbers_length
    simp at hlen
    omega
  intro k n hn heq
  refine hfresh (List.mem_filterMap.mpr ⟨j.slots.get k, (Table.mem_entries _ _).mpr ⟨k, rfl⟩, ?_⟩)
  simp [hn, heq]

/-- The search passes over carried numbers only. -/
theorem freshSequence_first (used : List Nat) (fuel n : Nat) :
    ∃ d, freshSequence used fuel n = sequenceAfter^[d] n ∧ ∀ e < d, sequenceAfter^[e] n ∈ used := by
  induction fuel generalizing n with
  | zero => exact ⟨0, rfl, fun e he => absurd he (by omega)⟩
  | succ fuel ih =>
    unfold freshSequence
    split
    · next hn =>
      obtain ⟨d, hd, hall⟩ := ih (sequenceAfter n)
      refine ⟨d + 1, hd, fun e he => ?_⟩
      cases e with
      | zero => simpa using hn
      | succ e => exact hall e (by omega)
    · exact ⟨0, rfl, fun e he => absurd he (by omega)⟩

/-- The next sequence number is the one R165 gives. -/
theorem Journal.nextNumber_nextSequence (j : Journal) : j.nextNumber j.nextSequence := by
  obtain ⟨d, hd, hall⟩ := freshSequence_first j.sequenceNumbers 48 (sequenceAfter j.lastSequence)
  refine ⟨d, hd, j.lacks_nextSequence, fun e he hl => ?_⟩
  obtain ⟨x, hx, h⟩ := List.mem_filterMap.mp (hall e he)
  obtain ⟨k, rfl⟩ := (Table.mem_entries _ _).mp hx
  cases hn : (j.slots.get k).note? with
  | none => simp [hn] at h
  | some m => exact hl k m hn (by simpa [hn] using h)

/-- What a composition leaves of the journal. -/
theorem State.compose_gainsAt {s : State} {k : Fin 48} (h : s.journal.nextSlot k) (o : Order) (cause : CloseCause)
    {good : Note → Prop} (hg : good (noteOf o cause s.journal.nextSequence s.clock)) :
    s.journal.gainsAt (s.compose o cause).journal k good := by
  rw [State.compose_eq h]
  exact ⟨_, hg, s.journal.nextNumber_nextSequence, rfl⟩

/-! ### The close of an order (R37) -/

/-- The close of an order, step by step: its note, its claim, its queued starts, its slot, its notices. -/
theorem State.closeOrder_eq {s : State} {slot : Fin 24} {o : Order} (h : s.order slot = some o) (cause : CloseCause) :
    s.closeOrder slot cause =
      ((((((s.compose { o with closeCause := some cause, claimTimer := none, idleTimer := none } cause).endClaim
        o.claimPermit).dropQueuedOf o.number).setOrder slot none).raise .orderClosed (number slot)).raise .noteStored 0) := by
  simp [State.closeOrder, State.closeQuietly, State.announceClose, h]

/-- The order table's judgement at a line's passage to ENDED (R32): the order closes, starts its idle timer, or goes on. -/
theorem State.judgeOrder_cases {s : State} {slot : Fin 24} {o : Order} (h : s.order slot = some o) :
    (o.lines.all Line.isEnded = true ∧ o.state = .loading ∧ s.judgeOrder slot = s.closeOrder slot .finished) ∨
      (o.lines.all Line.isEnded = true ∧ o.state = .closing ∧ s.judgeOrder slot = s.closeOrder slot .cancelled) ∨
      (o.lines.all Line.isEnded = false ∧ o.lines.any Line.isActive = false ∧ o.state = .loading ∧
        s.judgeOrder slot = s.modifyOrder slot (fun x => { x with idleTimer := some Config.idleTimeout })) ∨
      (¬ (o.lines.all Line.isEnded = true ∧ (o.state = .loading ∨ o.state = .closing)) ∧
        ¬ (o.lines.all Line.isEnded = false ∧ o.lines.any Line.isActive = false ∧ o.state = .loading) ∧
        s.judgeOrder slot = s) := by
  unfold State.judgeOrder
  rw [h]
  cases he : o.lines.all Line.isEnded <;> cases ha : o.lines.any Line.isActive <;> cases hs : o.state <;> simp [he, ha, hs]

end Sys2Proof.Machine
end

