-- ==== Sys2Proof/Laws/Dosing.lean ====
section
/-!
SUPPORT. The dosing unit: settling, and what one dosing event does (`State.dosed`).
-/

namespace Sys2Proof.Machine

/-! ### Settling (R131) -/

/-- A turn of settling changes nothing of what settling ends at. -/
theorem DosingRecord.settled_settleOnce (r : DosingRecord) (h : 0 < r.interval) : r.settleOnce.settled = r.settled := by
  unfold DosingRecord.settleOnce
  split
  · next hc =>
    have hq : r.accumulator / r.interval = (r.accumulator - r.interval) / r.interval + 1 := Nat.div_eq_sub_div h hc.1
    obtain ⟨m, hm⟩ : ∃ m, m = min (3 - (r.owed + 1)) ((r.accumulator - r.interval) / r.interval) := ⟨_, rfl⟩
    have hn : min (3 - r.owed) (r.accumulator / r.interval) = m + 1 := by omega
    simp only [DosingRecord.settled, ← hm, hn, Nat.add_mul, Nat.one_mul]
    congr 1 <;> omega
  · rfl

/-- A record that a turn of settling leaves alone is settled. -/
theorem DosingRecord.settled_of_turned (r : DosingRecord) (h : ¬ (r.interval ≤ r.accumulator ∧ r.owed < 3)) :
    r.settled = r := by
  have : min (3 - r.owed) (r.accumulator / r.interval) = 0 := by
    by_cases ho : r.owed < 3
    · simp [Nat.div_eq_of_lt (show r.accumulator < r.interval by omega)]
    · simp [show 3 - r.owed = 0 by omega]
  simp [DosingRecord.settled, this]

/-- Three turns settle a record (R131). -/
theorem DosingRecord.settle_eq_settled (r : DosingRecord) (h : 0 < r.interval) : r.settle = r.settled := by
  have keeps (x : DosingRecord) : x.settleOnce.interval = x.interval := by unfold DosingRecord.settleOnce; split <;> rfl
  have stays (x : DosingRecord) (hx : ¬ (x.interval ≤ x.accumulator ∧ x.owed < 3)) : x.settleOnce = x := if_neg hx
  have turns (x : DosingRecord) (hx : x.interval ≤ x.accumulator ∧ x.owed < 3) : x.settleOnce.owed = x.owed + 1 := by
    rw [DosingRecord.settleOnce, if_pos hx]
  have done : ¬ (r.settle.interval ≤ r.settle.accumulator ∧ r.settle.owed < 3) := by
    unfold DosingRecord.settle
    by_cases h1 : r.interval ≤ r.accumulator ∧ r.owed < 3
    · have o1 := turns r h1
      by_cases h2 : r.settleOnce.interval ≤ r.settleOnce.accumulator ∧ r.settleOnce.owed < 3
      · have o2 := turns _ h2
        by_cases h3 : r.settleOnce.settleOnce.interval ≤ r.settleOnce.settleOnce.accumulator ∧
            r.settleOnce.settleOnce.owed < 3
        · have o3 := turns _ h3
          omega
        · rwa [stays _ h3]
      · rwa [stays _ h2, stays _ h2]
    · rwa [stays _ h1, stays _ h1, stays _ h1]
  rw [← DosingRecord.settled_settleOnce r h, ← DosingRecord.settled_settleOnce r.settleOnce (by rwa [keeps]),
    ← DosingRecord.settled_settleOnce r.settleOnce.settleOnce (by rwa [keeps, keeps])]
  exact (DosingRecord.settled_of_turned _ done).symm

/-! ### Which arm an injector's pulse or expiry belongs to (R124, R145) -/

/-- A search of the arms finds the only arm that has the property. -/
theorem armList_find_only {p : Fin 6 → Bool} {a : Fin 6} (h : p a = true) (only : ∀ b, b ≠ a → p b = false) :
    armList.find? p = some a := by
  have e : p = fun b => b == a := by
    funext b
    by_cases hb : b = a
    · subst hb; simp [h]
    · simp [hb, only b hb]
  rw [e]
  clear e h only
  revert a
  decide

/-- A search of the arms finds none where none has the property. -/
theorem armList_find_none {p : Fin 6 → Bool} (none : ∀ b, p b = false) : armList.find? p = Option.none := by
  rw [show p = fun _ => false from funext none]
  decide

theorem State.engagedBy_only {s : State} {i : Fin 8} {a : Fin 6} (h : (s.arm a).engaged = some i)
    (only : ∀ b, b ≠ a → (s.arm b).engaged ≠ some i) : s.engagedBy i = some a :=
  armList_find_only (by simp [h]) (fun b hb => by simpa using only b hb)

theorem State.engagedBy_none {s : State} {i : Fin 8} (h : ∀ a, (s.arm a).engaged ≠ some i) : s.engagedBy i = none :=
  armList_find_none (fun b => by simpa using h b)

theorem State.awaiting_only {s : State} {i : Fin 8} {a : Fin 6} {r : DosingRecord} (h : (s.arm a).dosing = some r)
    (hr : r.late = some i) (only : ∀ b x, b ≠ a → (s.arm b).dosing = some x → x.late ≠ some i) : s.awaiting i = some a :=
  armList_find_only (by simp [h, hr]) (fun b hb => by
    cases hd : (s.arm b).dosing with
    | none => simp
    | some x => simpa using only b x hb hd)

theorem State.awaiting_none {s : State} {i : Fin 8} (h : ∀ a r, (s.arm a).dosing = some r → r.late ≠ some i) :
    s.awaiting i = none :=
  armList_find_none (fun b => by
    cases hd : (s.arm b).dosing with
    | none => simp
    | some x => simpa using h b x hd)

/-! ### A dosing event (R132 to R135) -/

/-- A 16-bit count one more, at most 65,535. -/
theorem bump16_eq (n : Nat) : bump16 n = min 65535 (n + 1) := by
  unfold bump16 Config.maxCount16
  split <;> omega

/-- The shot that is owed is issued where the engaged injector is IDLE (R135). -/
theorem State.issueShot_eq (s : State) (a : Fin 6) (i : Fin 8) (r : DosingRecord)
    (hp : (s.arm a).setup.positions.get r.position = some i) (hi : 0 < r.interval) :
    (s.modifyArm a (fun x => { x with dosing := some r })).issueShot a =
      let issues := r.phase ≠ .disengaged ∧ 0 < r.owed ∧ (s.injector i).window = none
      { s with
        arms := s.arms.modify a (fun x => { x with
          dosing := some (if issues then DosingRecord.settled { r with owed := r.owed - 1, shot := some ⟨0, false⟩ } else r) })
        injectors := s.injectors.modify i (fun x => { x with window := if issues then some 3000 else x.window }) } := by
  have hw : (s.modifyArm a (fun x => { x with dosing := some r })).injector i = s.injector i := rfl
  unfold State.issueShot
  simp only [State.arm_modifyArm, if_true, Arm.engaged, Option.bind_some, hp, hw, Option.isNone_iff_eq_none]
  by_cases h : r.phase ≠ .disengaged ∧ 0 < r.owed ∧ (s.injector i).window = none
  · simp only [if_pos h]
    rw [← DosingRecord.settle_eq_settled _ (by exact hi)]
    simp [State.modifyDosing, State.modifyArm, State.modifyInjector, Table.modify_eq_set, Table.set_set, Config.verifyWindow]
  · simp only [if_neg h]
    simp [State.modifyArm, Table.modify_eq_set]
    exact (Table.set_get_self _ _).symm


/-- The overspeed condition raises ADDITIVE and is counted (R134). -/
theorem State.judgeOverspeed_eq (s : State) (a : Fin 6) (i : Fin 8) (r : DosingRecord) (hr : (s.arm a).dosing = some r)
    (he : (s.arm a).engaged = some i) :
    let exceeds := r.phase = .accruing ∧ r.owed = 3 ∧ r.interval ≤ r.accumulator ∧ (s.arm a).holds.additive = false
    let t := s.judgeOverspeed a
    t = { s with
      arms := s.arms.modify a (fun x => if exceeds then x.withCause .additive else x)
      injectors := s.injectors.modify i (fun x =>
        { x with stats := if exceeds then { x.stats with overspeed := min 65535 (x.stats.overspeed + 1) } else x.stats })
      bay := t.bay } ∧
    if exceeds ∧ (s.arm a).state.flowing = true ∧ (s.arm a).active.isSome = true then s.bayFollows t else t.bay = s.bay := by
  intro exceeds t
  have hc : (r.overspeed && !(s.arm a).holds.additive) = true ↔ exceeds := by
    simp [exceeds, DosingRecord.overspeed, and_assoc]
  by_cases h : exceeds
  · have ht : t = (s.modifyInjector i (fun x =>
        { x with stats := { x.stats with overspeed := bump16 x.stats.overspeed } })).raiseHold a .additive := by
      simp only [t, State.judgeOverspeed, hr, he, if_pos (hc.mpr h)]
    obtain ⟨h1, h2⟩ := State.raiseHold_heldBy (s.modifyInjector i (fun x =>
        { x with stats := { x.stats with overspeed := bump16 x.stats.overspeed } })) a .additive
    rw [← ht] at h1 h2
    have hn : (s.arm a).holds.has .additive = false := h.2.2.2
    refine ⟨?_, ?_⟩
    · conv_lhs => rw [h1]
      simp [if_pos h, State.modifyInjector, bump16_eq]
    · have : ((s.modifyInjector i (fun x =>
        { x with stats := { x.stats with overspeed := bump16 x.stats.overspeed } })).arm a) = s.arm a := rfl
      rw [this] at h2
      simp only [h, hn, true_and, and_true] at h2 ⊢
      exact h2
  · have ht : t = s := by
      simp only [t, State.judgeOverspeed, hr]
      rw [if_neg (fun c => h (hc.mp c))]
    rw [ht]
    simp only [h, if_false, false_and, and_true, Table.modify_eq_set, Table.set_get_self]
    exact congrArg (fun t => { s with injectors := t }) (Table.set_get_self s.injectors i).symm


/-- The reduced-flow flag as R133 judges it. -/
theorem State.judgeReducedFlow_eq (s : State) (a : Fin 6) (r : DosingRecord) (hr : (s.arm a).dosing = some r) :
    let slows := 2 ≤ r.owed ∧ s.running a = true
    s.judgeReducedFlow a = ({ s with arms := s.arms.modify a (fun x =>
      { x with reducedFlow := if r.owed = 0 then false else if slows then true else x.reducedFlow }) } : State).raiseIf
        (decide (slows ∧ (s.arm a).reducedFlow = false)) .flowReduced (number a) := by
  intro slows
  simp only [State.judgeReducedFlow, hr]
  by_cases h0 : r.owed = 0
  · have : ¬ slows := by simp [slows, h0]
    simp [h0, this, State.modifyArm]
  · by_cases h : slows
    · cases hf : (s.arm a).reducedFlow
      · have h' : 2 ≤ r.owed ∧ s.running a = true := h
        simp [h0, h, h', State.modifyArm]
      · have hf' : (s.arms.get a).reducedFlow = true := hf
        simp only [h0, if_false, Bool.not_true, Bool.false_eq_true, and_false, h, if_true, reduceCtorEq, decide_false,
          State.raiseIf_false, Table.modify_eq_set]
        have e : { s.arms.get a with reducedFlow := true } = s.arms.get a := by rw [← hf']
        rw [e, Table.set_get_self]
    · have h' : ¬ (2 ≤ r.owed ∧ s.running a = true ∧ (!(s.arm a).reducedFlow) = true) := fun c => h ⟨c.1, c.2.1⟩
      simp only [h0, if_false, h', h, false_and, decide_false, State.raiseIf_false, Table.modify_eq_set]
      exact congrArg (fun t => { s with arms := t }) (Table.set_get_self s.arms a).symm

/-- ADDITIVE's clearing as R134 judges it. -/
theorem State.judgeAdditiveClear_eq (s : State) (a : Fin 6) (i : Fin 8) (r : DosingRecord) (hr : (s.arm a).dosing = some r)
    (he : (s.arm a).engaged = some i) :
    let caughtUp := r.owed = 0 ∧ r.accumulator < r.interval ∧ (s.injectorStore i).failed = false ∧
      (s.injectorStore i).additive = r.additive
    s.judgeAdditiveClear a = { s with arms := s.arms.modify a (fun x =>
      { x with holds := if caughtUp then { x.holds with additive := false } else x.holds }) } := by
  intro caughtUp
  have hc : (r.owed = 0 ∧ r.accumulator < r.interval ∧ s.serves i r.additive = true) ↔ caughtUp := by
    simp [caughtUp, State.serves]
  simp only [State.judgeAdditiveClear, hr, he, hc]
  by_cases h : caughtUp
  · simp [h, State.clearHold, State.modifyArm, HoldSet.put]
  · simp only [h, if_false, Table.modify_eq_set]
    exact congrArg (fun t => { s with arms := t }) (Table.set_get_self s.arms a).symm

/-- A cause raised for an arm reads nothing of its dosing record. -/
theorem Arm.withCause_dosing (x : Arm) (c : HoldCause) (d : Option DosingRecord) :
    ({ x with dosing := d } : Arm).withCause c = { x.withCause c with dosing := d } := by
  unfold Arm.withCause
  split <;> (try split) <;> rfl

/-- Nor does it move the reduced-flow flag. -/
@[simp] theorem Arm.withCause_reducedFlow (x : Arm) (c : HoldCause) : (x.withCause c).reducedFlow = x.reducedFlow := by
  unfold Arm.withCause
  split <;> (try split) <;> rfl

/-- A dosing event, judged (R132 to R135): `State.dosed` says everything it does. -/
theorem State.dosed_judged (s : State) (a : Fin 6) (i : Fin 8) (r : DosingRecord)
    (hp : (s.arm a).setup.positions.get r.position = some i) (hi : 0 < r.interval) :
    s.dosed (((s.modifyArm a (fun x => { x with dosing := some r })).issueShot a).judgeDosing a) a i r := by
  rw [State.issueShot_eq s a i r hp hi]
  unfold State.dosed
  extract_lets issues r1 exceeds caughtUp slows
  have hpos : r1.position = r.position := by
    simp only [r1]; split <;> rfl
  -- the state after the issue
  generalize hu : ({ s with
    arms := s.arms.modify a (fun x => { x with dosing := some r1 })
    injectors := s.injectors.modify i (fun x => { x with window := if issues then some 3000 else x.window }) } : State) = u
  have harm : u.arm a = { s.arm a with dosing := some r1 } := by
    subst hu; simp [State.arm]
  have hd : (u.arm a).dosing = some r1 := by rw [harm]
  have he : (u.arm a).engaged = some i := by rw [harm]; simp [Arm.engaged, hpos, hp]
  obtain ⟨h1, h2⟩ := State.judgeOverspeed_eq u a i r1 hd he
  have hex : (r1.phase = .accruing ∧ r1.owed = 3 ∧ r1.interval ≤ r1.accumulator ∧ (u.arm a).holds.additive = false)
      ↔ exceeds := by rw [harm]
  simp only [hex] at h1 h2
  unfold State.judgeDosing
  generalize u.judgeOverspeed a = v at h1 h2
  have hv : v.arm a = if exceeds then (u.arm a).withCause .additive else u.arm a := by
    rw [h1]; simp [State.arm]
  have keep : (v.arm a).dosing = some r1 ∧ (v.arm a).setup = (s.arm a).setup ∧ (v.arm a).active = (s.arm a).active ∧
      (v.arm a).reducedFlow = (s.arm a).reducedFlow := by
    rw [hv, harm]
    unfold Arm.withCause
    split <;> (try split) <;> (try split) <;> exact ⟨rfl, rfl, rfl, rfl⟩
  have hrun : v.running a = s.running a := by
    have ho : v.orders = s.orders := by rw [h1, ← hu]
    have hl : v.lineAt = s.lineAt := by
      funext ref; simp [State.lineAt, State.order, ho]
    simp [State.running, State.activeLine, keep.2.2.1, hl]
  have hr := State.judgeReducedFlow_eq v a r1 keep.1
  simp only [hrun, keep.2.2.2] at hr
  rw [hr]
  generalize hN : decide ((2 ≤ r1.owed ∧ s.running a = true) ∧ (s.arm a).reducedFlow = false) = N
  have hslow : decide (slows ∧ (s.arm a).reducedFlow = false) = N := hN
  generalize hw : ({ v with arms := v.arms.modify a (fun x => { x with reducedFlow :=
    if r1.owed = 0 then false else if (2 ≤ r1.owed ∧ s.running a = true) then true else x.reducedFlow }) } : State) = w
  have hwa : w.arm a = { v.arm a with reducedFlow :=
      if r1.owed = 0 then false else if (2 ≤ r1.owed ∧ s.running a = true) then true else (v.arm a).reducedFlow } := by
    rw [← hw]; simp [State.arm]
  have hraise : ∀ b, (w.raiseIf N .flowReduced (number a)).arm b = w.arm b := fun b => by cases N <;> rfl
  have hstore : (w.raiseIf N .flowReduced (number a)).store = s.store := by
    have : w.store = s.store := by rw [← hw, h1, ← hu]
    rw [← this]; cases N <;> rfl
  rw [State.judgeAdditiveClear_eq _ a i r1 (by rw [hraise, hwa]; exact keep.1)
    (by rw [hraise, hwa]; simp [Arm.engaged, keep.1, keep.2.1, hpos, hp])]
  have hcaught : (r1.owed = 0 ∧ r1.accumulator < r1.interval ∧
      ((w.raiseIf N .flowReduced (number a)).injectorStore i).failed = false ∧
      ((w.raiseIf N .flowReduced (number a)).injectorStore i).additive = r1.additive) ↔ caughtUp := by
    simp [caughtUp, State.injectorStore, hstore]
  simp only [hcaught]
  have hbay : (w.raiseIf N .flowReduced (number a)).bay = v.bay := by rw [← hw]; cases N <;> rfl
  rw [show ({ w.raiseIf N .flowReduced (number a) with
      arms := (w.raiseIf N .flowReduced (number a)).arms.modify a (fun x =>
        { x with holds := if caughtUp then { x.holds with additive := false } else x.holds }) } : State)
    = ({ w with arms := w.arms.modify a (fun x =>
        { x with holds := if caughtUp then { x.holds with additive := false } else x.holds }) } : State).raiseIf N
          .flowReduced (number a) by cases N <;> rfl]
  have hb : (({ w with arms := w.arms.modify a (fun x =>
        { x with holds := if caughtUp then { x.holds with additive := false } else x.holds }) } : State).raiseIf N
          .flowReduced (number a)).bay = v.bay := by rw [← hw]; cases N <;> rfl
  constructor
  · rw [hbay, ← hw]
    conv_lhs => rw [h1, ← hu]
    simp only [Table.modify_eq_set, Table.set_set, Table.get_set_self, Arm.withCause_dosing, Arm.withCause_reducedFlow]
    by_cases hx : exceeds <;> simp only [hx, if_true, if_false, slows]
  · have hst : (u.arm a).state = (s.arm a).state ∧ (u.arm a).active = (s.arm a).active := by rw [harm]; exact ⟨rfl, rfl⟩
    have hub : u.bay = s.bay := by rw [← hu]
    rw [hst.1, hst.2] at h2
    rw [hbay]
    split
    · next hc =>
      rw [if_pos hc] at h2
      unfold State.bayFollows at h2 ⊢
      rw [hb, h2, hub]
      have : ∀ b, ((({ w with arms := w.arms.modify a (fun x =>
        { x with holds := if caughtUp then { x.holds with additive := false } else x.holds }) } : State).raiseIf N
          .flowReduced (number a)).arm b).state = (v.arm b).state := by
        intro b
        have : (({ w with arms := w.arms.modify a (fun x =>
        { x with holds := if caughtUp then { x.holds with additive := false } else x.holds }) } : State).raiseIf N
          .flowReduced (number a)).arm b = ({ w with arms := w.arms.modify a (fun x =>
        { x with holds := if caughtUp then { x.holds with additive := false } else x.holds }) } : State).arm b := by
          cases N <;> rfl
        rw [this, ← hw]
        simp only [State.arm, Table.get_modify]
        split <;> rfl
      simp only [this]
    · next hc =>
      rw [if_neg hc, hub] at h2
      exact h2

/-- The dosing service of a line sample: `State.served` says everything it does. -/
theorem State.serveDosing_served (s : State) (a : Fin 6) (gross : Nat) (h : (s.arm a).doses) :
    s.served (s.serveDosing a gross) a gross := by
  refine ⟨fun hn => by simp [State.serveDosing, hn], fun r hr => ?_⟩
  obtain ⟨hi, hd⟩ := h r hr
  have hr' : (s.arms.get a).dosing = some r := hr
  have hacc : s.modifyDosing a (fun r => if r.phase = .accruing
      then ({ r with accumulator := r.accumulator + gross } : DosingRecord).settle else r) =
      s.modifyArm a (fun x => { x with dosing := some (r.accrues gross) }) := by
    simp only [State.modifyDosing, State.modifyArm, Table.modify_eq_set, hr', Option.map_some, DosingRecord.accrues]
    split
    · rw [DosingRecord.settle_eq_settled _ (by exact hi)]
    · rfl
  have hserve : s.serveDosing a gross =
      ((s.modifyArm a (fun x => { x with dosing := some (r.accrues gross) })).issueShot a).judgeDosing a := by
    rw [State.serveDosing, if_pos (by simp [hr]), hacc]
  rw [hserve]
  have hpos : (r.accrues gross).position = r.position ∧ (r.accrues gross).interval = r.interval := by
    unfold DosingRecord.accrues; split <;> exact ⟨rfl, rfl⟩
  refine ⟨fun he => ?_, fun i he => ?_⟩
  · obtain ⟨hp, ho⟩ := hd he
    have hself : r.accrues gross = r := by simp [DosingRecord.accrues, hp]
    rw [hself]
    have hm : s.modifyArm a (fun x => { x with dosing := some r }) = s := by
      have e : { s.arms.get a with dosing := some r } = s.arms.get a := by rw [← hr']
      rw [State.modifyArm, Table.modify_eq_set, e, Table.set_get_self]
    rw [hm]
    have h1 : s.issueShot a = s := by simp [State.issueShot, hr, he]
    have h2 : s.judgeOverspeed a = s := by simp [State.judgeOverspeed, hr, DosingRecord.overspeed, hp]
    have hq : (s.arm a).setup.positions.get r.position = none := by simpa [Arm.engaged, hr] using he
    simp [State.judgeDosing, h1, h2, State.judgeReducedFlow, hr, ho, State.judgeAdditiveClear, Arm.engaged, hq]
  · exact State.dosed_judged s a i _ (by rw [hpos.1]; simpa [Arm.engaged, hr] using he) (by rw [hpos.2]; exact hi)

end Sys2Proof.Machine
end

