-- ==== Sys2Proof/Tests/Slice0.lean ====
section
/-!
SUPPORT. The model's own tests: ill-formed commands, small steps whose results the spec's tables, worked examples and rules
give, and, for every obligation with hypotheses, a state and operands that meet them.
-/

namespace Sys2Proof.Tests

open Sys2Proof Sys2Proof.Machine

-- one test after another: a kernel evaluation waits for every declaration before it
set_option Elab.async false

/-! ### Helpers -/

/-- The state a command leaves. -/
def after (c : Instr) (s : State) : State :=
  match exec c s with
  | .next t => t
  | .fault _ => s
  | .refused _ => s

/-- The queue: a step takes the front command; on an empty queue it is one millisecond (notes/assumptions/2.md). -/
def stepped (s : State) : State :=
  match step s with
  | .next t => t
  | .fault _ => s
  | .refused _ => s

/-- The body of the reply a port is sending: the reply code and the content. -/
def reply (p : PortId) (s : State) : List Byte :=
  ((s.port p).transmit.map (fun x => (x.frame.drop 4).take (x.frame.length - 6))).getD []

/-- The body of the reply to a request. -/
def ask (p : PortId) (c : Instr) (s : State) : List Byte := reply p (after c s)

/-- The kinds and subjects pending at the console port. -/
def noticed (s : State) : List (NoticeKind × Nat) := s.console.notices.map (fun n => (n.kind, n.subject))

/-- An arm set up for product 2, with an injector in position 1 (12, "The bay before the order"). -/
def readyArm (i : Fin 8) : Arm :=
  { Arm.cold with
    setup := { ArmSetup.cold with product := some 1, positions := (Table.fill 2 none).set 0 (some i) } }

/-- The bay of 12, "The bay before the order": arms 1 and 2, injectors 1 to 3, permit 52,880,114 in entry 9. -/
def bay : State :=
  { State.reset with
    clock := ⟨20612, 25200, true, 1000⟩
    permits := (Table.fill 200 none).set 8 (some ⟨52880114, 140, 0x05#8, 21000, .active, none, none⟩)
    products := (Table.fill 16 none).set 1 (some ⟨[0x44#8], 1, 950, 1000⟩)
    recipes := (Table.fill 16 none).set 0 (some ⟨7, 400, 5⟩)
    arms := ((Table.fill 6 Arm.cold).set 0 (readyArm 0)).set 1 (readyArm 1)
    probes := ((Table.fill 6 Probe.cold).set 0 ⟨0, .valid, 2795, 0, 0, none⟩).set 1 ⟨0, .valid, 2810, 0, 0, none⟩
    injectors := (Table.fill 8 Injector.cold).set 1 ⟨some 2, none, ⟨0, 0, 0, 0⟩, false⟩
    store :=
      { meters := ((Table.fill 6 MeterStore.blank).set 0
          ⟨100000, [⟨100, 100000⟩], 0, ⟨48211906, 410⟩, ⟨47605220, 95⟩, none⟩).set 1
          ⟨100000, [⟨100, 100000⟩], 0, ⟨31774050, 880⟩, ⟨31390612, 5⟩, none⟩
        injectors := (((Table.fill 8 InjectorStore.blank).set 0 ⟨7, 4000, 2000000, false, ⟨0, 0⟩⟩).set 1
          ⟨7, 4000, 2000000, false, ⟨0, 0⟩⟩).set 2 ⟨7, 4000, 2400000, false, ⟨0, 0⟩⟩
        sealLevel := .sealOpen
        counter := 1207 }
    bay := ⟨⟨true, .present, none⟩, ⟨true, .present, none⟩, ⟨false, false, none⟩, ⟨false, none, false⟩, .amend, false,
      false⟩ }

/-- Line 1 of order 6,400,517 (12, "Posting and presentation"). -/
def lineOne : Line := ⟨1, 1, 6000, .gross, some 0, .waiting, none, LineFlags.clear, LineRecord.blank⟩

/-- A second line, without additive. -/
def lineTwo : Line := ⟨2, 1, 4000, .standard, none, .waiting, none, LineFlags.clear, LineRecord.blank⟩

/-- Order 6,400,517, POSTED. -/
def postedOrder : Order := ⟨6400517, 0, 140, 0, [lineOne, lineTwo], .posted, none, none, none, none, none, none⟩

/-- Order 6,400,517 claimed by permit 52,880,114 with tanker 7,731. -/
def claimedOrder : Order :=
  { postedOrder with
    state := .claimed, claimPermit := some 52880114, claimTanker := some 7731, claimTime := some ⟨20612, 25200⟩,
    claimTimer := some 600000 }

/-- The same order LOADING with these lines. -/
def loadingOrder (lines : List Line) : Order :=
  { claimedOrder with state := .loading, claimTimer := none, lines := lines }

/-- The bay with one order, in slot 11. -/
def withOrder (o : Order) : State := { bay with orders := (Table.fill 24 none).set 10 (some o) }

def posted : State := withOrder postedOrder

/-- The claim stands on both sides. -/
def claimed : State :=
  { withOrder claimedOrder with
    permits := (Table.fill 200 none).set 8
      (some ⟨52880114, 140, 0x05#8, 21000, .active, some 10, some ⟨20612, 25200⟩⟩) }

/-- Line 2 ACTIVE, with a result and delivered quantities. -/
def activeTwo (result : Option LineResult) (gv gsv : Nat) : Line :=
  { lineTwo with
    state := .active 1
    result := result
    record := ⟨gv, gsv, 0, none, some ⟨⟨31774050, 880⟩, ⟨31390612, 5⟩⟩, none, some 1207⟩ }

/-- Arm 2 carries line 2, in slot 11. -/
def carrier (f : Arm → Arm) : Arm := f { readyArm 1 with active := some ⟨10, 2⟩ }

/-- Line 2 stands so on arm 2, line 1 WAITING. -/
def loads (l : Line) (f : Arm → Arm) : State :=
  { claimed with
    orders := (Table.fill 24 none).set 10 (some (loadingOrder [lineOne, l]))
    arms := bay.arms.set 1 (carrier f) }

/-- Arm 2 in full flow. -/
def flowing : State := loads (activeTwo none 1000000 900000) (fun x => { x with state := .fullFlow, stageVolume := 200 })

/-- Arm 2 suspended. -/
def held : State :=
  loads (activeTwo none 1000000 900000) (fun x => { x with state := .suspended, suspendTimer := some 1 })

/-- The record of 12, "Two arms start", at some point of its life. -/
def record (accumulator owed budget : Nat) (shot : Option Shot) : DosingRecord :=
  ⟨.accruing, 0, 1, 2000000, 7, 400, 5, 100000, 80, accumulator, owed, budget, shot, 1760, 0, none⟩

/-- Arm 2 in full flow with a record that engages injector 2, whose window runs while a shot is in flight. -/
def dosing (r : DosingRecord) : State :=
  { loads { activeTwo none 1505300 1480000 with recipe := some 0 } (fun x =>
      { x with state := .fullFlow, dosing := some r }) with
    injectors := bay.injectors.modify 1 (fun x => { x with window := r.shot.map (fun _ => 3000) }) }

/-- A table that holds one entry only. -/
theorem sole_get {n : Nat} {α : Type} {e k : Fin n} {q r : α} (h : ((Table.fill n none).set e (some q)).get k = some r) :
    k = e ∧ r = q := by
  rw [Table.get_set] at h
  split at h
  · next hk => exact ⟨hk, (Option.some.inj h).symm⟩
  · simp at h

theorem onlyPermit_sole {s : State} {e : Fin 200} {q : Permit} (h : s.permits = (Table.fill 200 none).set e (some q)) :
    s.onlyPermit q.number e q := by
  refine ⟨by simp [h], rfl, fun k r hk _ => ?_⟩
  rw [h] at hk
  exact (sole_get hk).1

theorem onlyOrder_sole {s : State} {e : Fin 24} {o : Order} (h : s.orders = (Table.fill 24 none).set e (some o)) :
    s.onlyOrder o.number e o := by
  refine ⟨by simp [State.order, h], rfl, fun k r hk _ => ?_⟩
  rw [State.order, h] at hk
  exact (sole_get hk).1

/-- Permit 52,880,114 as the claim leaves it. -/
abbrev holder : Permit := ⟨52880114, 140, 0x05#8, 21000, .active, some 10, some ⟨20612, 25200⟩⟩

/-- Lines and arms agree where a finite check says so. -/
theorem linesKept_of {s : State} (h1 : ∀ a, (s.arm a).standing)
    (h2 : ∀ a, ∀ ref ∈ (s.arm a).active, ∃ l ∈ s.lineAt ref, l.state = .active a ∧
      (l.isEnding = true ↔ (s.arm a).state = .closing ∧ (s.arm a).reason = some .lineEnd))
    (h3 : ∀ slot, ∀ o ∈ s.order slot, ∀ k : Fin o.lines.length,
      (o.lines[k].state = .waiting → o.lines[k].result = none) ∧
        ∀ a, o.lines[k].state = .active a → (s.arm a).active = some ⟨slot, k.val + 1⟩ ∧
          (o.state = .loading ∨ o.state = .closing) ∧ o.idleTimer = none) : s.linesKept := by
  refine ⟨h1, fun _ => ⟨fun a ref h => h2 a ref h, fun slot o k l ho hl => ?_⟩⟩
  unfold Order.line? at hl
  split at hl
  · simp at hl
  · next hk =>
    obtain ⟨hlt, rfl⟩ := List.getElem?_eq_some_iff.mp hl
    have := h3 slot o ho ⟨k - 1, hlt⟩
    simpa [Nat.sub_add_cancel (Nat.one_le_iff_ne_zero.mpr hk)] using this

/-- The dosing unit is kept where a finite check says so. -/
theorem dosesKept_of {s : State} (h1 : ∀ a, (s.arm a).standing)
    (h2 : ∀ a, ∀ r ∈ (s.arm a).dosing, r.bounded ∧ (s.arm a).active.isSome = true)
    (h3 : ∀ a p, ∀ i ∈ (s.arm a).setup.positions.get p, ∀ b q, (s.arm b).setup.positions.get q = some i → a = b ∧ p = q)
    (h4 : ∀ j, ∀ i ∈ (s.injector j).standby,
      (∃ a p, (s.arm a).setup.positions.get p = some j) ∧ (∀ a p, (s.arm a).setup.positions.get p ≠ some i) ∧
        (∀ k, (s.injector k).standby = some i → k = j) ∧ (s.injectorStore i).additive = (s.injectorStore j).additive)
    (h5 : ∀ i, (s.injectorStore i).failed = false)
    (h6 : ∀ i, (s.injector i).window.isSome = true →
      ∃ a, ∃ r ∈ (s.arm a).dosing, (s.arm a).engaged = some i ∧ r.shot.isSome = true) : s.dosesKept := by
  refine ⟨h1, fun a r h => h2 a r h, fun a p b q i ha hb => h3 a p i ha b q hb, fun j i h => h4 j i h,
    fun i h => by simp [h5 i] at h, fun i h => ?_⟩
  obtain ⟨a, r, hr, g⟩ := h6 i h
  exact ⟨a, r, hr, g⟩

theorem linesKept_flowing : flowing.linesKept :=
  linesKept_of (by unfold Arm.standing; decide +kernel) (by decide +kernel) (by decide +kernel)

theorem dosesKept_dosing : (dosing (record 10000 0 2 (some ⟨0, false⟩))).dosesKept :=
  dosesKept_of (by unfold Arm.standing; decide +kernel) (by unfold DosingRecord.bounded; decide +kernel)
    (by decide +kernel) (by decide +kernel) (by decide +kernel) (by decide +kernel)

theorem linesKept_dosing : (dosing (record 10000 0 2 (some ⟨0, false⟩))).linesKept :=
  linesKept_of (by unfold Arm.standing; decide +kernel) (by decide +kernel) (by decide +kernel)

/-- An arm without a dosing record. -/
theorem doses_none {x : Arm} (h : x.dosing = none) : x.doses := fun r hr => by simp [h] at hr

/-- An arm whose record has an interval and engages an injector. -/
theorem doses_some {x : Arm} {r : DosingRecord} (h : x.dosing = some r) (hi : 0 < r.interval) (he : x.engaged ≠ none) :
    x.doses := fun q hq => by
  obtain rfl : r = q := by simpa [h] using hq
  exact ⟨hi, fun h2 => absurd h2 he⟩

/-! ### Ill-formed commands -/

/-- Every one of the first commands is well formed, and none of the second. -/
def splits (good bad : List Instr) : Bool := good.all Instr.wellFormed && bad.all (fun c => !c.wellFormed)

theorem test_illFormed_permits :
    splits
     [.setClock .terminal 0#8 1 1, .writePermit .terminal 0#8 1 1 0xFF#8 1 1]
     [.setClock .terminal 0#8 65536 1, .setClock .terminal 0#8 1 4294967296,
      .writePermit .terminal 0#8 4294967296 1 0xFF#8 1 1, .writePermit .terminal 0#8 1 65536 0xFF#8 1 1,
      .writePermit .terminal 0#8 1 1 0xFF#8 65536 1, .writePermit .terminal 0#8 1 1 0xFF#8 1 256] = true := by decide +kernel

theorem test_illFormed_numbers :
    splits
     [.barPermit .terminal 0#8 1, .deletePermit .terminal 0#8 1, .readPermit .terminal 0#8 1,
      .releaseClaim .terminal 0#8 1, .finishOrder .terminal 0#8 1, .cancelOrder .terminal 0#8 1,
      .collectNote .terminal 0#8 1, .markPrinted .terminal 0#8 1]
     [.barPermit .terminal 0#8 4294967296, .deletePermit .terminal 0#8 4294967296,
      .readPermit .terminal 0#8 4294967296, .releaseClaim .terminal 0#8 4294967296,
      .finishOrder .terminal 0#8 4294967296, .cancelOrder .terminal 0#8 4294967296,
      .collectNote .terminal 0#8 4294967296, .markPrinted .terminal 0#8 4294967296] = true := by decide +kernel

theorem test_illFormed_tables :
    splits
     [.writeProduct .terminal 0#8 1 1 (List.replicate 16 0x41#8) 1 1 1,
      .writeArmSetup .terminal 0#8 1 1 1 1 1 1, .writeRecipe .terminal 0#8 1 1 1 1]
     [.writeProduct .terminal 0#8 256 1 (List.replicate 16 0x41#8) 1 1 1,
      .writeProduct .terminal 0#8 1 256 (List.replicate 16 0x41#8) 1 1 1,
      .writeProduct .terminal 0#8 1 1 (List.replicate 15 0x41#8) 1 1 1,
      .writeProduct .terminal 0#8 1 1 (List.replicate 16 0x41#8) 256 1 1,
      .writeProduct .terminal 0#8 1 1 (List.replicate 16 0x41#8) 1 65536 1,
      .writeProduct .terminal 0#8 1 1 (List.replicate 16 0x41#8) 1 1 65536,
      .writeArmSetup .terminal 0#8 256 1 1 1 1 1, .writeArmSetup .terminal 0#8 1 256 1 1 1 1,
      .writeArmSetup .terminal 0#8 1 1 65536 1 1 1, .writeArmSetup .terminal 0#8 1 1 1 65536 1 1,
      .writeArmSetup .terminal 0#8 1 1 1 1 65536 1, .writeArmSetup .terminal 0#8 1 1 1 1 1 65536,
      .writeRecipe .terminal 0#8 256 1 1 1, .writeRecipe .terminal 0#8 1 256 1 1,
      .writeRecipe .terminal 0#8 1 1 65536 1, .writeRecipe .terminal 0#8 1 1 1 256] = true := by decide +kernel

theorem test_illFormed_orders :
    splits
     [.postOrder .terminal 0#8 1 1 1 1 [⟨1, 1, 100, 1, 0⟩],
      .amendOrder .terminal 0#8 1 1 1 [⟨1, 1, 100, 1, 0⟩], .presentPermit .terminal 0#8 1 1 1,
      .readOrder .terminal 0#8 1 1 1, .startLine .terminal 0#8 1 1 1]
     [.postOrder .terminal 0#8 4294967296 1 1 1 [⟨1, 1, 100, 1, 0⟩],
      .postOrder .terminal 0#8 1 4294967296 1 1 [⟨1, 1, 100, 1, 0⟩],
      .postOrder .terminal 0#8 1 1 65536 1 [⟨1, 1, 100, 1, 0⟩],
      .postOrder .terminal 0#8 1 1 1 4294967296 [⟨1, 1, 100, 1, 0⟩],
      .postOrder .terminal 0#8 1 1 1 1 (List.replicate 38 ⟨1, 1, 100, 1, 0⟩),
      .postOrder .terminal 0#8 1 1 1 1 [⟨256, 1, 100, 1, 0⟩],
      .postOrder .terminal 0#8 1 1 1 1 [⟨1, 256, 100, 1, 0⟩],
      .postOrder .terminal 0#8 1 1 1 1 [⟨1, 1, 65536, 1, 0⟩],
      .postOrder .terminal 0#8 1 1 1 1 [⟨1, 1, 100, 256, 0⟩],
      .postOrder .terminal 0#8 1 1 1 1 [⟨1, 1, 100, 1, 256⟩],
      .amendOrder .terminal 0#8 4294967296 1 1 [⟨1, 1, 100, 1, 0⟩],
      .amendOrder .terminal 0#8 1 4294967296 1 [⟨1, 1, 100, 1, 0⟩],
      .amendOrder .terminal 0#8 1 1 4294967296 [⟨1, 1, 100, 1, 0⟩],
      .amendOrder .terminal 0#8 1 1 1 (List.replicate 38 ⟨1, 1, 100, 1, 0⟩),
      .amendOrder .terminal 0#8 1 1 1 [⟨256, 1, 100, 1, 0⟩], .presentPermit .terminal 0#8 4294967296 1 1,
      .presentPermit .terminal 0#8 1 4294967296 1, .presentPermit .terminal 0#8 1 1 4294967296,
      .readOrder .terminal 0#8 4294967296 1 1, .readOrder .terminal 0#8 1 256 1,
      .readOrder .terminal 0#8 1 1 256, .startLine .terminal 0#8 256 1 1,
      .startLine .terminal 0#8 1 4294967296 1, .startLine .terminal 0#8 1 1 256] = true := by decide +kernel

theorem test_illFormed_objects :
    splits
     [.readStatistics .terminal 0#8 1, .readAndClearStatistics .terminal 0#8 1, .endLine .terminal 0#8 1,
      .clearLockout .terminal 0#8 1, .readArm .terminal 0#8 1, .suspendArm .terminal 0#8 1,
      .holdArm .terminal 0#8 1, .resumeArm .terminal 0#8 1, .releaseArm .terminal 0#8 1,
      .releaseStandby .terminal 0#8 1, .returnInjector .terminal 0#8 1, .readInjector .terminal 0#8 1,
      .setSeal .terminal 0#8 1, .readTotals .terminal 0#8 1]
     [.readStatistics .terminal 0#8 256, .readAndClearStatistics .terminal 0#8 256,
      .endLine .terminal 0#8 256, .clearLockout .terminal 0#8 256, .readArm .terminal 0#8 256,
      .suspendArm .terminal 0#8 256, .holdArm .terminal 0#8 256, .resumeArm .terminal 0#8 256,
      .releaseArm .terminal 0#8 256, .releaseStandby .terminal 0#8 256, .returnInjector .terminal 0#8 256,
      .readInjector .terminal 0#8 256, .setSeal .terminal 0#8 256, .readTotals .terminal 0#8 256] = true := by decide +kernel

theorem test_illFormed_injectors :
    splits
     [.assignInjector .terminal 0#8 1 1 1, .removeInjector .terminal 0#8 1 1, .assignStandby .terminal 0#8 1 1]
     [.assignInjector .terminal 0#8 256 1 1, .assignInjector .terminal 0#8 1 256 1,
      .assignInjector .terminal 0#8 1 1 256, .removeInjector .terminal 0#8 256 1,
      .removeInjector .terminal 0#8 1 256, .assignStandby .terminal 0#8 256 1,
      .assignStandby .terminal 0#8 1 256] = true := by decide +kernel

theorem test_illFormed_calibration :
    splits
     [.writeCalibrationKFactor .terminal 0#8 1 1, .writeCalibrationCurve .terminal 0#8 1 [⟨1, 1⟩],
      .writeCalibrationOffset .terminal 0#8 1 0, .writeCalibrationInjector .terminal 0#8 1 1 1 1,
      .writeTrialFactor .terminal 0#8 1 1]
     [.writeCalibrationKFactor .terminal 0#8 256 1, .writeCalibrationKFactor .terminal 0#8 1 4294967296,
      .writeCalibrationCurve .terminal 0#8 256 [⟨1, 1⟩],
      .writeCalibrationCurve .terminal 0#8 1 (List.replicate 40 ⟨1, 1⟩),
      .writeCalibrationCurve .terminal 0#8 1 [⟨65536, 1⟩],
      .writeCalibrationCurve .terminal 0#8 1 [⟨1, 4294967296⟩], .writeCalibrationOffset .terminal 0#8 256 0,
      .writeCalibrationOffset .terminal 0#8 1 (-32769), .writeCalibrationOffset .terminal 0#8 1 32768,
      .writeCalibrationInjector .terminal 0#8 256 1 1 1, .writeCalibrationInjector .terminal 0#8 1 256 1 1,
      .writeCalibrationInjector .terminal 0#8 1 1 65536 1,
      .writeCalibrationInjector .terminal 0#8 1 1 1 4294967296, .writeTrialFactor .terminal 0#8 256 1,
      .writeTrialFactor .terminal 0#8 1 4294967296] = true := by decide +kernel

theorem test_illFormed_notes :
    splits
     [.readNote .terminal 0#8 1 1, .setNoticeLevels .terminal 0#8 1 1 1 1 1 1#16]
     [.readNote .terminal 0#8 4294967296 1, .readNote .terminal 0#8 1 256,
      .setNoticeLevels .terminal 0#8 256 1 1 1 1 1#16, .setNoticeLevels .terminal 0#8 1 256 1 1 1 1#16,
      .setNoticeLevels .terminal 0#8 1 1 256 1 1 1#16, .setNoticeLevels .terminal 0#8 1 1 1 256 1 1#16,
      .setNoticeLevels .terminal 0#8 1 1 1 1 256 1#16] = true := by decide +kernel

theorem test_illFormed_frames :
    splits
     [.unknownRequest .terminal 0#8 0x50#8 [], .frameWhileBusy .terminal 0#8 0x20#8 []]
     [.unknownRequest .terminal 0#8 0x20#8 [], .unknownRequest .terminal 0#8 0x50#8 (List.replicate 241 0#8),
      .frameWhileBusy .terminal 0#8 0x20#8 (List.replicate 241 0#8)] = true := by decide +kernel

/-! ### Steps whose results the spec gives -/

/-- 11, R190: the CRC's check value. -/
theorem test_crc_check :
    crc [0x31#8, 0x32#8, 0x33#8, 0x34#8, 0x35#8, 0x36#8, 0x37#8, 0x38#8, 0x39#8] = 0x29B1#16 := by decide +kernel

/-- A console port with these notices and levels in service. -/
def listening (notices : List Notice) (inService : List Nat) : State :=
  { bay with console := { Port.cold with notices := notices, inService := inService } }

/-- 11, "Example: a notice reply as sent". -/
def heldThree : State := listening [⟨.lineHeld, 3, ⟨20450, 30612⟩⟩, ⟨.strayFlow, 6, ⟨20450, 1⟩⟩] []

theorem test_fetchNotice_reply :
    ask .console (.fetchNotice .console 0x3C#8) heldThree
      = [0x00#8, 0x05#8, 0x03#8, 0x4F#8, 0xE2#8, 0x00#8, 0x00#8, 0x77#8, 0x94#8, 0x01#8] := by decide +kernel

theorem test_fetchNotice_level :
    let t := after (.fetchNotice .console 0x3C#8) heldThree
    t.console.inService = [2] ∧ noticed t = [(.strayFlow, 6)] ∧ t.console.attention = false := by decide +kernel

/-- The frame of that request, its last byte arriving (11, R177). -/
theorem test_frame_completes :
    let frame := encodeFrame 0x3C#8 0x0A#8 []
    let s := heldThree.modifyPort .console (fun x => { x with receive := frame.take 5, gapTimer := some 7 })
    frame.take 4 = [0xA5#8, 0x00#8, 0x3C#8, 0x0A#8] ∧
      reply .console (after (.characterReceived .console (frame.getD 5 0#8)) s)
        = ask .console (.fetchNotice .console 0x3C#8) heldThree := by decide +kernel

/-- 10, "Example: notices on the console port". -/
theorem test_notice_table :
    let stray : Notice := ⟨.strayFlow, 6, ⟨1, 1⟩⟩
    let s := listening [stray] [3]
    ((s.raise .lineHeld 3).console.attention = true ∧ s.console.attention = false) ∧
      (after (.fetchNotice .console 0#8) (s.raise .lineHeld 3)).console.inService = [2, 3] ∧
      noticed (after (.fetchNotice .console 0#8) ((listening [stray] [2, 3]).raise .estop 0)) = [(.strayFlow, 6)] ∧
      (after (.fetchNotice .console 0#8) ((listening [stray] [2, 3]).raise .estop 0)).console.inService = [2, 3] ∧
      ((listening [stray] [2, 3]).raise .strayFlow 6).console.notices = [stray] := by decide +kernel

theorem test_noticeDone :
    ask .console (.noticeDone .console 0#8) (listening [] [3, 2]) = [0x00#8, 0x02#8] ∧
      (after (.noticeDone .console 0#8) (listening [] [3, 2])).console.inService = [3] ∧
      ask .console (.noticeDone .console 0#8) (listening [] []) = [0x09#8] := by decide +kernel

theorem test_linkReset_empties_service :
    (after (.linkReset .console) (listening [⟨.strayFlow, 6, ⟨1, 1⟩⟩] [2, 3])).console.attention = true := by
  decide +kernel

/-- The fourth arm's decoder, so placed, after an edge. -/
def edge (d : Decoder) (c : Channel) : Decoder :=
  ((after (.meterEdge 3 c) (State.reset.modifyArm 3 (fun x => { x with decoder := d }))).arm 3).decoder

/-- A decoder in LINE mode: the expected edge, the B miss count, the line counts, and the missing-B statistic. -/
def lineDecoder (e : Channel) (missB counted corrected lost : Nat) : Decoder :=
  ⟨e, .normal, .normal, 0, missB, .line, counted, counted, corrected, true, ⟨0, lost, 0, 0⟩⟩

/-- 03, "Example: a channel lost during a line". -/
theorem test_edges :
    edge (lineDecoder .a 0 0 0 0) .a = lineDecoder .b 0 0 0 0 ∧ edge (lineDecoder .b 0 0 0 0) .b = lineDecoder .a 0 1 0 0 ∧
      edge (lineDecoder .b 0 1 0 0) .a = lineDecoder .b 1 2 1 1 ∧ edge (lineDecoder .b 1 2 1 1) .b = lineDecoder .a 0 3 1 1 ∧
      edge (lineDecoder .b 2 5 3 3) .a = lineDecoder .b 3 6 4 4 := by decide +kernel

theorem test_channel_fails :
    let d := edge (lineDecoder .b 3 6 4 4) .a
    d = { lineDecoder .b 4 7 5 5 with statusB := .failed, stats := ⟨0, 5, 1, 0⟩ } ∧
      edge d .a = { d with sampleCount := 8, lineCounted := 8 } ∧ edge d .b = d := by decide +kernel

/-- R58: the allowance reported last is 0 before a line has started on the meter, and 5 at a line's start. -/
theorem test_allowance :
    let allowance (s : State) := (ask .terminal (.readStatistics .terminal 0#8 1) s).drop 21
    allowance claimed = [0#8, 0#8, 0#8, 0#8] ∧
      allowance (after (.startLine .console 0#8 1 6400517 1) claimed) = [0#8, 0#8, 0#8, 5#8] := by decide +kernel

/-- R101, 11: READ ARM spells the product's name in 16 bytes, zero-filled, after a presence byte, and its class follows. -/
theorem test_arm_product :
    let c := (ask .console (.readArm .console 0#8 1) bay).drop 1
    c.length = 103 ∧ (c.drop 78).take 18 = 1#8 :: 0x44#8 :: List.replicate 15 0#8 ++ [1#8] := by decide +kernel

/-- The meter of 03's and 04's examples. -/
abbrev curveThree : List CurvePoint := [⟨500, 100210⟩, ⟨1000, 100150⟩, ⟨2000, 100080⟩, ⟨2400, 100060⟩]

/-- 04, "Example: two samples through the whole chain" (the first two samples of 03's example). -/
theorem test_sample_stages :
    sampleVolumes 24000 curveThree none (vcf 1190 1300 1039) ⟨0, 0, 0⟩ 160 = ⟨6666, 1999, 6671, 6707, ⟨16000, 33280, 75721⟩⟩ ∧
      sampleVolumes 24000 curveThree none (vcf 1190 1300 1045) ⟨16000, 33280, 75721⟩ 161
        = ⟨6709, 2012, 6714, 6751, ⟨0, 63291, 28137⟩⟩ ∧
      (sampleVolumes 24000 curveThree none 100000 ⟨0, 0, 0⟩ 158).indicated = 6583 := by decide +kernel

/-- 04, the table under R70. -/
theorem test_meter_factors :
    [0, 750, 1999, 2012, 2400, 2650].map (curveFactor curveThree)
      = [100210, 100180, 100080, 100079, 100060, 100060] := by decide +kernel

/-- 12, "The bay before the order". -/
theorem test_vcf : vcf 950 1000 2795 = 98787 ∧ vcf 950 1000 2810 = 98773 := by decide +kernel

/-- Probe 1 after a gate that counted so many pulses. -/
def gated (status : ProbeStatus) (invalid recovery count : Nat) : Probe :=
  (after .gateCompletion { bay with probes := bay.probes.set 0 ⟨count, status, 1039, invalid, recovery, none⟩ }).probes.get 0

/-- 04, the table under R64. -/
theorem test_gate_temperatures :
    [31000, 31994, 38462, 40000, 48382, 49000].map (fun c => (gated .valid 0 0 c).lastGate)
      = [some 7541, some 6500, some 1039, some 0, some (-4500), some (-4771)] ∧
      (gated .valid 0 0 0).lastGate = none := by decide +kernel

/-- 04, "Example: a probe that fails and recovers", with an offset of 0. -/
theorem test_probe_status :
    (gated .holding 10 0 0).status = .failed ∧ (gated .failed 11 0 38400).recoveryRun = 1 ∧
      (gated .failed 11 2 0).recoveryRun = 0 ∧ (gated .failed 11 2 38430) = ⟨0, .valid, 1061, 0, 0, some 1061⟩ := by
  decide +kernel

/-- 08, "Example: a proving run and a recalibration". -/
theorem test_totalizer_wraps : Totalizer.advance ⟨999999998, 700⟩ 6671 = ⟨5, 371⟩ := by decide +kernel

theorem test_dosing_totalizer :
    let p := fun (x : DosingTotalizer) => x.pulse 1500000
    p ⟨0, 0⟩ = ⟨0, 1000000⟩ ∧ p ⟨0, 1000000⟩ = ⟨1, 500000⟩ ∧ p ⟨1, 500000⟩ = ⟨2, 0⟩ := by decide +kernel

/-- The bay at that example's switch and seal. -/
def proving (w : SwitchPosition) (l : SealLevel) (counter : Nat) : State :=
  { bay with bay := { bay.bay with switch := w }, store := { bay.store with sealLevel := l, counter := counter } }

theorem test_trial_factor :
    let ask2 := fun w => ask .terminal (.writeTrialFactor .terminal 0#8 2 100095) (proving w .sealHeld 412)
    ask2 .locked = [0x19#8] ∧ ask2 .amend = [0x00#8] ∧
      ((after (.writeTrialFactor .terminal 0#8 2 100095) (proving .amend .sealHeld 412)).meterStore 1).pendingTrial
        = some 100095 := by decide +kernel

theorem test_write_curve :
    let c := Instr.writeCalibrationCurve .terminal 0#8 2 [⟨500, 100210⟩, ⟨1000, 100150⟩, ⟨2000, 100080⟩]
    ask .terminal c (proving .amend .sealHeld 412) = [0x18#8] ∧
      ask .terminal c (proving .amend .sealOpen 412) = [0x00#8, 0x01#8, 0x9D#8] ∧
      ask .terminal c (proving .amend .sealOpen 65535) = [0x1A#8] := by decide +kernel

theorem test_cold_start_opens_the_seal :
    (after .coldStart (proving .amend .sealHeld 412)).store.sealLevel = .sealOpen ∧
      (after .coldStart (proving .amend .sealFixed 412)).store.sealLevel = .sealFixed := by decide +kernel

/-- 01, R2: the day's turn. -/
theorem test_clock_turns :
    (after .clockAdvance { bay with clock := ⟨20450, 86399, true, 1⟩ }).clock = ⟨20451, 0, true, 1000⟩ ∧
      (after .clockAdvance { bay with clock := ⟨65535, 86399, true, 1⟩ }).clock.day = 65535 := by decide +kernel

/-- 12, "Posting and presentation". -/
theorem test_post_takes_slot_11 :
    let s := { bay with orders := Table.modify ⟨List.replicate 10 (some postedOrder) ++ List.replicate 14 none, by decide⟩ 0 id }
    ask .terminal (.postOrder .terminal 0#8 6400518 0 140 0 [⟨1, 2, 6000, 1, 1⟩, ⟨2, 2, 4000, 2, 1⟩]) s
      = [0x00#8, 0x0B#8] := by decide +kernel

theorem test_present_claims :
    let t := after (.presentPermit .console 0#8 52880114 7731 6400517) posted
    reply .console t = [0x00#8, 0x0B#8] ∧ t.order 10 = some claimedOrder ∧ t.permits.get 8 = some holder := by
  decide +kernel

theorem test_present_refused :
    ask .console (.presentPermit .console 0#8 52880114 7731 6400517) { posted with clock := ⟨21001, 0, true, 1⟩ }
        = [0x0C#8] ∧
      ask .console (.presentPermit .console 0#8 52880114 7731 6400517) { posted with clock := ⟨0, 0, false, 1⟩ }
        = [0x0A#8] := by decide +kernel

/-- 01, "Example: a driver barred during a load". -/
theorem test_bar_during_a_load :
    let t := after (.barPermit .terminal 0#8 52880114) flowing
    t.permits.get 8 = some { holder with state := .barred } ∧ t.order 10 = flowing.order 10 ∧ noticed t = [] ∧
      ask .console (.startLine .console 0#8 1 6400517 1) { t with terminal := bay.terminal } = [0x0B#8] := by
  decide +kernel

/-- 12, "Two arms start": a dosing record opens, and the readings at start are taken. -/
theorem test_start_line :
    let t := after (.startLine .console 0#8 1 6400517 1) claimed
    reply .console t = [0x00#8] ∧ (t.arm 0).state = .lowStart ∧ (t.arm 0).low = true ∧ (t.arm 0).full = false ∧
      (t.arm 0).dosing.map (fun r => (r.interval, r.target, r.budget)) = some (100000, 80, 2) ∧
      (t.lineAt ⟨10, 1⟩).bind (fun l => l.record.atStart) = some ⟨⟨48211906, 410⟩, ⟨47605220, 95⟩⟩ ∧
      t.bay.deadman.elapsed = some 0 := by decide +kernel

/-- 05, "A close that confirms and a queued start": a start on a closing arm is stored. -/
theorem test_queued_start :
    let s := loads (activeTwo (some .complete) 4008000 4000000) (fun x => { x with state := .closing, reason := some .lineEnd })
    let t := after (.startLine .console 0#8 2 6400517 1) s
    reply .console t = [0x01#8] ∧ (t.arm 1).queued = some ⟨6400517, 1⟩ := by decide +kernel

/-- 05, the table of "A close that confirms": the stage ends at 200,000 mL of stage gross. -/
theorem test_stages :
    let x := { readyArm 0 with state := .lowStart }
    { x with stageGross := 199999 }.stage 7799588 = .lowStart ∧ { x with stageGross := 200412 }.stage 7799588 = .fullFlow ∧
      { x with state := .fullFlow, stageGross := 7700950 }.stage 299050 = .topOff ∧
      { x with stageGross := 200412 }.stage 300000 = .topOff := by decide +kernel

/-- The same chapter's overrun: 8,012 − 8,000; and 12's on the line's basis, 4,012 − 4,000. -/
theorem test_overruns :
    { lineOne with preset := 8000, record := { LineRecord.blank with gv := 8012300 } }.overrun = 12 ∧
      { lineTwo with record := { LineRecord.blank with gv := 4062300, gsv := 4012455 } }.overrun = 12 := by
  decide +kernel

/-- 05: 4,880 mL and 310 mL cross 5,000; STRAY_FLOW is raised for the arm. -/
theorem test_stray_crosses :
    let s := { bay with arms := bay.arms.modify 0 (fun x =>
      { x with stray := 4880, decoder := { x.decoder with sampleCount := 31 } }) }
    let t := after (.meteringSample 0) s
    noticed t = [(.strayFlow, 1)] ∧ (t.arm 0).stray = 5190 ∧ (t.meterStore 0).gross = ⟨48211906, 720⟩ := by
  decide +kernel

/-- 06, "Example: a ground loss on two flowing arms". -/
theorem test_ground_lost :
    let t := after (.permissiveLoss .ground) { flowing with bay := { bay.bay with deadman := ⟨false, some 40000, false⟩ } }
    (t.arm 1).state = .closing ∧ (t.arm 1).reason = some .hold ∧ (t.arm 1).holds.ground = true ∧
      (t.arm 0).holds = HoldSet.clear ∧ t.bay.deadman.elapsed = none ∧ noticed t = [(.permissiveLost, 0)] := by
  decide +kernel

theorem test_resume :
    let s := { held with arms := held.arms.modify 1 (fun x => { x with holds := HoldSet.clear.put true .operator }) }
    let t := after (.resumeArm .console 0#8 2) s
    (t.arm 1).state = .lowStart ∧ (t.arm 1).stageVolume = 100 ∧ (t.arm 1).holds = HoldSet.clear ∧
      ask .console (.resumeArm .console 0#8 2) { s with arms := s.arms.modify 1 (fun x =>
        { x with holds := x.holds.put true .ground }) } = [0x17#8] := by decide +kernel

/-- R114, R90: the stop ends the running line. -/
theorem test_estop :
    let t := after .estopActivation flowing
    (t.arm 1).state = .closing ∧ (t.arm 1).reason = some .lineEnd ∧ noticed t = [(.estop, 0)] ∧
      (t.lineAt ⟨10, 2⟩).map (fun l => (l.result, l.flags.estop)) = some (some .aborted, true) := by decide +kernel

/-- R116, R120: the expiry of a warned deadman timer holds the arm, and does not happen behind a press that restarts it. -/
theorem test_deadman_restarts :
    let s := { flowing with bay := { bay.bay with deadman := ⟨false, some 150000, true⟩ } }
    let t := after .deadmanExpiry (after (.deadmanPress true) s)
    ((after .deadmanExpiry s).arm 1).state = .closing ∧ (t.arm 1).state = .fullFlow ∧
      t.bay.deadman = ⟨true, some 0, false⟩ := by decide +kernel

/-- 12: the calibration of an injector gives its interval and its target; 07's gives 20,000 and 15. -/
theorem test_interval_and_target :
    dosingInterval 4000 400 = 100000 ∧ shotTarget 4000 2000000 = 80 ∧ shotTarget 4000 2400000 = 96 ∧
      dosingInterval 1000 500 = 20000 ∧ shotTarget 1000 1500000 = 15 := by decide +kernel

/-- 12, "Injector 2 fails and injector 3 takes over": the third window. -/
theorem test_takeover :
    let t := after (.verifyWindowExpiry 1) (dosing (record 31500 2 0 (some ⟨0, true⟩)))
    (t.arm 1).engaged = some 2 ∧ (t.arm 1).setup.positions.get 0 = some 2 ∧
      (t.arm 1).dosing.map (fun r => (r.serving, r.owed, r.accumulator, r.dosedBefore)) = some (2, 1, 31500, 880) ∧
      (t.arm 1).dosing.map (fun r => (r.target, r.budget, r.shot)) = some (96, 2, some ⟨0, false⟩) ∧
      (t.injectorStore 1).failed = true ∧ (t.injector 2).window = some 3000 ∧ noticed t = [(.injectorFailed, 2)] := by
  decide +kernel

/-- R63 and R3, the timers having run out: the timeout behind the completing edge leaves the next gate counting, and the
advance behind SET CLOCK leaves the time that it carried; the same commands once more are their sender's own. -/
theorem test_restarted_timers :
    let s := stepped { bay with gate := ⟨39999, 1⟩, clock := ⟨20612, 25200, true, 1⟩ }
    let t := after .gateTimeout (after .referenceEdge (after .referenceEdge s))
    let u := after .clockAdvance (after (.setClock .terminal 0#8 20613 100) s)
    s.due = [.clockAdvance, .gateTimeout] ∧ t.gate = ⟨1, 2000⟩ ∧ (after .gateTimeout t).gate.referenceCount = 0 ∧
      u.clock = ⟨20613, 100, true, 1000⟩ ∧ (after .clockAdvance u).clock.second = 101 := by decide +kernel

/-- R52: the sample that waits behind START LINE is not the line's; its timer has restarted. -/
theorem test_start_restarts_the_sample :
    let s := stepped (claimed.modifyArm 0 (fun x =>
      { x with sampleTimer := 1, decoder := { x.decoder with sampleCount := 3 } }))
    let t := after (.startLine .console 0#8 1 6400517 1) s
    let u := after (.meteringSample 0) (after (.meterEdge 0 .b) (after (.meterEdge 0 .a) t))
    s.due = [.meteringSample 0] ∧ (t.arm 0).sampleTimer = 200 ∧ (t.arm 0).decoder.sampleCount = 0 ∧
      (u.arm 0).decoder.sampleCount = 1 ∧ (u.lineAt ⟨10, 1⟩).map (fun l => l.record.gv) = some 0 ∧
      (after (.meteringSample 0) u).lineAt ⟨10, 1⟩ ≠ u.lineAt ⟨10, 1⟩ := by decide +kernel

/-- R87 and R177: the no-flow timeout behind a sample with pulses, and the gap behind a byte, do not happen. -/
theorem test_overtaken_expiries :
    let s := stepped (loads (activeTwo none 0 0) (fun x => { x with
      state := .lowStart, noFlowTimer := some 1, sampleTimer := 1, decoder := { x.decoder with sampleCount := 2 } }))
    let r := stepped (bay.modifyPort .console (fun x => { x with receive := [0xA5#8], gapTimer := some 1 }))
    s.due = [.noFlowTimeout 1, .meteringSample 1] ∧ ((after (.noFlowTimeout 1) s).arm 1).state = .closing ∧
      ((after (.noFlowTimeout 1) (after (.meteringSample 1) s)).arm 1).state = .lowStart ∧
      (after (.frameGapTimeout .console) r).console.receive = [] ∧
      (after (.frameGapTimeout .console) (after (.characterReceived .console 0#8) r)).console.receive = [0xA5#8, 0#8] := by
  decide +kernel

/-- R145, the pulse first: the shot is good, and the expiry behind it leaves the shot issued at once in flight. -/
theorem test_pulse_then_expiry :
    let t := after (.verifyWindowExpiry 1) (after (.injectorFeedbackPulse 1) (dosing (record 31500 2 0 (some ⟨79, true⟩))))
    (t.arm 1).dosing.map (fun r => (r.owed, r.budget, r.shot)) = some (1, 2, some ⟨0, false⟩) ∧
      (t.injector 1).window = some 3000 ∧ (t.injectorStore 1).failed = false ∧
      ((after (.verifyWindowExpiry 1) t).arm 1).dosing.map (fun r => (r.budget, r.shot)) = some (1, some ⟨0, true⟩) := by
  decide +kernel

/-- R145, the third expiry first: the pulse that the attempt lacked counts to F, after a takeover and in DISENGAGED, and the
next pulse of the failed injector to no line (R136). -/
theorem test_expiry_then_pulse :
    let s (n : Nat) := dosing (record 31500 2 0 (some ⟨n, true⟩))
    let alone := (s 79).modifyInjector 1 (fun x => { x with standby := none })
    let f (s : State) := (after (.injectorFeedbackPulse 1) (after (.verifyWindowExpiry 1) s))
    ((f (s 79)).arm 1).dosing.map (fun r => (r.feedback, r.dosedBefore, r.shot)) = some (1, 880, some ⟨0, false⟩) ∧
      ((f alone).arm 1).dosing.map DosingRecord.feedback = some 1761 ∧
      ((after (.injectorFeedbackPulse 1) (f alone)).arm 1).dosing.map DosingRecord.feedback = some 1761 ∧
      ((f (s 78)).arm 1).dosing.map DosingRecord.feedback = some 0 := by decide +kernel

/-- 07, "An overspeed hold and a standby takeover": owed 3 with D at 22,000 settles to owed 3 with D at 2,000. -/
theorem test_takeover_settles :
    let r := { record 22000 3 0 (some ⟨0, true⟩) with interval := 20000, rate := 2000, feedback := 325, servingKf := 1500000 }
    let t := after (.verifyWindowExpiry 1) (dosing r)
    (t.arm 1).dosing.map (fun r => (r.owed, r.accumulator, r.dosedBefore)) = some (3, 2000, 216) := by decide +kernel

/-- 12, "The lines complete". -/
theorem test_dosing_totals :
    { record 0 0 2 none with feedback := 4860 }.totals 6006200 = ⟨7, 2430, 2402⟩ ∧
      { record 0 0 2 none with feedback := 1728, servingKf := 2400000, dosedBefore := 880 }.totals 4062300
        = ⟨7, 1600, 1625⟩ ∧
      { record 0 0 2 none with feedback := 4860 }.deviates 6006200 = false := by decide +kernel

theorem test_average : LineRecord.average ⟨6006200, 0, 6006200 * 2795, none, none, none, none⟩ = some 280 := by
  decide +kernel

/-- 09, "Example: a power failure in mid-load", the journal empty but for its last sequence number. -/
theorem test_interrupted_note :
    let l1 := { lineOne with state := .ended, result := some .complete, record := { LineRecord.blank with gv := 6000420 } }
    let l2 := { lineTwo with state := .active 3, record := { LineRecord.blank with gv := 2315600 } }
    let o := { loadingOrder [l1, l2, { lineTwo with compartment := 3 }] with number := 8100212 }
    let t := after .coldStart { bay with journal := { bay.journal with lastSequence := 999998, saveArea := [o] } }
    (t.journal.slots.get 0).note?.map (fun n => (n.sequenceNumber, n.cause, n.clockUnset)) = some (999999, .interrupted, true) ∧
      (t.journal.slots.get 0).note?.map (fun n => n.lines.map (fun x => (x.result, x.gvLitres)))
        = some [(some .complete, 6000), (some .aborted, 2316), (some .notLoaded, 0)] ∧
      t.journal.saveArea = [] ∧ noticed t = [(.noteStored, 0)] := by decide +kernel

/-- 09, R165: after 999,999 the next number is 1. -/
theorem test_sequence_wraps : sequenceAfter 999999 = 1 ∧ sequenceAfter 314206 = 314207 := by decide +kernel

/-- The power-fail save frees the arm and keeps the image (R100, R172). -/
theorem test_save :
    let t := after .powerFailSave flowing
    (t.arm 1).state = .idle ∧ (t.arm 1).active = none ∧ t.bay.saved = true ∧
      t.journal.saveArea.map Order.number = [6400517] ∧ noticed t = [] := by decide +kernel

/-- Journal slot 1 holds this note, STORED. -/
def journaled (n : Note) : State :=
  { bay with journal := ⟨(Table.fill 48 .empty).set 0 (.stored n), [0], n.sequenceNumber, []⟩ }

/-- The header of 12, "The order closes and its note". -/
def noteOne (printed : Nat) : Note :=
  ⟨314207, 6400517, 52880114, 140, 7731, ⟨20612, 25200⟩, ⟨20612, 25620⟩, .finished, false, printed, []⟩

/-- 12, "Collection and printing". -/
theorem test_print_and_collect :
    ask .console (.markPrinted .console 0#8 314207) (journaled (noteOne 0)) = [0x00#8, 0x01#8] ∧
      (after (.collectNote .terminal 0#8 314207) (journaled (noteOne 1))).storedCount = 0 ∧
      ask .console (.markPrinted .console 0#8 314208) (journaled (noteOne 0)) = [0x06#8] := by decide +kernel

/-- A request on the wrong port (R178), and a line request whose order no slot holds (R81). -/
theorem test_refusals :
    ask .console (.setClock .console 0#8 1 1) bay = [0x04#8] ∧
      ask .console (.startLine .console 0#8 1 6400517 1) bay = [0x06#8] ∧
      ask .terminal (.unknownRequest .terminal 0#8 0x7F#8 []) bay = [0x03#8] := by decide +kernel

/-- A millisecond passes, and a step takes the front command. -/
theorem test_queue :
    let t := stepped { bay with clock := { bay.clock with timer := 1 } }
    Instr.clockAdvance ∈ t.pending ∧
      (stepped { bay with pending := [.clockAdvance, .coldStart] }).pending = [.coldStart] ∧
      (stepped bay).clock.timer = 999 := by decide +kernel

/-! ### Witnesses: states and operands that meet each statement's hypotheses -/

theorem ready_of {s : State} (h : s.bay.saved = false ∧ s.terminal.transmit = none ∧ s.console.transmit = none)
    (p : PortId) : s.ready p := by
  cases p
  · exact ⟨h.1, h.2.1⟩
  · exact ⟨h.1, h.2.2⟩

theorem ready_bay (p : PortId) : bay.ready p := ready_of ⟨rfl, rfl, rfl⟩ p
theorem ready_posted (p : PortId) : posted.ready p := ready_of ⟨rfl, rfl, rfl⟩ p
theorem ready_claimed (p : PortId) : claimed.ready p := ready_of ⟨rfl, rfl, rfl⟩ p
theorem ready_loads (l : Line) (f : Arm → Arm) (p : PortId) : (loads l f).ready p := ready_of ⟨rfl, rfl, rfl⟩ p

/-- No entry but one, of another number. -/
theorem noPermit_sole {s : State} {e : Fin 200} {q : Permit} {num : Nat}
    (h : s.permits = (Table.fill 200 none).set e (some q)) (hn : q.number ≠ num) :
    ∀ k r, s.permits.get k = some r → r.number ≠ num := by
  intro k r hk
  rw [h] at hk
  exact (sole_get hk).2 ▸ hn

/-- A full permit table, and one with its last entry free. -/
def fullPermits : State := { bay with permits := Table.fill 200 (some holder) }
def lastFree : State := { bay with permits := (Table.fill 200 (some holder)).set 199 none }

/-- The claimed order of the full-flow state is past CLAIMED. -/
theorem holder_loads (slot : Fin 24) (o : Order) (h : holder.claim = some slot) (h2 : flowing.order slot = some o) :
    o.state ≠ .claimed := by
  obtain rfl : slot = 10 := by simpa using h.symm
  have : flowing.order 10 = some (loadingOrder [lineOne, activeTwo none 1000000 900000]) := by decide +kernel
  rw [this] at h2
  cases h2
  decide

theorem witness_EmptyQueueRunsTheTimers :
    (bay.pending = [] ∧ runsOut (some 1) ∧ runsOut (some 0) ∧ ¬ runsOut (some 2)) ∧
      -- an expiry that waits, its timer at 0; and behind SET CLOCK, its timer restarted
      (expiryCommand .clockAdvance ∧
        let s := stepped { bay with clock := { bay.clock with timer := 1 } }
        let t := after (.setClock .terminal 0#8 1 1) s
        (.clockAdvance ∈ s.due ∧ s.shows .clockAdvance) ∧ .clockAdvance ∈ t.due ∧ ¬ t.shows .clockAdvance) := by
  refine ⟨⟨rfl, ⟨1, rfl, by decide⟩, ⟨0, rfl, by decide⟩, ?_⟩, ⟨{ bay with clock := { bay.clock with timer := 1 } }, ?_⟩, ?_⟩
  · rintro ⟨ms, h, h2⟩
    simp at h
    omega
  · show (1 : Nat) ≤ 1
    decide
  · unfold State.shows
    decide +kernel

theorem witness_RefusedRequestsChangeNothing :
    requestFrame (.barPermit .terminal 5#8 1) = some (.terminal, 5#8, 0x22#8, [0#8, 0#8, 0#8, 1#8]) ∧
      State.reset.ready .terminal ∧ ask .terminal (.barPermit .terminal 5#8 1) State.reset = [0x06#8] :=
  ⟨by decide +kernel, ready_of ⟨rfl, rfl, rfl⟩ _, by decide +kernel⟩

theorem witness_PortChecksComeFirst :
    (∀ p, bay.ready p) ∧ (∀ code ∈ [0x00#8, 0x0D#8, 0x1F#8, 0x38#8, 0x3F#8, 0x48#8], code.toNat ∉ requestCodes) ∧
      requestFrame (.setClock .console 0#8 0 0) = some (.console, 0#8, 0x20#8, List.replicate 6 0#8) ∧
      requestFrame (.restart .console 0#8) = some (.console, 0#8, 0x37#8, []) ∧
      requestFrame (.presentPermit .terminal 0#8 0 0 0) = some (.terminal, 0#8, 0x40#8, List.replicate 12 0#8) ∧
      requestFrame (.markPrinted .terminal 0#8 0) = some (.terminal, 0#8, 0x47#8, List.replicate 4 0#8) :=
  ⟨ready_bay, by decide +kernel, by decide +kernel, by decide +kernel, by decide +kernel, by decide +kernel⟩

theorem witness_NoRequestIsTakenWhileBusyOrSaved :
    requestFrame (.readBay .console 9#8) = some (.console, 9#8, 0x01#8, []) ∧
      (after .powerFailSave bay).bay.saved = true ∧
      (let busy := after (.readBay .console 9#8) bay;
        busy.bay.saved = false ∧ busy.console.transmit.isSome = true ∧ busy.console.owed = none ∧
          (after (.readBay .console 8#8) busy).console.owed = some (8#8, 0x01#8)) := by decide +kernel

theorem witness_TheBytesOfARequestRunIt :
    let i := Instr.writeCalibrationOffset .terminal 3#8 6 (-200)
    i.wellFormed = true ∧
      requestFrame i = some (.terminal, 3#8, 0x33#8, [3#8, 6#8, 0xFF#8, 0x38#8]) ∧ bay.terminal.receive = [] := by
  decide +kernel

theorem witness_DamagedFramesAreDiscarded :
    (∀ b : Byte, (List.replicate 240 b).length ≤ 240) ∧ bay.console.receive = [] ∧
      [0#8, 0#8] ≠ bigEndian 2 (crc [0xA5#8, 0#8, 1#8, 2#8]).toNat :=
  ⟨fun _ => List.length_replicate.le, rfl, by decide +kernel⟩

theorem witness_PortEvents :
    bay.due = [] ∧ bay.console.receive = [] ∧ 0xA4#8 ≠ (0xA5#8 : Byte) ∧
      (after (.characterReceived .console 0xA5#8) bay).console.receive = [0xA5#8] ∧
      240 < (241#8 : Byte).toNat ∧ ¬ 240 < (240#8 : Byte).toNat ∧
      (∃ rest : List Byte, (240#8 : Byte).toNat ≤ 240 ∧ rest.length + 3 < (240#8 : Byte).toNat + 6) ∧
      (after (.characterReceived .console 0xA5#8) bay).console.gapTimer = some 20 ∧
      (let busy := after (.readBay .console 9#8) bay;
        busy.console.transmit.isSome = true ∧ busy.console.owed = none ∧
          (after (.readBay .console 8#8) busy).console.transmit.isSome = true ∧
          (after (.readBay .console 8#8) busy).console.owed = some (8#8, 0x01#8) ∧ busy.bay.saved = false) := by
  refine ⟨rfl, rfl, by decide, by decide +kernel, by decide, by decide, ⟨List.replicate 242 0#8, by decide, by rw [List.length_replicate]; decide⟩, ?_⟩
  decide +kernel

theorem witness_RaisedNoticesEnterOnce :
    let quiet := { bay with console := { Port.cold with enables := 1#16 } }
    (NoticeKind.estop = .estop ∧ bay.console.notices = []) ∧
      quiet.console.enables.getLsbD (NoticeKind.deadmanDue.code - 1) = false ∧
      bay.console.enables.getLsbD (NoticeKind.deadmanDue.code - 1) = true ∧
      (bay.raise .deadmanDue 0).console.notices.map Notice.subject = [0] := by decide +kernel

theorem witness_FetchNoticeReturnsTheFirst :
    heldThree.ready .console ∧
      (let n : Notice := ⟨.lineHeld, 3, ⟨20450, 30612⟩⟩;
        n ∈ heldThree.console.notices ∧ heldThree.console.delivers n ∧
          ∀ m ∈ heldThree.console.notices, heldThree.console.delivers m → m ≠ n → heldThree.console.precedes n m) ∧
      ∀ n ∈ (listening [⟨.strayFlow, 6, ⟨1, 1⟩⟩] [3]).console.notices,
        ¬ (listening [⟨.strayFlow, 6, ⟨1, 1⟩⟩] [3]).console.delivers n := by
  refine ⟨ready_of ⟨rfl, rfl, rfl⟩ _, ⟨by decide +kernel, ?_, ?_⟩, ?_⟩
  · unfold Port.delivers; decide +kernel
  · unfold Port.delivers Port.precedes; decide +kernel
  · unfold Port.delivers; decide +kernel

theorem witness_NoticeLevels :
    (∀ p, bay.ready p) ∧ bay.console.inService = [] ∧
      (let s := listening [] [7, 0];
        0 ∈ s.console.inService ∧ ∀ m ∈ s.console.inService, 0 ≤ m) ∧
      -- the designator 1 at the console is the other port's; 0 and 3 are none; level 7 is good, 8 is not
      ((1 = 1 ∨ 1 = 2) ∧ 1 ≠ portCode .console) ∧ ¬ ((3 = 1 ∨ 3 = 2) ∧ 3 ≠ portCode .console) ∧ 3 ≠ portCode .console ∧
      (2 = portCode .console ∧ 7 ≤ 7 ∧ ¬ 8 ≤ 7 ∧ (1#16).getLsbD 0 = true ∧ (2#16).getLsbD 0 = false) := by
  refine ⟨ready_bay, rfl, ⟨by decide, by decide⟩, ?_⟩
  decide

theorem witness_BayClock :
    (∀ p, bay.ready p) ∧ bay.due = [] ∧
      (let at' := fun (d s : Nat) => { bay with clock := ⟨d, s, true, 1⟩ };
        (at' 0 86398).clockKept ∧ (at' 0 86398).clock.second < 86399 ∧ (at' 65534 86399).clockKept ∧
          (at' 65534 86399).clock.day < 65535 ∧ (at' 65535 86399).clockKept ∧ (at' 65535 86399).clock.day = 65535) ∧
      65535 ≤ 65535 ∧ 86399 < 86400 ∧ 86399 ≤ 86399 := by
  refine ⟨ready_bay, rfl, ?_, by decide⟩
  unfold State.clockKept
  decide

theorem witness_WritePermit :
    bay.ready .terminal ∧ lastFree.ready .terminal ∧ fullPermits.ready .terminal ∧ 1 ≤ 99999999 ∧ 65535 ≤ 65535 ∧
      ((∀ k r, lastFree.permits.get k = some r → r.number ≠ 99999999) ∧ lastFree.permits.get 199 = none ∧
        ∀ k < 199, lastFree.permits.get k ≠ none) ∧
      ((∀ k r, fullPermits.permits.get k = some r → r.number ≠ 1) ∧ ∀ k, fullPermits.permits.get k ≠ none) ∧
      (claimed.ready .terminal ∧ claimed.onlyPermit 52880114 8 holder ∧ holder.claim ≠ none ∧ 141 ≠ holder.carrier) ∧
      -- ACTIVE over ACTIVE; and BARRED over ACTIVE, the order LOADING: the claim stands
      (PermitState.active ≠ .barred ∧ flowing.ready .terminal ∧ flowing.onlyPermit 52880114 8 holder ∧
        ∀ slot o, holder.claim = some slot → flowing.order slot = some o → o.state ≠ .claimed) ∧
      -- BARRED over ACTIVE, the order CLAIMED
      (140 = holder.carrier ∧ holder.state = .active ∧ holder.claim = some 10 ∧ claimed.order 10 = some claimedOrder ∧
        claimedOrder.state = .claimed ∧ claimedOrder.claimPermit = some 52880114) := by
  refine ⟨ready_bay _, ready_of ⟨rfl, rfl, rfl⟩ _, ready_of ⟨rfl, rfl, rfl⟩ _, by decide, by decide, ⟨?_, ?_, ?_⟩,
    ⟨?_, ?_⟩, ⟨ready_claimed _, onlyPermit_sole rfl, by decide, by decide⟩,
    ⟨by decide, ready_loads _ _ _, onlyPermit_sole rfl, holder_loads⟩, by decide +kernel⟩
  · intro k r h
    simp only [lastFree, Table.get_set, Table.get_fill] at h
    split at h <;> simp at h
    rw [← h]
    decide
  · simp [lastFree]
  · intro k hk
    simp only [lastFree, Table.get_set, Table.get_fill]
    rw [if_neg hk.ne]
    simp
  · intro k r h
    simp only [fullPermits, Table.get_fill, Option.some.injEq] at h
    rw [← h]
    decide
  · simp [fullPermits]

theorem witness_BarAndDeletePermit :
    claimed.ready .terminal ∧ (∀ k r, claimed.permits.get k = some r → r.number ≠ 1) ∧
      claimed.onlyPermit 52880114 8 holder ∧
      (holder.state = .active ∧ holder.claim = some 10 ∧ claimed.order 10 = some claimedOrder ∧
        claimedOrder.state = .claimed ∧ claimedOrder.claimPermit = some 52880114) ∧
      (flowing.onlyPermit 52880114 8 holder ∧ ∀ slot o, holder.claim = some slot → flowing.order slot = some o →
        o.state ≠ .claimed) ∧
      (let free : Permit := { holder with state := .barred, claim := none };
        ({ bay with permits := (Table.fill 200 none).set 199 (some free) } : State).onlyPermit 52880114 199 free ∧
          free.state = .barred ∧ free.claim = none) := by
  refine ⟨ready_claimed _, noPermit_sole rfl (by decide), onlyPermit_sole rfl, by decide +kernel,
    ⟨onlyPermit_sole rfl, holder_loads⟩, onlyPermit_sole rfl, rfl, rfl⟩

theorem witness_PostOrder :
    let specs : List LineSpec := [⟨1, 2, 100, 1, 0⟩, ⟨9, 2, 40000, 2, 1⟩]
    bay.ready .terminal ∧ (∀ k, bay.order k = none) ∧ bay.acceptable specs ∧ 1 ≤ 99999999 ∧
      (∃ k, posted.order k = none) ∧ posted.order 10 = some postedOrder ∧
      ∀ k, ({ bay with orders := Table.fill 24 (some postedOrder) } : State).order k ≠ none := by
  refine ⟨ready_bay _, by decide +kernel, ?_, by decide, by decide +kernel, by decide +kernel, by decide +kernel⟩
  unfold State.acceptable
  refine ⟨by decide, by decide, by decide, ?_⟩
  intro l hl
  simp only [List.mem_cons, List.not_mem_nil, or_false] at hl
  obtain rfl | rfl := hl
  · exact ⟨by decide, by decide, by decide, by decide, by decide, ⟨1, by decide, by decide +kernel⟩, by decide⟩
  · exact ⟨by decide, by decide, by decide, by decide, by decide, ⟨1, by decide, by decide +kernel⟩,
      .inr ⟨0, by decide, by decide +kernel⟩⟩

theorem witness_AmendOrder :
    posted.ready .terminal ∧ posted.onlyOrder 6400517 10 postedOrder ∧ postedOrder.state = .posted ∧
      claimed.onlyOrder 6400517 10 claimedOrder ∧ claimedOrder.state ≠ .posted ∧
      posted.acceptable [⟨9, 2, 40000, 2, 0⟩] ∧ 99999999 ≤ 99999999 ∧ 999999 ≤ 999999 := by
  refine ⟨ready_posted _, onlyOrder_sole rfl, rfl, onlyOrder_sole rfl, by decide, ?_, by decide, by decide⟩
  unfold State.acceptable
  refine ⟨by decide, by decide, by decide, ?_⟩
  intro l hl
  obtain rfl : l = ⟨9, 2, 40000, 2, 0⟩ := by simpa using hl
  exact ⟨by decide, by decide, by decide, by decide, by decide, ⟨1, by decide, by decide +kernel⟩, by decide⟩

/-- A journal with so many STORED notes. -/
def stocked (count : Nat) : Journal :=
  { bay.journal with slots :=
    ⟨(List.replicate 48 (.stored (noteOne 0))).take count ++ List.replicate (48 - min count 48) .empty, by simp⟩ }

theorem witness_PresentPermit :
    let q : Permit := ⟨52880114, 140, 0x05#8, 21000, .active, none, none⟩
    posted.ready .console ∧ ({ posted with clock := Clock.cold } : State).clock.isSet = false ∧ posted.clock.isSet = true ∧
      posted.onlyPermit q.number 8 q ∧ posted.onlyOrder postedOrder.number 10 postedOrder ∧ q.state = .active ∧
      posted.clock.day ≤ q.expiry ∧ postedOrder.state = .posted ∧ q.claim = none ∧
      (postedOrder.permit = 0 ∧ postedOrder.carrier = q.carrier) ∧ postedOrder.tanker = 0 ∧ 1 ≤ 999999 ∧
      (∀ l ∈ postedOrder.lines, ∃ x, posted.products.get l.product = some x ∧ q.classes.getLsbD (x.cls - 1) = true) ∧
      [42, 43, 47, 48].map (fun n => ({ posted with journal := stocked n } : State).storedCount) = [42, 43, 47, 48] ∧
      posted.reservations = 0 := by
  refine ⟨ready_posted _, rfl, rfl, onlyPermit_sole rfl, onlyOrder_sole rfl, rfl, by decide, rfl, rfl, by decide, rfl,
    by decide, ?_, by decide +kernel, by decide +kernel⟩
  intro l hl
  have : l.product = 1 := by
    simp only [postedOrder, List.mem_cons, List.not_mem_nil, or_false] at hl
    obtain rfl | rfl := hl <;> rfl
  rw [this]
  exact ⟨⟨[0x44#8], 1, 950, 1000⟩, by decide +kernel, by decide⟩

/-- PRESENT PERMIT's refusals: each code by the state and operands that make its check the first to fail. -/
theorem witness_PresentPermit_refused :
    let q : Permit := ⟨52880114, 140, 0x05#8, 21000, .active, none, none⟩
    let o := postedOrder
    let byPermit (x : Permit) (c : ReplyCode) := refusedBy (posted.claimChecked x o 7731) c
    let byOrder (x : Order) (tanker : Nat) (c : ReplyCode) := refusedBy (posted.claimChecked q x tanker) c
    byPermit { q with state := .barred, expiry := 0 } .permitBarred ∧ byPermit { q with expiry := 20611 } .permitExpired ∧
      byOrder claimedOrder 7731 .wrongState ∧ byPermit { q with claim := some 10 } .inUse ∧
      (byOrder { o with permit := 7 } 7731 .permitMismatch ∧ byOrder { o with carrier := 7 } 7731 .permitMismatch ∧
        byOrder { o with tanker := 7 } 7731 .permitMismatch ∧ byOrder o 0 .permitMismatch ∧
        byOrder o 1000000 .permitMismatch) ∧
      byPermit { q with classes := 0x04#8 } .permitClass ∧
      refusedBy (({ posted with journal := stocked 48 } : State).claimChecked q o 7731) .journalFull ∧
      (∀ c, ¬ byPermit { q with expiry := 20612 } c) ∧
      ((∀ k r, posted.permits.get k = some r → r.number ≠ 1) ∧ ∀ k r, posted.order k = some r → r.number ≠ 1) := by
  have hp : posted.products.get 1 = some ⟨[0x44#8], 1, 950, 1000⟩ := by decide +kernel
  have hs : posted.storedCount = 0 ∧ posted.reservations = 0 := by decide +kernel
  have hf (j : Journal) : ({ posted with journal := j } : State).reservations = posted.reservations ∧
      ({ posted with journal := j } : State).products = posted.products := ⟨rfl, rfl⟩
  have hj : ({ posted with journal := stocked 48 } : State).storedCount = 48 := by decide +kernel
  have hd : posted.clock.day = 20612 := rfl
  have ho : ∀ k, ∀ r ∈ posted.order k, r.number ≠ 1 := by decide +kernel
  refine ⟨?_, ?_, ?_, ?_, ⟨?_, ?_, ?_, ?_, ?_⟩, ?_, ?_, ?_, noPermit_sole rfl (by decide), fun k r h => ho k r h⟩
  all_goals simp [refusedBy, State.claimChecked, hp, hs, hf, hj, hd, lineOne, lineTwo, postedOrder, claimedOrder]

theorem witness_ClaimsEnd :
    claimed.order 10 = some claimedOrder ∧ claimedOrder.state = .claimed ∧ claimedOrder.claimPermit = some holder.number ∧
      claimed.onlyPermit holder.number 8 holder ∧ claimed.ready .console ∧
      claimed.onlyOrder claimedOrder.number 10 claimedOrder ∧ claimedOrder.claimTimer = some 600000 ∧ claimed.due = [] :=
  ⟨by decide +kernel, rfl, rfl, onlyPermit_sole rfl, ready_claimed _, onlyOrder_sole rfl, rfl, rfl⟩

/-- The order LOADING with line 1 ENDED and line 2 WAITING, its idle timer running. -/
def idleOrder : Order :=
  { loadingOrder [{ lineOne with state := .ended, result := some .complete }, lineTwo] with idleTimer := some 1 }

def idling : State := { claimed with orders := (Table.fill 24 none).set 10 (some idleOrder) }

/-- The journal of 12 at its close: no slot EMPTY, slot 22 the earliest COLLECTED one. -/
def packed : Journal :=
  ⟨((Table.fill 48 (.stored (noteOne 0))).set 21 (.collected (noteOne 0))).set 3 (.collected (noteOne 0)), [0, 21, 3], 314206, []⟩

theorem nextSlot_blank : Journal.blank.nextSlot 0 := .inl ⟨rfl, fun i hi => absurd hi (by simp)⟩

theorem nextSlot_packed : packed.nextSlot 21 := by
  refine .inr ⟨by decide +kernel, by decide +kernel, [0], [3], rfl, ?_⟩
  intro i hi
  obtain rfl : i = 0 := by simpa using hi
  decide +kernel

theorem witness_OrdersCloseWithTheirNote :
    idling.order 10 = some idleOrder ∧ idleOrder.state = .loading ∧ (∀ l ∈ idleOrder.lines, l.isActive = false) ∧
      idleOrder.claimPermit ≠ none ∧ idleOrder.claimTanker ≠ none ∧ idleOrder.claimTime ≠ none ∧
      idling.journal.nextSlot 0 ∧ packed.nextSlot 21 ∧ idling.ready .console ∧ idling.ready .terminal ∧
      idling.onlyOrder idleOrder.number 10 idleOrder ∧ idleOrder.idleTimer = some 1 ∧ idling.due = [] :=
  ⟨by decide +kernel, rfl, by decide, by decide, by decide, by decide, nextSlot_blank, nextSlot_packed,
    ready_of ⟨rfl, rfl, rfl⟩ _, ready_of ⟨rfl, rfl, rfl⟩ _, onlyOrder_sole rfl, rfl, rfl⟩

theorem witness_CancelOrder :
    let running := loadingOrder [lineOne, activeTwo none 1000000 900000]
    let waits : Order := { claimedOrder with state := .closing }
    flowing.ready .terminal ∧ (withOrder waits).onlyOrder waits.number 10 waits ∧ waits.state = .closing ∧
      (posted.onlyOrder postedOrder.number 10 postedOrder ∧ postedOrder.state = .posted) ∧
      (claimed.onlyOrder claimedOrder.number 10 claimedOrder ∧ claimedOrder.claimPermit = some holder.number ∧
        claimed.onlyPermit holder.number 8 holder) ∧
      (flowing.onlyOrder running.number 10 running ∧ running.state = .loading ∧
        (∃ l ∈ running.lines, l.isActive = true) ∧ flowing.linesKept ∧ flowing.bay.saved = false ∧
        (∀ a ref, (flowing.arm a).active = some ref → ref.slot = 10 → (flowing.arm a).dosing = none) ∧
        (∃ l ∈ running.lines, l.isRunning = true)) ∧
      -- with a dosing record of half an interval, and of just less
      ∀ d ∈ [49999, 50000], let s := dosing (record d 0 2 none)
        let o := loadingOrder [lineOne, { activeTwo none 1505300 1480000 with recipe := some 0 }]
        s.ready .terminal ∧ s.onlyOrder o.number 10 o ∧ o.state = .loading ∧ (∃ l ∈ o.lines, l.isActive = true) ∧
          s.armsStand ∧ (∀ a, (s.arm a).doses) ∧ s.running 1 = true := by
  refine ⟨ready_loads _ _ _, onlyOrder_sole rfl, rfl, ⟨onlyOrder_sole rfl, rfl⟩,
    ⟨onlyOrder_sole rfl, rfl, onlyPermit_sole rfl⟩, ⟨onlyOrder_sole rfl, rfl, by decide, linesKept_flowing, rfl,
    fun a _ _ _ => ?_, by decide⟩, fun d hd => ⟨ready_of ⟨rfl, rfl, rfl⟩ _, onlyOrder_sole rfl, rfl, by decide, ?_, ?_, ?_⟩⟩
  · have : ∀ b, (flowing.arm b).dosing = none := by decide +kernel
    exact this a
  · unfold State.armsStand Arm.standing
    revert d; decide +kernel
  · have : ∀ d ∈ [49999, 50000], ∀ a, ∀ r ∈ ((dosing (record d 0 2 none)).arm a).dosing,
        0 < r.interval ∧ (((dosing (record d 0 2 none)).arm a).engaged = none → r.phase = .disengaged ∧ r.owed = 0) := by
      decide +kernel
    exact fun a r h => this d hd a r h
  · revert d; decide +kernel

theorem witness_TableWrites :
    bay.ready .terminal ∧ State.reset.ready .terminal ∧ 16 ≤ 16 ∧
      (∀ b ∈ (List.replicate 16 0x7E#8).take 16, 0x20 ≤ (b : Byte).toNat ∧ b.toNat ≤ 0x7E) ∧
      -- product 2 stands in arm 1's setup; product 16 is used nowhere after reset
      (bay.arm 0).setup.product = some 1 ∧
      (¬ ((∃ a, (State.reset.arm a).setup.product = some 15) ∨
        ∃ slot o l, State.reset.order slot = some o ∧ l ∈ o.lines ∧ l.isActive = true ∧ l.product = 15)) ∧
      (flowing.arm 1).state ≠ .idle ∧ (bay.arm 0).state = .idle ∧ bay.products.get 1 ≠ none ∧
      -- recipe 1 is used by the active line of `dosing`
      (∃ slot o l, (dosing (record 0 0 2 none)).order slot = some o ∧ l ∈ o.lines ∧ l.isActive = true ∧
        l.recipe = some 0) ∧
      ¬ (∃ slot o l, State.reset.order slot = some o ∧ l ∈ o.lines ∧ l.isActive = true ∧ l.recipe = some 0) := by
  have free : ∀ slot, State.reset.order slot = none := by decide +kernel
  refine ⟨ready_bay _, ready_of ⟨rfl, rfl, rfl⟩ _, by decide, by decide, by decide +kernel, ?_, by decide +kernel,
    by decide +kernel, by decide +kernel, ?_, by simp [free]⟩
  · rintro (⟨a, h⟩ | ⟨slot, o, l, h, -⟩)
    · revert a; decide +kernel
    · simp [free] at h
  · refine ⟨10, loadingOrder [lineOne, { activeTwo none 1505300 1480000 with recipe := some 0 }],
      { activeTwo none 1505300 1480000 with recipe := some 0 }, by decide +kernel, by decide, by decide, rfl⟩

def zeroReadings : Readings := ⟨⟨0, 0⟩, ⟨0, 0⟩⟩

/-- A note's line, with its readings where a counter stands with them. -/
def noted (compartment : Nat) (counter : Option Nat) : NoteLine :=
  ⟨compartment, 1, 4000, .gross, some .complete, 0, 0, none, none, LineFlags.clear, counter.map (fun _ => zeroReadings),
    counter.map (fun _ => zeroReadings), counter⟩

theorem witness_ReportsChangeNothing :
    (∀ p, claimed.ready p) ∧ claimed.onlyPermit 52880114 8 holder ∧
      (claimedOrder.number ≠ 0 ∧ claimed.onlyOrder claimedOrder.number 10 claimedOrder) ∧
      (claimed.order 10 = some claimedOrder ∧ claimedOrder.line? 1 = some lineOne ∧ 1 ≤ 9) ∧
      (((journaled (noteOne 0)).journal.slots.get 0).note? = some (noteOne 0) ∧
        (∀ j : Fin 48, ((journaled (noteOne 0)).journal.slots.get j).note?.isSome = true → j = 0) ∧
        1 ≤ (noteOne 0).sequenceNumber ∧ (noteOne 0).sequenceNumber ≤ 999999) ∧
      -- the average of a line without volume, and of one with
      (lineOne.record.averages none ∧ (activeTwo none 5 5).record.averages (some 0)) ∧
      -- injector 2 in position 1 of arm 2, engaged there; injector 3 its standby; injector 4 neither
      (let s := dosing (record 10000 0 2 (some ⟨0, false⟩))
       let names (i : Fin 8) (place : Option (Fin 6 × Fin 2)) (primary : Option (Fin 8)) (engaging : Option (Fin 6)) :=
        (∀ a q, place = some (a, q) ↔ (s.arm a).setup.positions.get q = some i) ∧
          (∀ j, primary = some j ↔ (s.injector j).standby = some i) ∧ ∀ a, engaging = some a ↔ (s.arm a).engaged = some i
       names 1 (some (1, 0)) none (some 1) ∧ names 2 none (some 1) none ∧ names 3 none none none) ∧
      -- a note with a line not started and a line with its readings
      ((∀ b e c, (none : Option (Readings × Readings × Nat)) = some (b, e, c) ↔
        (noted 0 none).atStart = some b ∧ (noted 0 none).atEnd = some e ∧ (noted 0 none).counter = some c) ∧
        ∀ b e c, some (zeroReadings, zeroReadings, 7) = some (b, e, c) ↔
          (noted 1 (some 7)).atStart = some b ∧ (noted 1 (some 7)).atEnd = some e ∧ (noted 1 (some 7)).counter = some c) :=
  ⟨ready_claimed, onlyPermit_sole rfl, ⟨by decide, onlyOrder_sole rfl⟩, by decide +kernel, by decide +kernel,
    ⟨⟨fun _ => rfl, fun h => absurd rfl h⟩, ⟨fun h => absurd h (by decide), fun _ => ⟨0, rfl, by decide, by decide⟩⟩⟩,
    by decide +kernel, by simp [noted], fun b e c => by simp [noted]⟩

/-- The bay with arm 4's decoder so placed. -/
def decoding (d : Decoder) : State := bay.modifyArm 3 (fun x => { x with decoder := d })

theorem witness_EdgesInOrder :
    let d (e : Channel) : Decoder := { Decoder.cold with expected := e, sampleCount := 4294967294 }
    let s (e : Channel) := decoding (d e)
    ((s .a).arm 3).decoder = d .a ∧ ((s .b).arm 3).decoder = d .b ∧ (d .a).statusA = .normal ∧ (d .a).statusB = .normal ∧
      (d .b).sampleCount < 4294967295 ∧ (d .b).lineCounted < 4294967295 := by decide +kernel

theorem witness_EdgesOutOfOrder :
    let dead : Decoder := { Decoder.cold with statusA := .failed, sampleCount := 4294967294 }
    ((decoding dead).arm 3).decoder = dead ∧ dead.status .a = .failed ∧ dead.status .b = .normal ∧
      dead.status (otherChannel .b) = .failed ∧
      ((bay.arm 3).decoder.statusA = .normal ∧ (bay.arm 3).decoder.statusB = .normal ∧ (bay.arm 3).decoder.mode = .stray ∧
        .b ≠ (bay.arm 3).decoder.expected) := by decide +kernel

/-- Arm 2 in full flow with its decoder so placed. -/
def pulsing (d : Decoder) : State := flowing.modifyArm 1 (fun x => { x with decoder := d })

theorem witness_MissingEventInLineMode :
    let quiet := lineDecoder .b 2 999 4 0
    let failing := lineDecoder .b 3 999 5 0
    let held := lineDecoder .a 0 998 5 0
    let both := lineDecoder .b 3 998 5 0
    (∀ d ∈ [quiet, failing, held, both], ((pulsing d).arm 1).decoder = d ∧ d.mode = .line ∧ d.statusA = .normal ∧
      d.statusB = .normal ∧ d.sampleCount < 4294967295 ∧ d.lineCounted < 4294967295 ∧ d.lineCorrected < 4294967295) ∧
      (¬ 5 + (quiet.lineCounted + 1) / 1000 < quiet.lineCorrected + 1 ∧ ¬ 3 ≤ quiet.missB) ∧
      (¬ 5 + (failing.lineCounted + 1) / 1000 < failing.lineCorrected + 1 ∧ 3 ≤ failing.missB ∧
        ((pulsing failing).arm 1).active = some ⟨10, 2⟩) ∧
      (5 + (held.lineCounted + 1) / 1000 < held.lineCorrected + 1 ∧ ((pulsing held).arm 1).holds.pulse = false ∧
        ¬ 3 ≤ held.missA) ∧
      (5 + (both.lineCounted + 1) / 1000 < both.lineCorrected + 1 ∧ ((pulsing both).arm 1).holds.pulse = false ∧
        3 ≤ both.missB ∧ ((pulsing both).arm 1).active = some ⟨10, 2⟩) := by decide +kernel

theorem witness_SampleStages : 0 < 1 ∧ (0 : Nat) = 0 ∧ (sampleVolumes 0 [] none 100000 ⟨7, 0, 0⟩ 5).indicated = 0 := by
  decide +kernel

theorem witness_VolumeCorrection :
    rawVcf 1500 0 20000 < 90000 ∧ 110000 < rawVcf 1500 9999 (-4500) ∧ rawVcf 1000 0 11500 = 90000 ∧
      rawVcf 1000 0 (-8500) = 110000 := by decide +kernel

theorem witness_MeterFactorCurve :
    curveThree.Pairwise (fun x y => x.flow < y.flow) ∧ (curveThree.head?.map CurvePoint.flow = some 500 ∧ 500 ≤ 500) ∧
      (curveThree.getLast?.map CurvePoint.flow = some 2400 ∧ 2400 ≤ 2400) ∧
      curveThree[2]? = some ⟨2000, 100080⟩ ∧ curveThree[2 + 1]? = some ⟨2400, 100060⟩ ∧ 2000 ≤ 2012 ∧ 2012 ≤ 2400 := by
  decide +kernel

theorem witness_GatesJudgeTheProbes :
    ({ bay with gate := ⟨39998, 1⟩ } : State).gate.referenceCount < 39999 ∧
      ({ bay with gate := ⟨39999, 1⟩ } : State).gate.referenceCount = 39999 ∧ bay.due = [] := by decide

theorem witness_StraySamples :
    (bay.arm 0).active = none ∧ bay.due = [] ∧ (bay.arm 0).stageGross ≤ 4294967295 ∧
      (4999 : Nat) / 5000 < (4999 + 1) / 5000 ∧ ¬ (5000 : Nat) / 5000 < (5000 + 4999) / 5000 := by decide +kernel

/-- Arm 2 in full flow, the line at this GSV, and this many pulses counted (K 100,000 milli-pulses a litre). -/
def sampled (gsv pulses : Nat) : State :=
  loads (activeTwo none gsv gsv) (fun x =>
    { x with state := .fullFlow, stageVolume := 200, decoder := { x.decoder with sampleCount := pulses } })

/-- Arm 2 closing for this reason at these counts. -/
def closing (l : Line) (r : ClosingReason) (zeros closes pulses : Nat) (q : Option QueuedStart) : State :=
  loads l (fun x =>
    { x with
      state := .closing, reason := some r, zeroRun := zeros, closeCount := closes, queued := q
      decoder := { x.decoder with sampleCount := pulses } })

/-- Arm 2 suspended at this close count. -/
def suspended (l : Line) (closes pulses : Nat) : State :=
  loads l (fun x =>
    { x with
      state := .suspended, suspendTimer := some 1, closeCount := closes
      decoder := { x.decoder with sampleCount := pulses } })

theorem witness_LineSamples :
    let running (gsv : Nat) := activeTwo none gsv gsv
    let ending := activeTwo (some .complete) 4012300 4012300
    let meets (s : State) (l : Line) (decided : Bool) : Prop :=
      let x := s.arm 1
      let pulses := x.decoder.sampleCount
      x.active = some ⟨10, 2⟩ ∧ s.lineAt ⟨10, 2⟩ = some l ∧ x.state ≠ .idle ∧ x.state ≠ .locked ∧ s.due = [] ∧
        x.stageGross + (s.nextSample 1 x.boundTrial x.lineCarries).gross ≤ 4294967295 ∧
        (pulses = 0 ∨ x.closeCount < 49 ∨ x.state.flowing = true ∨ x.state = .suspended ∧ s.decides 1 l) ∧
        (pulses ≠ 0 ∨ x.zeroRun < 9 ∨ x.state ≠ .closing) ∧ (s.decides 1 l ↔ decided = true)
    -- a flowing arm, 19 mL a sample on the line's basis: 1 mL short of the preset, and at it
    (∀ d ∈ [false, true], let gsv := if d = true then 3999981 else 3999980
      meets (sampled gsv 2) (running gsv) d) ∧
      -- CLOSING: the overrun of an ending line, with pulses and with fewer than ten still; a hold, short of the preset
      -- and at it
      (∀ x ∈ [(ending, ClosingReason.lineEnd, 0, 2, false), (ending, .lineEnd, 8, 0, false),
          (running 1000000, .hold, 0, 2, false), (running 3999981, .hold, 0, 2, true)],
        meets (closing x.1 x.2.1 x.2.2.1 48 x.2.2.2.1 none) x.1 x.2.2.2.2) ∧
      -- SUSPENDED: before the 50th sample, at the preset after it, and without pulses
      (∀ x ∈ [(running 1000000, 48, 2, false), (running 3999981, 60, 2, true), (running 1000000, 60, 0, false)],
        meets (suspended x.1 x.2.1 x.2.2.1) x.1 x.2.2.2) ∧
      -- with a dosing record, flowing and closing for a hold: below the preset, and at it
      (∀ st ∈ [ArmState.fullFlow, .closing], ∀ gv ∈ [1000000, 3999999],
        let l := { running gv with recipe := some 0 }
        let s := loads l (fun x => { x with
          state := st, reason := if st = .closing then some .hold else none, dosing := some (record 60000 0 2 none)
          decoder := { x.decoder with sampleCount := 2 } })
        meets s l (decide (gv = 3999999)) ∧ (s.arm 1).doses) ∧
      ∀ l r z c p, ((closing l r z c p none).arm 1).doses ∧ ((suspended l c p).arm 1).doses ∧ ((sampled c p).arm 1).doses := by
  refine ⟨by decide +kernel, by decide +kernel, by decide +kernel, fun st hst gv hgv => ⟨by revert st gv; decide +kernel, ?_⟩,
    fun l r z c p => ⟨doses_none ?_, doses_none ?_, doses_none ?_⟩⟩
  · exact doses_some (r := record 60000 0 2 none) (by revert st gv; decide +kernel) (by decide)
      (by revert st gv; decide +kernel)
  all_goals simp [closing, suspended, sampled, loads, carrier, readyArm, Arm.cold, State.arm, bay]

/-- A dosed line on arm 2 with pulses counted. -/
def dosedSample (r : DosingRecord) (pulses : Nat) : State :=
  (dosing r).modifyArm 1 (fun x =>
    { x with reducedFlow := decide (2 ≤ r.owed), decoder := { x.decoder with sampleCount := pulses } })

theorem witness_LineSamplesOweShots :
    let l := { activeTwo none 1505300 1480000 with recipe := some 0 }
    let v (s : State) := s.nextSample 1 (s.arm 1).boundTrial (s.arm 1).lineCarries
    let meets (r : DosingRecord) : Prop :=
      let s := dosedSample r 2
      (s.arm 1).active = some ⟨10, 2⟩ ∧ s.lineAt ⟨10, 2⟩ = some l ∧ (s.arm 1).state.flowing = true ∧
        (s.arm 1).dosing = some r ∧ (s.arm 1).engaged = some 1 ∧ r.phase = .accruing ∧ (s.arm 1).holds.additive = false ∧
        s.due = [] ∧ (s.arm 1).stageGross + (v s).gross ≤ 4294967295 ∧ (l.sampled (v s) (s.probes.get 1)).delivered < l.preset * 1000
    (∀ d ∈ [99979, 99980], let r := record d 0 2 none
      meets r ∧ ((dosedSample r 2).injector 1).window = none ∧ d + (v (dosedSample r 2)).gross < 2 * r.interval ∧
        (d = 99980 ↔ r.interval ≤ d + (v (dosedSample r 2)).gross)) ∧
      (∀ d ∈ [99980, 99999], let r := record d 1 2 (some ⟨0, false⟩)
        meets r ∧ ((dosedSample r 2).injector 1).window ≠ none ∧ l.isRunning = true ∧
          ((dosedSample r 2).arm 1).reducedFlow = false ∧ r.interval ≤ d + (v (dosedSample r 2)).gross ∧
          d + (v (dosedSample r 2)).gross < 2 * r.interval) ∧
      ∀ d ∈ [99980, 150000], let r := record d 3 2 (some ⟨0, false⟩)
        meets r ∧ ((dosedSample r 2).injector 1).window ≠ none ∧ ((dosedSample r 2).arm 1).reducedFlow = true ∧
          r.interval ≤ d + (v (dosedSample r 2)).gross := by decide +kernel

/-- START LINE's checks pass for arm 1 on the claimed order, with additive (line 1) and without (line 2). -/
theorem startable_claimed (k : Fin 2) :
    claimed.startable 0 10 claimedOrder (k + 1) (if k = 0 then lineOne else lineTwo) := by
  refine ⟨onlyOrder_sole rfl, .inl rfl, by revert k; decide, by omega, by revert k; decide, rfl, rfl, rfl,
    by revert k; decide +kernel, by decide +kernel, by decide +kernel, by decide +kernel,
    8, holder, rfl, onlyPermit_sole rfl, rfl, by decide⟩

/-- Arm 1 so stands beside the claimed order. -/
def beside (st : ArmState) (r : Option ClosingReason) : State :=
  claimed.modifyArm 0 (fun x => { x with state := st, reason := r })

theorem startable_beside (st : ArmState) (r : Option ClosingReason) (k : Fin 2) :
    (beside st r).startable 0 10 claimedOrder (k + 1) (if k = 0 then lineOne else lineTwo) := by
  obtain ⟨-, h2, h3, h4, h5, h6, h7, h8, -, h10, h11, h12, -⟩ := startable_claimed k
  refine ⟨onlyOrder_sole rfl, h2, h3, h4, h5, h6, h7, h8, ?_, h10, h11, h12, 8, holder, rfl, onlyPermit_sole rfl, rfl,
    show (20612 : Nat) ≤ 21000 by decide⟩
  show some 1 = _
  revert k; decide

theorem witness_StartLine :
    claimed.ready .console ∧ (∀ st r, (beside st r).ready .console) ∧
      (claimed.startable 0 10 claimedOrder 1 lineOne ∧ claimed.startable 0 10 claimedOrder 2 lineTwo ∧
        (claimed.arm 0).state = .idle ∧ (claimed.arm 0).queued = none ∧ (claimed.arm 0).active = none ∧
        (claimed.arm 0).dosing = none ∧ (∃ b, exec (.meteringSample 0) { claimed with due := [] } = .next b) ∧
        lineTwo.recipe = none ∧ lineOne.recipe = some 0 ∧ claimed.recipes.get 0 = some ⟨7, 400, 5⟩ ∧
        claimed.servedBy 0 7 0 0) ∧
      -- the start is queued, of a line without additive and of one with it
      ((∀ k : Fin 2, (beside .closing (some .lineEnd)).startable 0 10 claimedOrder (k + 1)
          (if k = 0 then lineOne else lineTwo)) ∧
        ((beside .closing (some .lineEnd)).arm 0).state = .closing ∧
        ((beside .closing (some .lineEnd)).arm 0).reason = some .lineEnd ∧
        ((beside .closing (some .lineEnd)).arm 0).queued = none ∧
        (beside .closing (some .lineEnd)).recipes.get 0 = some ⟨7, 400, 5⟩ ∧
        (beside .closing (some .lineEnd)).servedBy 0 7 0 0) := by
  refine ⟨ready_claimed _, fun _ _ => ready_of ⟨rfl, rfl, rfl⟩ _,
    ⟨startable_claimed 0, startable_claimed 1, by decide +kernel, by decide +kernel, by decide +kernel, by decide +kernel,
      ⟨_, rfl⟩, rfl, rfl, by decide +kernel, ?_⟩,
    ⟨startable_beside _ _, by decide +kernel, by decide +kernel, by decide +kernel, by decide +kernel, ?_⟩⟩
  all_goals
    exact ⟨by decide +kernel, by decide +kernel, by decide +kernel, fun q j h => absurd h (by simp)⟩

/-- START LINE's refusals: each code by a state in which its check is the first to fail. -/
theorem witness_StartLine_refused :
    let refuses (s : State) (a : Fin 6) (o : Order) (l : Line) (c : ReplyCode) : Prop :=
      s.permitsDiffer ∧ refusedBy (s.startChecked a o l) c
    let claiming (q : Permit) : State := { claimed with permits := (Table.fill 200 none).set 8 (some q) }
    (refuses claimed 0 postedOrder lineTwo .wrongState ∧
        refuses claimed 0 claimedOrder (activeTwo none 0 0) .wrongState) ∧
      refuses { claimed with bay := Bay.reset } 0 claimedOrder lineTwo .permissive ∧
      refuses (claimed.modifyArm 0 (fun x => { x with state := .locked, setup := ArmSetup.cold })) 0 claimedOrder lineTwo
        .armLocked ∧
      (refuses (beside .closing (some .hold)) 0 claimedOrder lineTwo .armBusy ∧
        refuses (claimed.modifyArm 0 (fun x => { x with queued := some ⟨1, 1⟩ })) 0 claimedOrder lineTwo .armBusy) ∧
      refuses claimed 2 claimedOrder lineTwo .productMismatch ∧
      refuses { claimed with probes := Table.fill 6 Probe.cold } 0 claimedOrder lineTwo .probeFault ∧
      refuses { claimed with store := { claimed.store with meters := Table.fill 6 MeterStore.blank } } 0 claimedOrder lineTwo
        .uncalibrated ∧
      refuses (claiming { holder with state := .barred, expiry := 0 }) 0 claimedOrder lineTwo .permitBarred ∧
      refuses (claiming { holder with expiry := 20611 }) 0 claimedOrder lineTwo .permitExpired ∧
      refuses { claimed with store := { claimed.store with injectors := Table.fill 8 InjectorStore.blank } } 0 claimedOrder
        lineOne .injectorUnavailable ∧
      -- and none of them where every check passes
      (∀ c, ¬ refusedBy (claimed.startChecked 0 claimedOrder lineTwo) c) ∧
      claimed.onlyOrder claimedOrder.number 10 claimedOrder ∧ claimedOrder.line? 2 = some lineTwo ∧
      claimedOrder.line? 3 = none ∧ ∀ slot, ∀ o ∈ claimed.order slot, o.number ≠ 1 := by
  have hd (q : Permit) (s : State) (h : s.permits = (Table.fill 200 none).set 8 (some q)) : s.permitsDiffer :=
    fun e f p r he hf _ => by
      rw [h] at he hf
      exact (sole_get he).1.trans (sole_get hf).1.symm
  have hq (q : Permit) : ∀ (e : Fin 200) (r : Permit), ((Table.fill 200 none).set 8 (some q)).get e = some r ↔
      e = 8 ∧ q = r := by
    intro e r
    constructor
    · exact fun h => ⟨(sole_get h).1, (sole_get h).2.symm⟩
    · rintro ⟨rfl, rfl⟩
      simp
  have hp : claimed.permits = (Table.fill 200 none).set 8 (some holder) := rfl
  have hb : claimed.bay.ground.recognized = .present ∧ claimed.bay.overfill.recognized = .present ∧
      claimed.bay.stop.active = false ∧ Bay.reset.ground.recognized = .lost := ⟨rfl, rfl, rfl, rfl⟩
  have hc : claimed.clock.day = 20612 := rfl
  have ha : (claimed.arms.get 0).state = .idle ∧ (claimed.arms.get 0).queued = none ∧
      (claimed.arms.get 0).setup.product = some 1 ∧ (claimed.arms.get 2).state = .idle ∧
      (claimed.arms.get 2).queued = none ∧ (claimed.arms.get 2).setup.product = none := by decide +kernel
  have hs : (claimed.probes.get 0).status = .valid ∧ (claimed.probes.get 2).status = .unknown ∧
      (claimed.store.meters.get 0).kFactor = 100000 ∧ (claimed.store.meters.get 0).curve = [⟨100, 100000⟩] ∧
      claimed.recipes.get 0 = some ⟨7, 400, 5⟩ := by decide +kernel
  refine ⟨⟨⟨hd holder _ rfl, ?_⟩, hd holder _ rfl, ?_⟩, ⟨hd holder _ rfl, ?_⟩, ⟨hd holder _ rfl, ?_⟩,
    ⟨⟨hd holder _ rfl, ?_⟩, hd holder _ rfl, ?_⟩, ⟨hd holder _ rfl, ?_⟩, ⟨hd holder _ rfl, ?_⟩, ⟨hd holder _ rfl, ?_⟩,
    ⟨hd _ _ rfl, ?_⟩, ⟨hd _ _ rfl, ?_⟩, ⟨hd holder _ rfl, ?_⟩, ?_, onlyOrder_sole rfl, rfl, rfl, by decide +kernel⟩
  all_goals simp [refusedBy, State.startChecked, beside, claimedOrder, postedOrder, lineTwo, lineOne, activeTwo, ha, hs,
    hp, hq, hb, hc, State.arm, State.modifyArm, State.meterStore, State.injectorStore, Table.modify_eq_set, Probe.cold, MeterStore.blank,
    InjectorStore.blank, ArmSetup.cold]

/-- Line 2 and its order, as `loads` holds them. -/
abbrev twoLines (l : Line) : Order := loadingOrder [lineOne, l]

theorem goesOn_twoLines (l : Line) : (twoLines l).goesOn 2 := ⟨1, lineOne, by decide, rfl, by decide⟩

/-- The order whose line 1 has ended, so that line 2 is its last. -/
abbrev lastLine (l : Line) : Order := loadingOrder [{ lineOne with state := .ended, result := some .complete }, l]

theorem notGoesOn_lastLine (l : Line) (st : OrderState) : ¬ ({ lastLine l with state := st } : Order).goesOn 2 := by
  rintro ⟨j, x, hj, hx, hs⟩
  match j, hj with
  | 0, _ => simp [Order.line?] at hx
  | 1, _ =>
    obtain rfl : { lineOne with state := LineState.ended, result := some .complete } = x := by
      simpa [Order.line?, lastLine, loadingOrder] using hx
    exact hs rfl
  | 2, h => exact h rfl
  | n + 3, _ => simp [Order.line?, lastLine, loadingOrder] at hx

/-- `loads`, line 2 being its order's last. -/
def lasts (st : OrderState) (l : Line) (f : Arm → Arm) : State :=
  { loads l f with orders := (Table.fill 24 none).set 10 (some { lastLine l with state := st }) }

theorem witness_LinesEndByRequestOrTimeout :
    let l := activeTwo none 1000000 900000
    let dosed := dosing (record 60000 0 2 none)
    bay.ready .console ∧ (bay.arm 1).state = .idle ∧
      (flowing.ready .console ∧ (flowing.arm 1).state.flowing = true ∧ (flowing.arm 1).active = some ⟨10, 2⟩ ∧
        flowing.lineAt ⟨10, 2⟩ = some l ∧ (flowing.arm 1).doses) ∧
      (dosed.ready .console ∧ (dosed.arm 1).state.flowing = true ∧ (dosed.arm 1).doses) ∧
      (held.ready .console ∧ (held.arm 1).state = .suspended ∧ (held.arm 1).active = some ⟨10, 2⟩ ∧
        held.order 10 = some (twoLines l) ∧ (twoLines l).line? 2 = some l ∧ (twoLines l).state = .loading ∧
        (twoLines l).goesOn 2 ∧ (held.arm 1).suspendTimer = some 1 ∧ held.due = []) ∧
      -- the order's last line, LOADING and CLOSING
      ∀ st ∈ [OrderState.loading, .closing],
        let s := lasts st l (fun x => { x with state := .suspended, suspendTimer := some 1 })
        let o := { lastLine l with state := st }
        s.ready .console ∧ (s.arm 1).state = .suspended ∧ s.order 10 = some o ∧ o.line? 2 = some l ∧ o.state = st ∧
          ¬ o.goesOn 2 ∧ s.journal.nextSlot 0 ∧ (s.arm 1).suspendTimer = some 1 :=
  ⟨ready_bay _, by decide +kernel, ⟨ready_loads _ _ _, by decide +kernel, by decide +kernel, by decide +kernel,
      doses_none (by decide +kernel)⟩,
    ⟨ready_of ⟨rfl, rfl, rfl⟩ _, by decide +kernel, doses_some (r := record 60000 0 2 none) (by decide +kernel) (by decide)
      (by decide +kernel)⟩,
    ⟨ready_loads _ _ _, by decide +kernel, by decide +kernel, by decide +kernel, by decide, rfl, goesOn_twoLines _,
      by decide +kernel, rfl⟩,
    fun st h => ⟨ready_of ⟨rfl, rfl, rfl⟩ _, by revert st; decide +kernel, by revert st; decide +kernel, rfl, rfl,
      notGoesOn_lastLine _ _, nextSlot_blank, by revert st; decide +kernel⟩⟩

/-- The same with a dosing record. -/
def closingDosed (l : Line) (r : ClosingReason) (d : DosingRecord) : State :=
  (closing l r 9 9 0 none).modifyArm 1 (fun x => { x with dosing := some d })

/-- An ending line on arm 2, whose close completes at the next sample; line 1 has a recipe or none. -/
def completing (recipe : Option (Fin 16)) (q : Option QueuedStart) : State :=
  { closing (activeTwo (some .complete) 4012300 4012300) .lineEnd 9 9 0 q with
    orders := (Table.fill 24 none).set 10
      (some (loadingOrder [{ lineOne with recipe := recipe }, activeTwo (some .complete) 4012300 4012300])) }

/-- Once the close is complete and line 2 ENDED, line 1 may start on arm 2. -/
theorem startable_completing (recipe : Option (Fin 16)) (h : recipe ∈ [none, some 0]) :
    let t := after (.meteringSample 1) (completing recipe none)
    ∀ o ∈ t.order 10, t.startable 1 10 o 1 { lineOne with recipe := recipe } := by
  intro t
  have only : ∀ k, ∀ x ∈ t.order k, k = 10 := by revert recipe; decide +kernel
  have checks : ∀ x ∈ t.order 10, x.state = .loading ∧ x.line? 1 = some { lineOne with recipe := recipe } ∧
      t.bay = bay.bay ∧ (t.arm 1).setup.product = some 1 ∧ (t.probes.get 1).status = .valid ∧
      (t.meterStore 1).kFactor ≠ 0 ∧ (t.meterStore 1).curve ≠ [] ∧ x.claimPermit = some holder.number ∧
      t.permits = claimed.permits ∧ t.clock = bay.clock := by
    clear only; revert recipe; decide +kernel
  intro o ho
  obtain ⟨h1, h2, h3, h4, h5, h6, h7, h8, h9, h10⟩ := checks o ho
  refine ⟨⟨ho, rfl, fun k r hk _ => only k r hk⟩, .inr h1, h2, by decide, rfl, ?_, ?_, ?_, h4, .inl h5, h6, h7, 8, holder, h8,
    onlyPermit_sole h9, rfl, ?_⟩
  · rw [h3]; rfl
  · rw [h3]; rfl
  · rw [h3]; rfl
  · rw [h10]; decide

theorem witness_ClosesComplete :
    let v (s : State) := s.nextSample 1 (s.arm 1).boundTrial (s.arm 1).lineCarries
    let running := activeTwo none 1000000 3999999
    let ending := activeTwo (some .complete) 4012300 4012300
    (let s := closing running .hold 9 9 0 none;
      (s.arm 1).active = some ⟨10, 2⟩ ∧ s.order 10 = some (twoLines running) ∧ (twoLines running).line? 2 = some running ∧
        (s.arm 1).state = .closing ∧ (s.arm 1).dosing = none ∧ (s.arm 1).decoder.sampleCount = 0 ∧ 9 ≤ (s.arm 1).zeroRun ∧
        (s.arm 1).stageGross + (v s).gross ≤ 4294967295 ∧ (s.arm 1).reason = some .hold ∧ running.isRunning = true ∧
        s.due = [] ∧ ¬ s.decides 1 running) ∧
      -- a line closing for a hold that a still sample finds at its preset
      (let s := closing (activeTwo none 4000000 4000000) .hold 9 9 0 none;
        s.decides 1 (activeTwo none 4000000 4000000) ∧ (s.arm 1).reason = some .hold) ∧
      -- the close waits for a shot owed, one in flight, one owed by the volume accrued and one owed at the line's end; it does
      -- not wait for a record at rest, ACCRUING just short of its interval or, at the line's end, of half of it, or FINISHING
      (∀ l ∈ [running, activeTwo none 4000000 4000000], ∀ d ∈ [record 99999 0 2 none, record 100000 0 2 none,
          record 50000 0 2 none, record 49999 0 2 none, { record 0 0 2 none with phase := .finishing },
          record 0 1 2 none, record 0 0 2 (some ⟨0, false⟩)],
        let s := closingDosed l .hold d
        (s.arm 1).dosing = some d ∧
          ((d.owed ≠ 0 ∨ d.shot ≠ none ∨ d.phase = .accruing ∧ (d.interval ≤ d.accumulator + (v s).gross ∨
            s.decides 1 l ∧ d.interval ≤ 2 * (d.accumulator + (v s).gross))) ↔
          d.owed = 1 ∨ d.shot.isSome = true ∨ d.accumulator = 100000 ∨ l.record.gv = 4000000 ∧ 50000 ≤ d.accumulator)) ∧
      (∀ q ∈ [none, some ⟨1, 1⟩], let s := closing ending .lineEnd 9 9 0 q
        (s.arm 1).reason = some .lineEnd ∧ s.order 10 = some (twoLines ending) ∧ (s.arm 1).queued = q ∧ ending.isEnding = true) ∧
      (twoLines ending).state = .loading ∧ (twoLines ending).goesOn 2 ∧ ¬ (lastLine ending).goesOn 2 ∧
      -- the queued start: an absent order, an absent line, a line past WAITING, a line that starts
      (∀ k, ∀ x ∈ (closing ending .lineEnd 9 9 0 (some ⟨1, 1⟩)).order k, x.number ≠ 1) ∧
      (twoLines ending).line? 9 = none ∧ ((twoLines ending).line? 2 = some ending ∧ ending.state ≠ .waiting) ∧
      (∀ recipe ∈ [none, some 0], let s := completing recipe (some ⟨6400517, 1⟩)
        (s.arm 1).suspendTimer = none ∧
          ((after (.meteringSample 1) s).arm 1).state = .lowStart ∧ ((after (.meteringSample 1) s).arm 1).queued = none) ∧
      (∀ s : State, s = after (.meteringSample 1) (completing (some 0) none) →
        s.recipes.get 0 = some ⟨7, 400, 5⟩ ∧ s.servedBy 1 7 0 1) ∧
      ((closing running .hold 9 9 0 none).arm 1).doses := by
  refine ⟨by decide +kernel, by decide +kernel, by decide +kernel, by decide +kernel, rfl, goesOn_twoLines _,
    notGoesOn_lastLine _ .loading, by decide +kernel, by decide, by decide, by decide +kernel, ?_, doses_none (by decide +kernel)⟩
  rintro s rfl
  exact ⟨by decide +kernel, by decide +kernel, by decide +kernel, by decide +kernel, fun q j h => absurd h (by simp)⟩

theorem witness_LeaksLockTheArm :
    let v (s : State) := s.nextSample 1 (s.arm 1).boundTrial (s.arm 1).lineCarries
    let l := activeTwo none 1000000 900000
    (twoLines l).goesOn 2 ∧ ¬ (lastLine l).goesOn 2 ∧ ¬ ({ lastLine l with state := .closing } : Order).goesOn 2 ∧
      (let s := closing l .hold 0 49 1 none;
        (s.arm 1).active = some ⟨10, 2⟩ ∧ s.order 10 = some (twoLines l) ∧ (twoLines l).line? 2 = some l ∧
        (twoLines l).state = .loading ∧ (s.arm 1).state = .closing ∧ (s.arm 1).decoder.sampleCount ≠ 0 ∧
        49 ≤ (s.arm 1).closeCount ∧ (s.arm 1).stageGross + (v s).gross ≤ 4294967295 ∧ s.due = [] ∧ ¬ s.decides 1 l) ∧
      -- CLOSING for a hold, the leak's own sample bringing the line to its preset
      (let s := closing (activeTwo none 3999995 3999995) .hold 0 49 1 none;
        s.decides 1 (activeTwo none 3999995 3999995) ∧ (s.arm 1).state = .closing) ∧
      (∀ st ∈ [OrderState.loading, .closing],
        let s := lasts st l (fun x => { x with
          state := .suspended, closeCount := 49, decoder := { x.decoder with sampleCount := 1 } })
        s.order 10 = some { lastLine l with state := st } ∧ (s.arm 1).state = .suspended ∧ (s.arm 1).dosing = none ∧
          ¬ s.decides 1 l ∧ (s.arm 1).decoder.sampleCount ≠ 0 ∧ 49 ≤ (s.arm 1).closeCount) ∧
      ((closing l .hold 0 49 1 (some ⟨1, 1⟩)).arm 1).queued.isSome = true ∧
      ((closing l .hold 0 49 1 none).arm 1).doses ∧
      ((closingDosed l .hold (record 60000 1 2 (some ⟨0, false⟩))).arm 1).doses :=
  ⟨goesOn_twoLines _, notGoesOn_lastLine _ .loading, notGoesOn_lastLine _ .closing, by decide +kernel, by decide +kernel,
    by decide +kernel, by decide +kernel, doses_none (by decide +kernel),
    doses_some (r := record 60000 1 2 (some ⟨0, false⟩)) (by decide +kernel) (by decide) (by decide +kernel)⟩

theorem witness_HoldsCloseTheArm :
    (bay.arm 0).active = none ∧ (∀ p, bay.ready p) ∧ (∀ p, flowing.ready p) ∧ (flowing.arm 1).active = some ⟨10, 2⟩ ∧
      (let s := loads (activeTwo none 0 0) (fun x => { x with state := .lowStart, noFlowTimer := some 1 });
        (s.arm 1).state = .lowStart ∧ (s.arm 1).noFlowTimer = some 1 ∧ s.due = []) :=
  ⟨by decide +kernel, ready_bay, ready_loads _ _, by decide +kernel, by decide +kernel⟩

theorem witness_ArmsAreFreedByRequest :
    let locked (n : Nat) := bay.modifyArm 0 (fun x => { x with state := .locked, zeroRun := n })
    (∀ n p, (locked n).ready p) ∧ ((locked 9).arm 0).zeroRun < 10 ∧ ((locked 10).arm 0).state = .locked ∧
      10 ≤ ((locked 10).arm 0).zeroRun ∧ (bay.arm 0).active = none ∧ (held.arm 1).active = some ⟨10, 2⟩ ∧
      (bay.arm 0).state ≠ .suspended ∧ (held.arm 1).state = .suspended ∧ (∀ p, held.ready p) ∧
      (held.arm 1).holds.blocksResume = false ∧
      ((held.modifyArm 1 (fun x => { x with holds := x.holds.put true .additive })).arm 1).holds.additive = true :=
  ⟨fun _ p => ready_of ⟨rfl, rfl, rfl⟩ p, by decide +kernel, by decide +kernel, by decide +kernel, by decide +kernel,
    by decide +kernel, by decide +kernel, by decide +kernel, ready_loads _ _, by decide +kernel, by decide +kernel⟩

/-- Both valves open and no permissive LOST; and a permissive LOST while an arm closes for it. -/
theorem interlocked_flowing : flowing.interlocked ∧ (after (.permissiveLoss .ground) flowing).interlocked := by
  refine ⟨⟨linesKept_flowing.1, by decide +kernel, by decide +kernel⟩, ?_, by decide +kernel, by decide +kernel⟩
  unfold State.armsStand Arm.standing
  decide +kernel

theorem witness_Permissives :
    (flowing.interlocked ∧ (flowing.arm 1).low = true ∧ (flowing.arm 1).full = true ∧ (flowing.arm 1).active.isSome = true) ∧
      (let lost := after (.permissiveLoss .ground) flowing;
        lost.interlocked ∧ lost.bay.ground.recognized = .lost) ∧
      ((flowing.permissive .ground).level = true ∧ (flowing.permissive .ground).recognized = .present ∧ flowing.armsStand) ∧
      (let back := after (.permissiveInputReturn .overfill) State.reset;
        (back.permissive .overfill).level = true ∧ (back.permissive .overfill).recognized = .lost ∧
          (back.permissive .overfill).timer = some 5000 ∧ back.due = []) ∧
      ((State.reset.permissive .overfill).level = false ∧ (State.reset.permissive .overfill).recognized = .lost) :=
  ⟨⟨interlocked_flowing.1, by decide +kernel⟩, ⟨interlocked_flowing.2, by decide +kernel⟩,
    ⟨rfl, rfl, linesKept_flowing.1⟩, by decide +kernel, rfl, rfl⟩

theorem witness_EmergencyStop :
    (let s := dosing (record 10000 0 2 (some ⟨0, false⟩));
      s.bay.stop.level = false ∧ s.bay.stop.active = false ∧ s.linesKept ∧ s.dosesKept ∧ s.bay.saved = false) ∧
      (State.reset.bay.stop.level = false ∧ State.reset.bay.stop.active = true ∧ State.reset.bay.stop.timer = some 5000 ∧
        State.reset.due = []) ∧
      (let s := after .estopActivation flowing;
        s.bay.stop.level = true ∧ s.bay.stop.active = true) :=
  ⟨⟨rfl, rfl, linesKept_dosing, dosesKept_dosing, rfl⟩, ⟨rfl, rfl, rfl, rfl⟩, by decide +kernel⟩

theorem witness_Deadman :
    let s (ms : Nat) (warned : Bool) := { flowing with bay := { bay.bay with deadman := ⟨false, some ms, warned⟩ } }
    ((s 119999 false).bay.deadman.elapsed = some 119999 ∧ (s 119999 false).bay.deadman.warned = false) ∧
      flowing.bay.deadman.elapsed = none ∧ flowing.due = [] ∧ (∀ ms w, (s ms w).due = []) ∧
      ((s 149999 true).bay.deadman.elapsed = some 149999 ∧ (s 149999 true).bay.deadman.warned = true ∧
        (s 149999 true).armsStand) ∧
      (s 149999 true).bay.deadman.pressed = false :=
  ⟨⟨rfl, rfl⟩, rfl, rfl, fun _ _ => rfl, ⟨rfl, rfl, linesKept_flowing.1⟩, rfl⟩

theorem witness_InjectorsAreDeployed :
    bay.ready .terminal ∧ (flowing.arm 1).state ≠ .idle ∧
      ((bay.arm 0).state = .idle ∧ (bay.arm 0).setup.positions.get 0 = some 0 ∧ (bay.arm 0).setup.positions.get 1 = none) ∧
      ((∀ a p, (bay.arm a).setup.positions.get p ≠ some 7) ∧ (∀ j, (bay.injector j).standby ≠ some 7) ∧
        (bay.injectorStore 7).failed = false) ∧
      ((7 : Fin 8) ≠ 0 ∧ (bay.injector 0).standby = none ∧
        (let s := bay.modifyInjectorStore 7 (fun x => { x with additive := 7 });
          s.ready .terminal ∧ (s.injectorStore 7).additive = (s.injectorStore 0).additive)) ∧
      (bay.injector 1).standby ≠ none ∧ (bay.modifyInjectorStore 7 (fun x => { x with failed := true })).ready .terminal ∧
      ((bay.modifyInjectorStore 7 (fun x => { x with failed := true })).injectorStore 7).failed = true :=
  ⟨ready_bay _, by decide +kernel, by decide +kernel, by decide +kernel,
    ⟨by decide, by decide +kernel, ready_of ⟨rfl, rfl, rfl⟩ _, by decide +kernel⟩, by decide +kernel,
    ready_of ⟨rfl, rfl, rfl⟩ _, by decide +kernel⟩

theorem rolesKept_dosing : (dosing (record 10000 0 2 (some ⟨0, false⟩))).rolesKept := dosesKept_dosing.2.2

theorem witness_ReleaseStandby :
    let s := dosing (record 10000 0 2 (some ⟨0, false⟩))
    s.ready .terminal ∧ (8 < 9 ∧ (0 : Nat) = 0) ∧ (∀ j, (s.injector j).standby ≠ some 1) ∧ s.rolesKept ∧
      (s.injector 1).standby = some 2 :=
  ⟨ready_of ⟨rfl, rfl, rfl⟩ _, by decide, by decide +kernel, rolesKept_dosing, by decide +kernel⟩

theorem witness_FeedbackPulses :
    let s (n : Nat) := dosing (record 10000 0 2 (some ⟨n, false⟩))
    let late := { record 0 0 0 none with phase := .disengaged, late := some 1 }
    let disengaged := (dosing late).modifyArm 1 (fun x =>
      { x with setup := { x.setup with positions := x.setup.positions.set 0 none } })
    ((bay.injectorStore 0).kFactor ≠ 0 ∧ (∀ a, (bay.arm a).engaged ≠ some 0) ∧ ∀ a, (bay.arm a).dosing = none) ∧
      ((disengaged.injectorStore 1).kFactor ≠ 0 ∧ (∀ a, (disengaged.arm a).engaged ≠ some 1) ∧
        (disengaged.arm 1).dosing = some late ∧ ∀ b, b ≠ 1 → (disengaged.arm b).dosing = none) ∧
      (∀ n ∈ [78, 79], ((s n).injectorStore 1).kFactor ≠ 0 ∧ ((s n).arm 1).engaged = some 1 ∧
        (∀ b, b ≠ 1 → ((s n).arm b).engaged ≠ some 1) ∧
        ((s n).arm 1).dosing = some (record 10000 0 2 (some ⟨n, false⟩)) ∧ ((s n).arm 1).holds.additive = false) ∧
      (78 + 1 < (record 0 0 0 none).target ∧ (record 0 0 0 none).target ≤ 79 + 1) ∧
      ((dosing (record 10000 0 2 none)).arm 1).dosing = some (record 10000 0 2 none) ∧
      -- shots still owed; nothing owed, with less than an interval accrued and with a whole one
      (∀ r ∈ [record 10000 3 2 (some ⟨79, true⟩), record 99999 0 2 (some ⟨79, false⟩), record 100000 0 2 (some ⟨79, false⟩)],
        ((dosing r).arm 1).dosing = some r ∧ ((dosing r).arm 1).engaged = some 1 ∧ 0 < r.interval ∧
          ((dosing r).injectorStore 1).failed = false ∧ ((dosing r).injectorStore 1).additive = r.additive) := by
  decide +kernel

theorem witness_VerifyWindows :
    let s (budget : Nat) := dosing (record 31500 0 budget (some ⟨60, true⟩))
    (∀ r, (dosing r).due = []) ∧
    (((s 0).modifyInjector 1 (fun x => { x with voided := true })).injector 1).voided = true ∧
      ((s 0).injector 1).voided = false ∧
      (∀ n ∈ [78, 79], let r := record 31500 0 0 (some ⟨n, true⟩)
        ((dosing r).arm 1).dosing = some r ∧ ((dosing r).injector 1).window = some 3000 ∧
          ((dosing r).injector 1).voided = false ∧ (r.target ≤ n + 1 ↔ n = 79)) ∧
      (∀ budget ∈ [1, 0], ((s budget).arm 1).engaged = some 1 ∧ (∀ b, b ≠ 1 → ((s budget).arm b).engaged ≠ some 1) ∧
      ((s budget).arm 1).dosing = some (record 31500 0 budget (some ⟨60, true⟩)) ∧
      ((s budget).injector 1).window = some 3000 ∧ ((s budget).arm 1).holds.additive = false) ∧
      (((s 0).injector 1).standby = some 2 ∧ ((s 0).injector 2).window = none ∧
        0 < ((s 0).injectorStore 2).shotSize * 10000 / 400 ∧ ((s 0).arm 1).active = some ⟨10, 2⟩ ∧ (2 : Fin 8) ≠ 1) ∧
      (let r := record 22000 3 0 (some ⟨0, true⟩)
       ((dosing r).arm 1).dosing = some r ∧ r.budget = 0 ∧ ((dosing r).injector 1).window = some 3000) ∧
      (let alone := (s 0).modifyInjector 1 (fun x => { x with standby := none });
        (alone.arm 1).engaged = some 1 ∧ (alone.injector 1).window = some 3000 ∧ (alone.injector 1).standby = none) :=
  ⟨fun _ => rfl, by decide +kernel⟩

theorem witness_WriteCalibration :
    (∀ w l n, (proving w l n).ready .terminal) ∧
      (∀ arm k, ∃ c, c = Instr.writeCalibrationKFactor .terminal 0#8 arm k) ∧
      ((proving .locked .sealOpen 1).bay.switch = .locked ∧ (proving .amend .sealHeld 1).store.sealLevel ≠ .sealOpen ∧
        (proving .amend .sealOpen 65535).store.counter = 65535 ∧ (proving .amend .sealOpen 65534).store.counter < 65535) ∧
      ((proving .amend .sealOpen 65534).arm 0).active = none ∧ (flowing.arm 1).active ≠ none ∧
      flowing.store.sealLevel = .sealOpen ∧
      (let points : List CurvePoint := [⟨1, 95000⟩, ⟨2, 100000⟩, ⟨3, 100000⟩, ⟨5000, 105000⟩];
        points.length ≤ 4 ∧ points.Pairwise (fun x y => x.flow < y.flow) ∧
          ∀ x ∈ points, 1 ≤ x.flow ∧ x.flow ≤ 5000 ∧ 95000 ≤ x.factor ∧ x.factor ≤ 105000) ∧
      ((∀ a, (bay.arm a).engaged ≠ some 7) ∧ (bay.injector 7).window = none ∧
        (∀ a p, (bay.arm a).setup.positions.get p ≠ some 7) ∧ ∀ j, (bay.injector j).standby ≠ some 7) ∧
      (bay.injectorStore 0).additive = 7 :=
  ⟨fun _ _ _ => ready_of ⟨rfl, rfl, rfl⟩ _, fun _ _ => ⟨_, rfl⟩, by decide, by decide +kernel, by decide +kernel, rfl,
    by decide, by decide +kernel, by decide +kernel⟩

theorem witness_SealAndTrialFactors :
    (∀ w l n, (proving w l n).ready .terminal) ∧ SealLevel.code .sealOpen < (proving .amend .sealHeld 0).store.sealLevel.code ∧
      (proving .amend .sealHeld 0).store.sealLevel.code ≤ SealLevel.code .sealHeld ∧ (95000 ≤ 95000 ∧ 105000 ≤ 105000) ∧
      (proving .locked .sealFixed 0).bay.switch = .locked ∧ (proving .amend .sealFixed 0).store.sealLevel = .sealFixed :=
  ⟨fun _ _ _ => ready_of ⟨rfl, rfl, rfl⟩ _, by decide, by decide, by decide, rfl, rfl⟩

/-- A journal that holds one note. -/
theorem onlyNote {slot : JournalSlot} {k j : Fin 48} {m : Note}
    (h : (((Table.fill 48 JournalSlot.empty).set k slot).get j).note? = some m) : j = k := by
  rw [Table.get_set] at h
  split at h
  · next hk => exact hk
  · simp [JournalSlot.note?] at h

theorem witness_NotesAreCollectedAndPrinted :
    let s := journaled (noteOne 255)
    let c := { bay with journal := ⟨(Table.fill 48 JournalSlot.empty).set 47 (.collected { noteOne 0 with sequenceNumber := 999999 }), [47], 999999, []⟩ }
    (∀ p, s.ready p ∧ c.ready p) ∧ bay.journal.lacks 1 ∧
      ((s.journal.slots.get 0).note? = some (noteOne 255) ∧ (s.journal.slots.get 0).isStored = true) ∧
      ((c.journal.slots.get 47).isCollected = true ∧
        (c.journal.slots.get 47).note?.map Note.sequenceNumber = some 999999) ∧
      (∀ j m, (s.journal.slots.get j).note? = some m → m.sequenceNumber = 314207 → j = 0) ∧
      ∀ j m, (c.journal.slots.get j).note? = some m → m.sequenceNumber = 999999 → j = 47 :=
  ⟨fun p => ⟨ready_of ⟨rfl, rfl, rfl⟩ p, ready_of ⟨rfl, rfl, rfl⟩ p⟩,
    fun k n h => by
      have : ∀ j, (bay.journal.slots.get j).note? = none := by decide +kernel
      simp [this k] at h,
    by decide +kernel, by decide +kernel, fun _ _ h _ => onlyNote h, fun _ _ h _ => onlyNote h⟩

theorem witness_PowerFailSave :
    (after .powerFailSave bay).bay.saved = true ∧
      (let s := dosing (record 10000 0 2 (some ⟨0, false⟩));
        s.bay.saved = false ∧ s.linesKept ∧ s.dosesKept ∧ (s.arm 1).dosing.isSome = true ∧ (s.arm 0).dosing = none ∧
          s.order 10 = some (twoLines { activeTwo none 1505300 1480000 with recipe := some 0 }) ∧ s.order 0 = none) :=
  ⟨by decide +kernel, rfl, linesKept_dosing, dosesKept_dosing, by decide +kernel, by decide +kernel, by decide +kernel⟩

/-- A journal with so many STORED notes, numbered from 1. -/
def numbered (count : Nat) : Journal :=
  ⟨⟨(List.range 48).map (fun i => if i < count then .stored { noteOne 0 with sequenceNumber := i + 1 } else .empty),
    by simp⟩, (List.finRange 48).filter (fun k => decide (k.val < count)), count, []⟩

/-- The journal is kept where a finite check says so. -/
theorem kept_of {j : Journal} (h1 : j.composition.Nodup) (h2 : ∀ k, k ∈ j.composition ↔ (j.slots.get k).isEmpty = false)
    (h3 : ∀ k, ∀ n ∈ (j.slots.get k).note?, 1 ≤ n.sequenceNumber ∧ n.sequenceNumber ≤ 999999)
    (h4 : ((List.finRange 48).filterMap (fun k => (j.slots.get k).note?.map Note.sequenceNumber)).Nodup) : j.kept := by
  refine ⟨h1, h2, fun k n h => h3 k n h, fun i k m n hi hk he => ?_⟩
  by_contra hne
  have hp := List.pairwise_filterMap.mp h4
  have := (hp.imp (fun {a b} hab => show (a = i → b = k → False) ∧ (a = k → b = i → False) from
    ⟨by rintro rfl rfl; exact hab _ (by simp [hi]) _ (by simp [hk]) he,
     by rintro rfl rfl; exact hab _ (by simp [hk]) _ (by simp [hi]) he.symm⟩))
  have key := List.Pairwise.forall_of_forall_of_flip
    (R := fun a b : Fin 48 => a ≠ b → (a = i → b = k → False)) (l := List.finRange 48)
    (fun x _ h => absurd rfl h) (this.imp (fun h _ => h.1)) (this.imp (fun h _ ha hb => h.2 hb ha))
  exact key (List.mem_finRange i) (List.mem_finRange k) hne rfl rfl

theorem kept_numbered (count : Nat) (h : count ∈ [0, 42, 46]) : (numbered count).kept :=
  kept_of (by revert count; decide +kernel) (by revert count; decide +kernel) (by revert count; decide +kernel)
    (by revert count; decide +kernel)

theorem witness_ColdStart :
    let delivered := twoLines (activeTwo none 1 1)
    let s (images : List Order) (n : Nat) := { bay with journal := { stocked n with saveArea := images } }
    let u (images : List Order) (n : Nat) := { bay with journal := { numbered n with saveArea := images } }
    bay.bay.saved = false ∧ (after .powerFailSave bay).bay.saved = true ∧ bay.journal.saveArea = [] ∧
      ((s [claimedOrder] 43).journal.saveArea = [claimedOrder] ∧ (∀ l ∈ claimedOrder.lines, l.record.gv = 0) ∧
        (s [claimedOrder] 43).storedCount ≤ 43) ∧
      ((s [delivered] 42).journal.saveArea = [delivered] ∧ activeTwo none 1 1 ∈ delivered.lines ∧
        0 < (activeTwo none 1 1).record.gv ∧ (s [delivered] 42).storedCount ≤ 42) ∧
      (s [delivered] 42).journal.nextSlot 42 ∧
      -- two images, the second discarded or not, on journals of 0, 42 and 46 notes
      ∀ n ∈ [0, 42, 46], ∀ o ∈ [claimedOrder, delivered],
        (u [delivered, o] n).journal.kept ∧
          (u [delivered, o] n).storedCount + (u [delivered, o] n).journal.saveArea.length ≤ 48 := by
  refine ⟨rfl, by decide +kernel, rfl, ⟨rfl, by decide, by decide +kernel⟩, ⟨rfl, by decide, by decide, by decide +kernel⟩,
    .inl ⟨by decide +kernel, ?_⟩, fun n hn o ho => ⟨kept_numbered n hn, ?_⟩⟩
  · decide +kernel
  · revert n o; decide +kernel

/-- The full-flow state with a second permit, which claims nothing. -/
def twoPermits : State :=
  { flowing with permits := flowing.permits.set 0 (some { holder with number := 7, claim := none }) }

theorem witness_Restart :
    flowing.ready .terminal ∧ flowing.linesKept ∧
      (flowing.order 10 = some (twoLines (activeTwo none 1000000 900000)) ∧
        (twoLines (activeTwo none 1000000 900000)).state = .loading ∧
        (twoLines (activeTwo none 1000000 900000)).claimPermit = some holder.number ∧ flowing.permits.get 8 = some holder) ∧
      flowing.journalRoom ∧ flowing.journal.kept ∧
      (twoPermits.permits.get 0 = some { holder with number := 7, claim := none } ∧
        ∀ k, ∀ o ∈ twoPermits.order k, o.claimPermit ≠ some 7) :=
  ⟨ready_loads _ _ _, linesKept_flowing, by decide +kernel,
    ⟨by decide +kernel, by decide +kernel, fun _ => rfl, fun h => absurd h (by decide)⟩,
    kept_of (by decide +kernel) (by decide +kernel) (by decide +kernel) (by decide +kernel), by decide +kernel⟩

/-- Permits and orders agree where one permit holds one order. -/
theorem claimsAgree_sole {s : State} {o : Order} (h : s.permits = (Table.fill 200 none).set 8 (some holder))
    (h2 : s.orders = (Table.fill 24 none).set 10 (some o)) (h3 : o.state ≠ .posted) (h4 : o.claimPermit = some holder.number)
    (h5 : o.claimTanker ≠ none ∧ o.claimTime ≠ none) : s.claimsAgree := by
  have get : ∀ k r, s.order k = some r → k = 10 ∧ r = o := fun k r hk => by
    rw [State.order, h2] at hk
    exact sole_get hk
  refine ⟨fun e f p q he hf _ => ?_, fun k j o r hk hj _ => (get k o hk).1.trans (get j r hj).1.symm,
    fun e p slot he hp => ?_, fun slot r hr => ?_⟩
  · rw [h] at he hf
    exact (sole_get he).1.trans (sole_get hf).1.symm
  · rw [h] at he
    obtain ⟨-, rfl⟩ := sole_get he
    obtain rfl : slot = 10 := by simpa using hp.symm
    exact ⟨o, by simp [State.order, h2], h3, h4⟩
  · obtain ⟨rfl, rfl⟩ := get slot r hr
    exact ⟨fun hs => absurd hs h3, fun _ => ⟨h5.1, h5.2, 8, holder, by simp [h], h4, rfl, fun _ => rfl⟩⟩

theorem witness_LinesAndArmsAgree :
    flowing.linesKept ∧ flowing.claimsAgree ∧ claimed.claimsAgree ∧
      (∃ t, step { flowing with pending := [.endLine .console 0#8 2] } = .next t) ∧
      ∃ t, step { claimed with pending := [.claimTimeout 10] } = .next t :=
  ⟨linesKept_flowing, claimsAgree_sole rfl rfl (by decide) rfl (by decide),
    claimsAgree_sole (o := claimedOrder) rfl rfl (by decide) rfl (by decide), ⟨_, rfl⟩, _, rfl⟩

theorem witness_InterlockHolds :
    let s := after (.permissiveLoss .ground) flowing
    (s.bay.ground.recognized = .lost ∧ (s.arm 1).active.isSome = true ∧ (s.arm 1).holds.ground = true) ∧
      s.interlocked ∧ flowing.interlocked ∧ ∃ t, step { flowing with pending := [.permissiveLoss .ground] } = .next t :=
  ⟨by decide +kernel, interlocked_flowing.2, interlocked_flowing.1, _, rfl⟩

theorem witness_JournalHasRoom :
    let s := { claimed with journal := stocked 47 }
    s.storedCount + s.reservations = 48 ∧ s.journalRoom ∧ (∃ t, step s = .next t) ∧
      ∀ n ∈ [0, 42, 46], (numbered n).kept ∧ ∃ t, step { claimed with journal := numbered n } = .next t := by
  refine ⟨by decide +kernel, ⟨by decide +kernel, by decide +kernel, fun _ => rfl, fun h => ?_⟩, ⟨_, rfl⟩,
    fun n h => ⟨kept_numbered n h, _, rfl⟩⟩
  cases h

theorem witness_NoticeSetsAreKept :
    let s := listening [⟨.strayFlow, 6, ⟨1, 1⟩⟩, ⟨.estop, 0, ⟨1, 1⟩⟩] [2, 7]
    s.portsKept ∧ ∃ t, step s = .next t := by
  refine ⟨?_, _, rfl⟩
  unfold State.portsKept Port.kept
  decide +kernel

theorem witness_DosingIsKept :
    let s := dosing (record 10000 0 2 (some ⟨0, false⟩))
    s.dosesKept ∧ s.dosesCalibrated ∧ ∃ t, step s = .next t := by
  refine ⟨dosesKept_dosing, ⟨?_, by decide +kernel, ?_⟩, _, rfl⟩
  · have : ∀ k, ∀ x ∈ (dosing (record 10000 0 2 (some ⟨0, false⟩))).recipes.get k,
        1 ≤ x.additive ∧ 10 ≤ x.rate ∧ x.rate ≤ 2500 := by decide +kernel
    exact fun k x h => this k x h
  · have : ∀ a, ∀ r ∈ ((dosing (record 10000 0 2 (some ⟨0, false⟩))).arm a).dosing,
        1 ≤ r.additive ∧ 10 ≤ r.rate ∧ r.rate ≤ 2500 ∧ 2000 ≤ r.interval ∧ 100000 ≤ r.servingKf ∧
          (∀ i, ((dosing (record 10000 0 2 (some ⟨0, false⟩))).arm a).engaged = some i → i = r.serving ∧
            ((dosing (record 10000 0 2 (some ⟨0, false⟩))).injectorStore i).additive = r.additive) ∧
          (((dosing (record 10000 0 2 (some ⟨0, false⟩))).arm a).engaged = none →
            r.phase = .disengaged ∧ r.owed = 0 ∧ r.shot = none) := by decide +kernel
    exact fun a r h => this a r h

theorem witness_RangesAreKept :
    let s := { bay with
      clock := ⟨65535, 86399, true, 1⟩
      store := { bay.store with counter := 65535, meters := bay.store.meters.modify 1 (fun m =>
        { m with gross := ⟨999999999, 999⟩ }) } }
    s.clockKept ∧ s.store.kept ∧ s.probesKept ∧ ∃ t, step s = .next t := by
  refine ⟨?_, ?_, ?_, _, rfl⟩
  · unfold State.clockKept; decide
  · unfold Store.kept; decide +kernel
  · unfold State.probesKept; decide +kernel

theorem witness_SealNeverFalls :
    let s := proving .amend .sealHeld 0
    (∃ t, exec .coldStart s = .next t) ∧ (∃ t, exec (.setSeal .terminal 0#8 3) s = .next t) ∧
      (after .powerFailSave s).bay.saved = true ∧ s.store.sealLevel = .sealHeld :=
  ⟨⟨_, rfl⟩, ⟨_, rfl⟩, by decide +kernel, rfl⟩

end Sys2Proof.Tests
end

section
namespace Sys2Proof.Machine

/-! ### A request on a ready port, said for the statements -/

/-- A request answered OK on a ready port leaves its judgement's state with the frame and the reply of the port. -/
theorem State.frame_answered {s : State} {p : PortId} (h : s.ready p) {who : Senders} (hw : who.permits p = true)
    {tag code : Byte} {judge : State → Answer} {t : State} {content : List Byte}
    (hj : judge (s.heard p) = (t.heard p).ok content) :
    s.frame p tag code who judge = t.answered p tag code content := by
  rw [State.frame_ready h hw, hj]
  rfl

/-- A request refused on a ready port. -/
theorem State.frame_refused {s : State} {p : PortId} (h : s.ready p) {who : Senders} (hw : who.permits p = true)
    {tag code : Byte} {judge : State → Answer} {c : ReplyCode} (hj : judge (s.heard p) = (s.heard p).refuse c) :
    s.frame p tag code who judge = s.turnedAway p tag code c := by
  rw [State.frame_ready h hw, hj]
  rfl

end Sys2Proof.Machine
end

section
namespace Sys2Proof.Proofs
open Sys2Proof Sys2Proof.Machine

/-- Settles O14: the advance by its three cases, SET CLOCK by its port and its one check. -/
theorem bayClock : Obligations.BayClock := by
  unfold Obligations.BayClock
  intro s
  refine ⟨fun ⟨hday, hsecond⟩ hdue => ?_, fun tag day second hday => ⟨fun h => ?_, fun h hs => ?_, fun h hs => ?_⟩⟩
  · have advance : exec .clockAdvance s = .next { s with clock := s.clock.advance } :=
      congrArg Host.Outcome.next (State.expiry_own hdue _)
    rw [advance]
    refine ⟨fun h => ?_, fun h h' => ?_, fun h h' => ?_⟩
    · simp [Clock.advance, h]
    · simp [Clock.advance, h, h']
    · simp [Clock.advance, h, h']
  · exact congrArg Host.Outcome.next (State.frame_wrongPort h rfl _ _ _)
  · refine congrArg Host.Outcome.next (State.frame_refused h rfl ?_)
    simp [setClock, State.checked, hs]
  · refine congrArg Host.Outcome.next (State.frame_answered (t := { s with clock := _ }) h rfl ?_)
    exact State.checked_ok _ _ _ (by simp; omega)

end Sys2Proof.Proofs
end

section
namespace Sys2Proof.Machine

/-! ### The state after reset, table by table -/

@[simp] theorem State.reset_permits (e : Fin 200) : State.reset.permits.get e = none := Table.get_fill _ e
@[simp] theorem State.reset_products (k : Fin 16) : State.reset.products.get k = none := Table.get_fill _ k
@[simp] theorem State.reset_recipes (k : Fin 16) : State.reset.recipes.get k = none := Table.get_fill _ k
@[simp] theorem State.reset_order (k : Fin 24) : State.reset.order k = none := Table.get_fill _ k
@[simp] theorem State.reset_arm (a : Fin 6) : State.reset.arm a = Arm.cold := Table.get_fill _ a
@[simp] theorem State.reset_probes (a : Fin 6) : State.reset.probes.get a = Probe.cold := Table.get_fill _ a
@[simp] theorem State.reset_injector (i : Fin 8) : State.reset.injector i = Injector.cold := Table.get_fill _ i
@[simp] theorem State.reset_injectorStore (i : Fin 8) : State.reset.injectorStore i = InjectorStore.blank :=
  Table.get_fill _ i
@[simp] theorem State.reset_meterStore (a : Fin 6) : State.reset.meterStore a = MeterStore.blank := Table.get_fill _ a
@[simp] theorem State.reset_slots (k : Fin 48) : State.reset.journal.slots.get k = .empty := Table.get_fill _ k
@[simp] theorem State.reset_port (p : PortId) : State.reset.port p = Port.cold := by cases p <;> rfl
@[simp] theorem Arm.cold_positions (p : Fin 2) : Arm.cold.setup.positions.get p = none := Table.get_fill _ p

/-! ### Each invariant at reset -/

/-- An arm at cold start carries no line, and stands so. -/
theorem Arm.cold_standing : Arm.cold.standing := by simp [Arm.standing, Arm.cold]

theorem State.reset_armsStand : State.reset.armsStand := fun a => by rw [State.reset_arm]; exact Arm.cold_standing

theorem State.reset_linesKept : State.reset.linesKept :=
  ⟨State.reset_armsStand, fun _ => ⟨fun a ref h => by simp [Arm.cold] at h, fun slot o k l h => by simp at h⟩⟩

theorem State.reset_claimsAgree : State.reset.claimsAgree := by simp [State.claimsAgree]

theorem State.reset_interlocked : State.reset.interlocked :=
  ⟨State.reset_armsStand, by simp [Arm.cold], by simp [Arm.cold]⟩

theorem State.reset_journalRoom : State.reset.journalRoom :=
  ⟨by decide +kernel, by decide +kernel, fun _ => rfl, fun h => Bool.noConfusion h⟩

theorem State.reset_journalKept : State.reset.journal.kept := by
  refine ⟨List.nodup_nil, fun k => ?_, fun k n h => ?_, fun i k m n h => ?_⟩
  · rw [State.reset_slots]
    exact iff_of_false List.not_mem_nil Bool.noConfusion
  · simp [JournalSlot.note?] at h
  · simp [JournalSlot.note?] at h

theorem Port.cold_kept : Port.cold.kept := by
  refine ⟨List.nodup_nil, List.nodup_nil, by simp [Port.cold], ?_⟩
  decide

theorem State.reset_dosesKept : State.reset.dosesKept := by
  refine ⟨State.reset_armsStand, fun a r h => by simp [Arm.cold] at h, ?_⟩
  simp [State.rolesKept, Injector.cold, InjectorStore.blank]

theorem State.reset_dosesCalibrated : State.reset.dosesCalibrated := by
  simp [State.dosesCalibrated, Arm.cold, InjectorStore.blank]

theorem State.reset_storeKept : State.reset.store.kept :=
  ⟨by decide, fun a => by
    rw [show State.reset.store.meters.get a = MeterStore.blank from State.reset_meterStore a]
    decide⟩

theorem State.reset_probesKept : State.reset.probesKept := fun a => by rw [State.reset_probes]; decide

end Sys2Proof.Machine
end

section
namespace Sys2Proof.Proofs
open Sys2Proof Sys2Proof.Machine

/-- Settles O4: every table holds its cold-start entry, and so meets every invariant. -/
theorem resetState : Obligations.ResetState := by
  unfold Obligations.ResetState
  refine ⟨rfl, State.reset_permits, State.reset_products, State.reset_recipes, State.reset_order, fun a => ?_, rfl,
    fun a => ?_, fun i => ⟨State.reset_injector i, State.reset_injectorStore i⟩, State.reset_meterStore, rfl, rfl,
    State.reset_slots, rfl, rfl, rfl, rfl, rfl, rfl, rfl, rfl, rfl, State.reset_port, rfl, rfl,
    State.reset_linesKept, State.reset_claimsAgree, State.reset_interlocked, State.reset_journalRoom,
    State.reset_journalKept, ⟨Port.cold_kept, Port.cold_kept⟩, State.reset_dosesKept, State.reset_dosesCalibrated,
    ⟨by decide, by decide⟩, State.reset_storeKept, State.reset_probesKept⟩
  · rw [State.reset_arm]
    exact ⟨rfl, rfl, rfl, rfl, rfl, rfl, rfl, rfl, rfl, rfl, rfl, rfl, rfl, rfl, rfl, rfl, rfl, rfl, rfl, rfl, rfl, rfl,
      rfl, rfl, rfl, Arm.cold_positions, rfl⟩
  · rw [State.reset_probes]
    exact ⟨rfl, rfl, rfl, rfl, rfl⟩

end Sys2Proof.Proofs
end

section
namespace Sys2Proof.Machine

/-! ### Changing one permit, and the bar of a permit (R9, R10, R11) -/

/-- Changing a held permit is writing its entry. -/
theorem State.modifyPermit_eq {s : State} {e : Fin 200} {q : Permit} (h : s.permits.get e = some q)
    (f : Permit → Permit) : s.modifyPermit e f = { s with permits := s.permits.set e (some (f q)) } := by
  simp [State.modifyPermit, Table.modify_eq_set, h]

/-- A permit rewritten under its number stays the only one of that number. -/
theorem State.onlyPermit_write {s : State} {num : Nat} {e : Fin 200} {q r : Permit} (h : s.onlyPermit num e q)
    (hr : r.number = num) : ({ s with permits := s.permits.set e (some r) } : State).onlyPermit num e r := by
  obtain ⟨-, -, only⟩ := h
  refine ⟨Table.get_set_self _ _ _, hr, fun k x hx hn => ?_⟩
  by_cases hk : k = e
  · exact hk
  · exact only k x ((Table.get_set_ne _ _ hk).symm.trans hx) hn

/-- A bar leaves everything but the permit's state where the permit claims no CLAIMED order. -/
theorem State.barClaim_stands {s : State} {claim : Option (Fin 24)}
    (h : ∀ slot o, claim = some slot → s.order slot = some o → o.state ≠ .claimed) : s.barClaim claim = s := by
  unfold State.barClaim
  split
  · rfl
  · next slot =>
    split
    · next o ho => exact if_neg (h slot o rfl ho)
    · rfl

/-- A bar withdraws a claim on a CLAIMED order, on both sides, and raises CLAIM_EXPIRED. -/
theorem State.barClaim_withdraws {s : State} {slot : Fin 24} {o : Order} {e : Fin 200} {q : Permit}
    (ho : s.order slot = some o) (hs : o.state = .claimed) (hc : o.claimPermit = some q.number)
    (hq : s.onlyPermit q.number e q) :
    s.barClaim (some slot) = ({ s with
      orders := s.orders.set slot (some o.unclaim)
      permits := s.permits.set e (some { q with claim := none }) } : State).raise .claimExpired (number slot) := by
  simp only [State.barClaim, ho, hs, if_true]
  rw [State.withdrawClaim_eq ho hc hq]

/-- The bar of a permit rewritten in its entry, where its claim is on a CLAIMED order. -/
theorem State.barClaim_written {s : State} {slot : Fin 24} {o : Order} {e : Fin 200} {q r : Permit}
    (ho : s.order slot = some o) (hs : o.state = .claimed) (hc : o.claimPermit = some q.number)
    (hq : s.onlyPermit q.number e q) (hr : r.number = q.number) :
    ({ s with permits := s.permits.set e (some r) } : State).barClaim (some slot) = ({ s with
      permits := s.permits.set e (some { r with claim := none })
      orders := s.orders.set slot (some o.unclaim) } : State).raise .claimExpired (number slot) := by
  have written := State.barClaim_withdraws (s := { s with permits := s.permits.set e (some r) }) ho hs (hr ▸ hc)
    (hr ▸ State.onlyPermit_write hq hr)
  rw [written, Table.set_set]

/-! ### BAR PERMIT, DELETE PERMIT and WRITE PERMIT on a permit the table holds, or does not hold -/

theorem barPermit_absent {s : State} {num : Nat} (h : ∀ k r, s.permits.get k = some r → r.number ≠ num) :
    barPermit num s = s.refuse .noSuch := by
  simp [barPermit, State.findPermit_none h]

theorem deletePermit_absent {s : State} {num : Nat} (h : ∀ k r, s.permits.get k = some r → r.number ≠ num) :
    deletePermit num s = s.refuse .noSuch := by
  simp [deletePermit, State.findPermit_none h]

theorem barPermit_held {s : State} {num : Nat} {e : Fin 200} {q : Permit} (h : s.onlyPermit num e q) :
    barPermit num s = if q.state = .active
      then (({ s with permits := s.permits.set e (some { q with state := .barred }) } : State).barClaim q.claim).ok []
      else s.ok [] := by
  simp only [barPermit, State.permitFound h, State.modifyPermit_eq h.1]

theorem barPermit_stands {s : State} {num : Nat} {e : Fin 200} {q : Permit} (h : s.onlyPermit num e q)
    (hs : q.state = .active) (hc : ∀ slot o, q.claim = some slot → s.order slot = some o → o.state ≠ .claimed) :
    barPermit num s = ({ s with permits := s.permits.set e (some { q with state := .barred }) } : State).ok [] := by
  rw [barPermit_held h, if_pos hs]
  exact congrArg (fun t : State => t.ok []) (State.barClaim_stands hc)

theorem barPermit_withdraws {s : State} {num : Nat} {e : Fin 200} {q : Permit} (h : s.onlyPermit num e q)
    (hs : q.state = .active) {slot : Fin 24} {o : Order} (hc : q.claim = some slot) (ho : s.order slot = some o)
    (hcl : o.state = .claimed) (hcp : o.claimPermit = some num) :
    barPermit num s = (({ s with
      permits := s.permits.set e (some { q with state := .barred, claim := none })
      orders := s.orders.set slot (some o.unclaim) } : State).raise .claimExpired (number slot)).ok [] := by
  obtain ⟨hp, rfl, only⟩ := h
  rw [barPermit_held ⟨hp, rfl, only⟩, if_pos hs, hc]
  exact congrArg (fun t : State => t.ok [])
    (State.barClaim_written (r := { q with state := .barred, claim := some slot }) ho hcl hcp ⟨hp, rfl, only⟩ rfl)

theorem deletePermit_held {s : State} {num : Nat} {e : Fin 200} {q : Permit} (h : s.onlyPermit num e q) :
    deletePermit num s = s.checked [(q.claim.isSome, .inUse)]
      (({ s with permits := s.permits.set e none } : State).ok []) := by
  simp only [deletePermit, State.permitFound h]

theorem permitStateOf_code (st : PermitState) : permitStateOf st.code = some st := by cases st <;> rfl

/-- WRITE PERMIT with fields in range replaces the permit that the table holds, or creates one. -/
theorem writePermit_inRange {s : State} {num carrier expiry : Nat} (h1 : 1 ≤ num) (h2 : num ≤ 99999999)
    (h3 : 1 ≤ carrier) (h4 : carrier ≤ 65535) (h5 : expiry ≤ 65535) (classes : BitVec 8) (st : PermitState) :
    writePermit num carrier classes expiry st.code s =
      match (s.findPermit num).bind (fun e => (s.permits.get e).map (fun p => (e, p))) with
      | some (e, old) => replacePermit e old carrier classes expiry st s
      | none => createPermit num carrier classes expiry st s := by
  simp only [writePermit, permitStateOf_code]
  exact State.checked_ok _ _ _ (by simp [within]; omega)

theorem replacePermit_eq {s : State} {e : Fin 200} {q : Permit} (h : s.permits.get e = some q) (carrier : Nat)
    (classes : BitVec 8) (expiry : Nat) (st : PermitState) :
    replacePermit e q carrier classes expiry st s =
      s.checked [(q.claim.isSome && carrier != q.carrier, .inUse)]
        (let written : State := { s with permits := s.permits.set e (some { q with
          carrier := carrier, classes := classes, expiry := expiry, state := st }) }
        (if q.state = .active ∧ st = .barred then written.barClaim q.claim else written).ok []) := by
  simp only [replacePermit, State.modifyPermit_eq h]

end Sys2Proof.Machine
end

section
namespace Sys2Proof.Proofs
open Sys2Proof Sys2Proof.Machine

/-- Settles O16: BAR PERMIT by the permit's state and its claim, DELETE PERMIT by its claim. -/
theorem barAndDeletePermit : Obligations.BarAndDeletePermit := by
  unfold Obligations.BarAndDeletePermit
  intro tag num s h
  refine ⟨fun absent => ⟨?_, ?_⟩, fun e q hq => ⟨fun hs => ?_, fun hs hc => ?_, fun slot o hs hc ho hcl hcp => ?_,
    fun hc => ?_, fun hc => ?_⟩⟩
  · exact congrArg Host.Outcome.next (State.frame_refused h rfl (barPermit_absent (s := s.heard .terminal) absent))
  · exact congrArg Host.Outcome.next (State.frame_refused h rfl (deletePermit_absent (s := s.heard .terminal) absent))
  · refine congrArg Host.Outcome.next (State.frame_answered h rfl ?_)
    rw [barPermit_held (s := s.heard .terminal) hq, if_neg (by simp [hs])]
  · exact congrArg Host.Outcome.next (State.frame_answered (t := { s with permits := _ }) h rfl
      (barPermit_stands (s := s.heard .terminal) hq hs hc))
  · refine congrArg Host.Outcome.next (State.frame_answered h rfl ?_)
    rw [State.raise_heard]
    exact barPermit_withdraws (s := s.heard .terminal) hq hs hc ho hcl hcp
  · refine congrArg Host.Outcome.next (State.frame_refused h rfl ?_)
    rw [deletePermit_held (s := s.heard .terminal) hq]
    simp [State.checked, Option.isSome_iff_ne_none.mpr hc]
  · refine congrArg Host.Outcome.next (State.frame_answered (t := { s with permits := _ }) h rfl ?_)
    rw [deletePermit_held (s := s.heard .terminal) hq]
    exact State.checked_ok _ _ _ (by simp [hc])

end Sys2Proof.Proofs
end

section
namespace Sys2Proof.Machine

/-! ### WRITE PERMIT, by what its number finds (R8, R9, R10, R11) -/

theorem replacePermit_inUse {s : State} {e : Fin 200} {q : Permit} {carrier : Nat} (hq : s.permits.get e = some q)
    (hc : q.claim ≠ none) (hd : carrier ≠ q.carrier) (classes : BitVec 8) (expiry : Nat) (st : PermitState) :
    replacePermit e q carrier classes expiry st s = s.refuse .inUse := by
  rw [replacePermit_eq hq]
  simp [State.checked, Option.isSome_iff_ne_none.mpr hc, hd]

theorem replacePermit_stands {s : State} {e : Fin 200} {q : Permit} {carrier : Nat} {st : PermitState}
    (hq : s.permits.get e = some q) (hc : q.claim = none ∨ carrier = q.carrier)
    (hb : ¬ (q.state = .active ∧ st = .barred ∧
      ∃ slot o, q.claim = some slot ∧ s.order slot = some o ∧ o.state = .claimed)) (classes : BitVec 8) (expiry : Nat) :
    replacePermit e q carrier classes expiry st s =
      ({ s with permits := s.permits.set e (some { q with
        carrier := carrier, classes := classes, expiry := expiry, state := st }) } : State).ok [] := by
  rw [replacePermit_eq hq, State.checked_ok _ _ _ (by rcases hc with h | h <;> simp [h])]
  refine congrArg (fun t : State => t.ok []) ?_
  split
  · next h => exact State.barClaim_stands (fun slot o h1 h2 h3 => hb ⟨h.1, h.2, slot, o, h1, h2, h3⟩)
  · rfl

theorem replacePermit_withdraws {s : State} {e : Fin 200} {q : Permit} {slot : Fin 24} {o : Order}
    (hq : s.onlyPermit q.number e q) (hs : q.state = .active) (hc : q.claim = some slot) (ho : s.order slot = some o)
    (hcl : o.state = .claimed) (hcp : o.claimPermit = some q.number) (classes : BitVec 8) (expiry : Nat) :
    replacePermit e q q.carrier classes expiry .barred s = (({ s with
      permits := s.permits.set e (some { q with classes := classes, expiry := expiry, state := .barred, claim := none })
      orders := s.orders.set slot (some o.unclaim) } : State).raise .claimExpired (number slot)).ok [] := by
  rw [replacePermit_eq hq.1, State.checked_ok _ _ _ (by simp)]
  refine congrArg (fun t : State => t.ok []) ?_
  rw [if_pos ⟨hs, rfl⟩, hc]
  exact State.barClaim_written ho hcl hcp hq rfl

theorem createPermit_free {s : State} {e : Fin 200} (he : s.permits.get e = none)
    (hl : ∀ k < e, s.permits.get k ≠ none) (num carrier : Nat) (classes : BitVec 8) (expiry : Nat) (st : PermitState) :
    createPermit num carrier classes expiry st s =
      ({ s with permits := s.permits.set e (some ⟨num, carrier, classes, expiry, st, none, none⟩) } : State).ok [] := by
  simp only [createPermit, Table.freeEntry he hl]

theorem createPermit_full {s : State} (h : ∀ k, s.permits.get k ≠ none) (num carrier : Nat) (classes : BitVec 8)
    (expiry : Nat) (st : PermitState) : createPermit num carrier classes expiry st s = s.refuse .tableFull := by
  have hf : s.permits.find? Option.isNone = none := by
    rw [Table.find?_eq_none]
    intro i
    simpa using Option.isSome_iff_ne_none.mpr (h i)
  simp only [createPermit, hf]

end Sys2Proof.Machine
end

section
namespace Sys2Proof.Proofs
open Sys2Proof Sys2Proof.Machine

/-- Settles O15: a number the table does not hold is created or finds it full; a held one is replaced, with a bar or
without. -/
theorem writePermit : Obligations.WritePermit := by
  unfold Obligations.WritePermit
  intro tag num carrier classes expiry st s h h1 h2 h3 h4 h5
  have judged := writePermit_inRange (s := s.heard .terminal) h1 h2 h3 h4 h5 classes st
  refine ⟨fun e absent he hl => ?_, fun absent full => ?_, fun e q hq => ⟨fun hc hd => ?_, fun hc hb => ?_,
    fun slot o hd hs hst hc ho hcl hcp => ?_⟩⟩
  · refine congrArg Host.Outcome.next (State.frame_answered (t := { s with permits := _ }) h rfl ?_)
    rw [judged, State.findPermit_none (s := s.heard .terminal) absent]
    exact createPermit_free (s := s.heard .terminal) he hl num carrier classes expiry st
  · refine congrArg Host.Outcome.next (State.frame_refused h rfl ?_)
    rw [judged, State.findPermit_none (s := s.heard .terminal) absent]
    exact createPermit_full (s := s.heard .terminal) full num carrier classes expiry st
  · refine congrArg Host.Outcome.next (State.frame_refused h rfl ?_)
    rw [judged, State.permitFound (s := s.heard .terminal) hq]
    exact replacePermit_inUse (s := s.heard .terminal) hq.1 hc hd classes expiry st
  · refine congrArg Host.Outcome.next (State.frame_answered (t := { s with permits := _ }) h rfl ?_)
    rw [judged, State.permitFound (s := s.heard .terminal) hq]
    exact replacePermit_stands (s := s.heard .terminal) hq.1 hc hb classes expiry
  · obtain ⟨hp, rfl, only⟩ := hq
    subst hd hst
    refine congrArg Host.Outcome.next (State.frame_answered h rfl ?_)
    rw [judged, State.permitFound (s := s.heard .terminal) ⟨hp, rfl, only⟩, State.raise_heard]
    exact replacePermit_withdraws (s := s.heard .terminal) ⟨hp, rfl, only⟩ hs hc ho hcl hcp classes expiry

end Sys2Proof.Proofs
end

section
namespace Sys2Proof.Machine

/-! ### PRESENT PERMIT, by its checks and its claim (R6, R26, R27, R166) -/

theorem presentPermit_unset {s : State} (h : s.clock.isSet = false) (num tanker order : Nat) :
    presentPermit num tanker order s = s.refuse .timeUnset := by simp [presentPermit, h]

theorem presentPermit_absent {s : State} (h : s.clock.isSet = true) {num order : Nat} (tanker : Nat)
    (absent : (∀ e q, s.permits.get e = some q → q.number ≠ num) ∨ ∀ k o, s.order k = some o → o.number ≠ order) :
    presentPermit num tanker order s = s.refuse .noSuch := by
  unfold presentPermit
  rw [if_neg (by simp [h])]
  rcases absent with h | h
  · simp [State.findPermit_none h]
  · rw [State.findOrder_none h]
    split
    · next hn => cases hn
    · rfl

/-- The class check of R26 as the statements say it. -/
theorem State.classMissing_iff (s : State) (q : Permit) (o : Order) : s.classMissing q o = true ↔
    ∃ l ∈ o.lines, ∀ x, s.products.get l.product = some x → q.classes.getLsbD (x.cls - 1) = false := by
  unfold State.classMissing
  rw [List.any_eq_true]
  refine exists_congr fun l => and_congr_right fun _ => ?_
  cases hx : s.products.get l.product <;> simp [Permit.holdsClass]

/-- The permit and the tanker fit the order, as the statements say it (R26). -/
theorem permitMismatch_iff (q : Permit) (o : Order) (tanker : Nat) : permitMismatch q o tanker = true ↔
    (o.permit ≠ 0 ∧ o.permit ≠ q.number) ∨ (o.permit = 0 ∧ o.carrier ≠ q.carrier) ∨ (o.tanker ≠ 0 ∧ o.tanker ≠ tanker) ∨
      tanker = 0 ∨ 999999 < tanker := by
  simp [permitMismatch, within, or_assoc]

/-- The checks 3 to 9 of PRESENT PERMIT. -/
def State.presentChecks (s : State) (q : Permit) (o : Order) (tanker : Nat) : List (Bool × ReplyCode) :=
  [(q.state == .barred, .permitBarred), (q.expired s.clock.day, .permitExpired), (o.state != .posted, .wrongState),
   (q.claim.isSome, .inUse), (permitMismatch q o tanker, .permitMismatch), (s.classMissing q o, .permitClass),
   (decide (48 ≤ s.storedCount + s.reservations), .journalFull)]

theorem presentPermit_checked {s : State} (h : s.clock.isSet = true) {e : Fin 200} {q : Permit} {slot : Fin 24} {o : Order}
    (hq : s.onlyPermit q.number e q) (ho : s.onlyOrder o.number slot o) (tanker : Nat) :
    presentPermit q.number tanker o.number s =
      s.checked (s.presentChecks q o tanker) ((s.claimOrder e slot q.number tanker).ok (field 1 (number slot))) := by
  simp only [presentPermit, h, State.permitFound hq, State.orderFound ho]
  rfl

/-- The checks of PRESENT PERMIT are those of R26, in their order. -/
theorem State.presentChecks_same (s : State) (q : Permit) (o : Order) (tanker : Nat) :
    List.Forall₂ (fun p b => (b.1 = true ↔ p.1) ∧ b.2 = p.2) (s.claimChecked q o tanker) (s.presentChecks q o tanker) := by
  unfold State.claimChecked State.presentChecks
  refine .cons ⟨by simp, rfl⟩ (.cons ⟨by simp [Permit.expired], rfl⟩ (.cons ⟨by simp, rfl⟩ (.cons ⟨?_, rfl⟩
    (.cons ⟨permitMismatch_iff q o tanker, rfl⟩ (.cons ⟨s.classMissing_iff q o, rfl⟩ (.cons ⟨by simp, rfl⟩ .nil))))))
  simp [Option.isSome_iff_ne_none]

/-- A request acts where none of the conditions holds that its checks say. -/
theorem State.checked_passed (s : State) (act : Answer) {said : List (Prop × ReplyCode)} {checks : List (Bool × ReplyCode)}
    (same : List.Forall₂ (fun p b => (b.1 = true ↔ p.1) ∧ b.2 = p.2) said checks) (h : ∀ p ∈ said, ¬ p.1) :
    s.checked checks act = act := by
  refine State.checked_ok s checks act fun b hb => ?_
  induction same with
  | nil => cases hb
  | @cons p c _ _ hp _ ih =>
    rcases List.mem_cons.mp hb with rfl | hb
    · simpa using mt hp.1.mp (h p List.mem_cons_self)
    · exact ih (fun p hp => h p (List.mem_cons_of_mem _ hp)) hb

/-- The state with an order claimed by a permit: each names the other, at the current bay time (R27). -/
def State.bound (s : State) (e : Fin 200) (q : Permit) (slot : Fin 24) (o : Order) (tanker : Nat) : State :=
  { s with
    orders := s.orders.set slot (some { o with
      state := .claimed, claimPermit := some q.number, claimTanker := some tanker, claimTime := some s.now,
      claimTimer := some 600000 })
    permits := s.permits.set e (some { q with claim := some slot, lastPresented := some s.now }) }

/-- A claim takes one reservation more (R28). -/
theorem State.bound_reservations {s : State} {slot : Fin 24} {o : Order} (ho : s.order slot = some o)
    (hs : o.state = .posted) (e : Fin 200) (q : Permit) (tanker : Nat) :
    (s.bound e q slot o tanker).reservations = s.reservations + 1 := by
  have ho' : s.orders.get slot = some o := ho
  have moved := s.orders.count_set (fun e => match e with | some o => o.reserves | none => false) slot
    (some { o with state := .claimed, claimPermit := some q.number, claimTanker := some tanker,
                   claimTime := some s.now, claimTimer := some 600000 })
  simp only [ho', Order.reserves, hs, if_true, Bool.false_eq_true, if_false, Nat.add_zero] at moved
  exact moved

/-- The notice of R166 where stored notes and reservations come to 44 or more. -/
def State.nearFull (s : State) : State :=
  if 44 ≤ s.storedCount + s.reservations then s.raise .journalNearFull 0 else s

/-- The changes of a successful presentation are the binding and the notice of R166. -/
theorem State.claimOrder_eq {s : State} {e : Fin 200} {q : Permit} {slot : Fin 24} {o : Order}
    (hq : s.permits.get e = some q) (ho : s.order slot = some o) (tanker : Nat) :
    s.claimOrder e slot q.number tanker = (s.bound e q slot o tanker).nearFull := by
  have ho' : s.orders.get slot = some o := ho
  refine congrArg State.nearFull (?_ : State.mk _ _ _ _ _ _ _ _ _ _ _ _ _ _ _ _ = _)
  simp [State.modifyOrder, State.bound, Table.modify_eq_set, hq, ho']

/-- After a claim, the notice of R166 is due where the sum was 43 or more. -/
theorem State.bound_nearFull {s : State} {slot : Fin 24} {o : Order} (ho : s.order slot = some o)
    (hs : o.state = .posted) (e : Fin 200) (q : Permit) (tanker : Nat) :
    (s.bound e q slot o tanker).nearFull = if 43 ≤ s.storedCount + s.reservations
      then (s.bound e q slot o tanker).raise .journalNearFull 0 else s.bound e q slot o tanker := by
  have stored : (s.bound e q slot o tanker).storedCount = s.storedCount := rfl
  unfold State.nearFull
  rw [State.bound_reservations ho hs, stored]
  exact if_congr (by omega) rfl rfl

end Sys2Proof.Machine
end

section
namespace Sys2Proof.Proofs
open Sys2Proof Sys2Proof.Machine

/-- Settles O19: the clock, the tables, the checks of R26 in their order, and the claim with its notice. -/
theorem presentPermit : Obligations.PresentPermit := by
  unfold Obligations.PresentPermit
  intro tag tanker s h
  have refuses : ∀ e q slot o c, s.clock.isSet = true → s.onlyPermit q.number e q → s.onlyOrder o.number slot o →
      refusedBy (s.claimChecked q o tanker) c →
      exec (.presentPermit .console tag q.number tanker o.number) s = .next (s.turnedAway .console tag 0x40#8 c) := by
    intro e q slot o c isSet hq ho hc
    refine congrArg Host.Outcome.next (State.frame_refused h rfl ?_)
    rw [presentPermit_checked (s := s.heard .console) isSet hq ho tanker]
    exact State.checked_refusedBy _ _ ((s.heard .console).presentChecks_same q o tanker) hc
  refine ⟨fun num ord unset => ?_, fun num ord isSet absent => ?_, refuses,
    fun e q slot o isSet hq ho active day posted free fits tank low high classes => ?_⟩
  · exact congrArg Host.Outcome.next (State.frame_refused h rfl
      (presentPermit_unset (s := s.heard .console) unset num tanker ord))
  · exact congrArg Host.Outcome.next (State.frame_refused h rfl
      (presentPermit_absent (s := s.heard .console) isSet tanker absent))
  · have unexpired : ¬ q.expiry < s.clock.day := by omega
    have fit : ¬ ((o.permit ≠ 0 ∧ o.permit ≠ q.number) ∨ (o.permit = 0 ∧ o.carrier ≠ q.carrier) ∨
        (o.tanker ≠ 0 ∧ o.tanker ≠ tanker) ∨ tanker = 0 ∨ 999999 < tanker) := by omega
    have held : ¬ ∃ l ∈ o.lines, ∀ x, s.products.get l.product = some x → q.classes.getLsbD (x.cls - 1) = false := by
      rintro ⟨l, hl, none⟩
      obtain ⟨x, hx, holds⟩ := classes l hl
      simp [none x hx] at holds
    have claims : s.storedCount + s.reservations < 48 →
        Machine.presentPermit q.number tanker o.number (s.heard .console) =
          (if 43 ≤ s.storedCount + s.reservations
            then ((s.heard .console).bound e q slot o tanker).raise .journalNearFull 0
            else (s.heard .console).bound e q slot o tanker).ok (field 1 (number slot)) := by
      intro room
      rw [presentPermit_checked (s := s.heard .console) isSet hq ho tanker,
        State.claimOrder_eq (s := s.heard .console) hq.1 ho.1 tanker,
        State.bound_nearFull (s := s.heard .console) ho.1 posted e q tanker]
      refine State.checked_passed _ _ (s.presentChecks_same q o tanker) ?_
      simp only [State.claimChecked, List.forall_mem_cons]
      exact ⟨by simp [active], unexpired, by simp [posted], by simp [free], fit, held, by omega, by simp⟩
    refine ⟨fun full => ?_, fun le => ?_, fun ge le => ?_⟩
    · refine refuses e q slot o .journalFull isSet hq ho ?_
      simp only [State.claimChecked, refusedBy]
      simp [active, unexpired, posted, free, fit, held, full]
    · refine congrArg Host.Outcome.next (State.frame_answered (t := s.bound e q slot o tanker) h rfl ?_)
      rw [claims (by omega), if_neg (by omega)]
      rfl
    · refine congrArg Host.Outcome.next (State.frame_answered
        (t := (s.bound e q slot o tanker).raise .journalNearFull 0) h rfl ?_)
      rw [claims (by omega), if_pos ge, State.raise_heard]
      rfl

end Sys2Proof.Proofs
end

section
namespace Sys2Proof.Machine

/-! ### One millisecond, timer by timer (notes/assumptions/2.md) -/

/-- A timer shows its end after the millisecond that it runs out in. -/
theorem elapse_eq_zero (timer : Option Nat) : Machine.elapse timer = some 0 ↔ runsOut timer := by
  cases timer with
  | none => simp [Machine.elapse, runsOut]
  | some ms => simp [Machine.elapse, runsOut]; omega

@[simp] theorem State.arm_elapse (s : State) (a : Fin 6) : s.elapse.arm a = (s.arm a).elapse := Table.get_map _ _ a
@[simp] theorem State.order_elapse (s : State) (k : Fin 24) : s.elapse.order k = (s.order k).map Order.elapse :=
  Table.get_map _ _ k
@[simp] theorem State.injector_elapse (s : State) (i : Fin 8) : s.elapse.injector i = (s.injector i).elapse :=
  Table.get_map _ _ i
@[simp] theorem State.port_elapse (s : State) (p : PortId) : s.elapse.port p = (s.port p).elapse := by cases p <;> rfl
@[simp] theorem State.permissive_elapse (s : State) (i : Permissive) :
    s.elapse.permissive i = { s.permissive i with timer := Machine.elapse (s.permissive i).timer } := by cases i <;> rfl

/-- The timers that show their end after a millisecond are those it brings to their expiry. -/
theorem State.elapse_shows (s : State) (c : Instr) : s.elapse.shows c ↔ s.expires c := by
  cases c <;> simp only [State.shows, State.expires]
  case clockAdvance => exact Nat.sub_eq_zero_iff_le
  case gateTimeout => exact Nat.sub_eq_zero_iff_le
  case meteringSample a => rw [State.arm_elapse]; exact Nat.sub_eq_zero_iff_le
  case noFlowTimeout a => rw [State.arm_elapse]; exact elapse_eq_zero _
  case suspendTimeout a => rw [State.arm_elapse]; exact elapse_eq_zero _
  case claimTimeout k => simp [Order.elapse, elapse_eq_zero]
  case idleOrderTimeout k => simp [Order.elapse, elapse_eq_zero]
  case verifyWindowExpiry i => rw [State.injector_elapse]; exact elapse_eq_zero _
  case permissiveRestored i => rw [State.permissive_elapse]; exact elapse_eq_zero _
  case estopReleaseTimeout => exact elapse_eq_zero _
  case deadmanWarning => simp [State.elapse, Bay.elapse]
  case deadmanExpiry => simp [State.elapse, Bay.elapse]
  case frameGapTimeout p => rw [State.port_elapse]; exact elapse_eq_zero _

theorem expiryCommands_nodup : expiryCommands.Nodup := by decide +kernel

theorem mem_armList (a : Fin 6) : a ∈ armList := by revert a; decide
theorem mem_slotList (k : Fin 24) : k ∈ slotList := by revert k; decide
theorem mem_injectorList (i : Fin 8) : i ∈ injectorList := by revert i; decide

/-- Every timer's expiry is among the commands that a millisecond may queue. -/
theorem State.expires_mem {s : State} {c : Instr} (h : s.expires c) : c ∈ expiryCommands := by
  unfold expiryCommands
  simp only [List.mem_append, List.mem_flatMap, List.mem_map]
  cases c <;> simp only [State.expires] at h
  case claimTimeout k => exact .inl (.inl (.inl (.inr ⟨k, mem_slotList k, by simp⟩)))
  case idleOrderTimeout k => exact .inl (.inl (.inl (.inr ⟨k, mem_slotList k, by simp⟩)))
  case noFlowTimeout a => exact .inl (.inl (.inr ⟨a, mem_armList a, by simp⟩))
  case suspendTimeout a => exact .inl (.inl (.inr ⟨a, mem_armList a, by simp⟩))
  case verifyWindowExpiry i => exact .inl (.inr ⟨i, mem_injectorList i, rfl⟩)
  case meteringSample a => exact .inr ⟨a, mem_armList a, rfl⟩
  case permissiveRestored i => cases i <;> simp
  case frameGapTimeout p => cases p <;> simp
  all_goals simp

/-- What a millisecond queues is what it brings to its expiry. -/
theorem State.mem_tick_pending (s : State) (c : Instr) : c ∈ s.tick.pending ↔ s.expires c := by
  rw [show s.tick.pending = expiryCommands.filter s.elapse.ranOut from rfl, List.mem_filter, State.ranOut_iff,
    State.elapse_shows]
  exact and_iff_right_of_imp State.expires_mem

/-- The expiry of a timer does what `State.expiry` makes of one act of its own. -/
theorem exec_expiryCommand {c : Instr} (h : expiryCommand c) :
    ∃ act : State → State, ∀ s, exec c s = .next (s.expiry c act) := by
  obtain ⟨s, h⟩ := h
  cases c <;> simp only [State.expires] at h <;> exact ⟨_, fun _ => rfl⟩

end Sys2Proof.Machine
end

section
namespace Sys2Proof.Proofs
open Sys2Proof Sys2Proof.Machine

/-- Settles O3: the millisecond is `State.tick`, and an expiry it queued acts while its timer shows that it has run out. -/
theorem emptyQueueRunsTheTimers : Obligations.EmptyQueueRunsTheTimers := by
  unfold Obligations.EmptyQueueRunsTheTimers
  refine ⟨fun s empty => ⟨s.tick, by simp only [step, empty], rfl, ?_, s.mem_tick_pending⟩, fun s c hc due => ?_⟩
  · exact expiryCommands_nodup.filter _
  · obtain ⟨act, acts⟩ := exec_expiryCommand hc
    simp only [acts, State.expiry_due due]
    refine ⟨fun shows => ?_, fun still => ?_⟩
    · rw [if_pos ((s.ranOut_iff c).mpr shows), State.expiry_own (s.not_mem_expiryTaken_due c)]
    · rw [if_neg (mt (s.ranOut_iff c).mp still)]

end Sys2Proof.Proofs
end

section
/-!
What a step can do, said once: it runs a request's judgement, an event of the field or of a timer, or the reception of a
port, or lets a millisecond pass. A relation that all of these keep, every step keeps.
-/

namespace Sys2Proof.Machine

/-! ### The requests (11) -/

/-- The judgements of the requests, and the bare refusals of R178. -/
inductive Request : (State → Answer) → Prop
  | refused (c : ReplyCode) : Request (fun t => t.refuse c)
  | readBay : Request readBay
  | readPermit (num : Nat) : Request (readPermit num)
  | readOrder (num slot part : Nat) : Request (readOrder num slot part)
  | readArm (arm : Nat) : Request (readArm arm)
  | readInjector (injector : Nat) : Request (readInjector injector)
  | readNote (seq part : Nat) : Request (readNote seq part)
  | listNotes : Request listNotes
  | readTotals (part : Nat) : Request (readTotals part)
  | readStatistics (arm : Nat) : Request (readStatistics arm)
  | fetchNotice (p : PortId) : Request (fetchNotice p)
  | noticeDone (p : PortId) : Request (noticeDone p)
  | setNoticeLevels (p : PortId) (designator safety batch dosing record : Nat) (enables : BitVec 16) :
      Request (setNoticeLevels p designator safety batch dosing record enables)
  | setClock (day second : Nat) : Request (setClock day second)
  | writePermit (num carrier : Nat) (classes : BitVec 8) (expiry state : Nat) :
      Request (writePermit num carrier classes expiry state)
  | barPermit (num : Nat) : Request (barPermit num)
  | deletePermit (num : Nat) : Request (deletePermit num)
  | writeProduct (slot nameLength : Nat) (name : List Byte) (cls coefA coefB : Nat) :
      Request (writeProduct slot nameLength name cls coefA coefB)
  | writeRecipe (slot additive rate tolerance : Nat) : Request (writeRecipe slot additive rate tolerance)
  | writeArmSetup (arm product lowStart restart topOff overrunLimit : Nat) :
      Request (writeArmSetup arm product lowStart restart topOff overrunLimit)
  | assignInjector (arm position injector : Nat) : Request (assignInjector arm position injector)
  | removeInjector (arm position : Nat) : Request (removeInjector arm position)
  | assignStandby (primary standby : Nat) : Request (assignStandby primary standby)
  | releaseStandby (injector : Nat) : Request (releaseStandby injector)
  | returnInjector (injector : Nat) : Request (returnInjector injector)
  | postOrder (num permit carrier tanker : Nat) (lines : List LineSpec) : Request (postOrder num permit carrier tanker lines)
  | amendOrder (num permit tanker : Nat) (lines : List LineSpec) : Request (amendOrder num permit tanker lines)
  | cancelOrder (num : Nat) : Request (cancelOrder num)
  | holdRequest (c : HoldCause) (arm : Nat) : Request (holdRequest c arm)
  | releaseArm (arm : Nat) : Request (releaseArm arm)
  | clearLockout (arm : Nat) : Request (clearLockout arm)
  | collectNote (seq : Nat) : Request (collectNote seq)
  | writeKFactor (arm k : Nat) : Request (writeKFactor arm k)
  | writeCurve (arm : Nat) (points : List CurvePoint) : Request (writeCurve arm points)
  | writeOffset (arm : Nat) (offset : Int) : Request (writeOffset arm offset)
  | writeInjectorItem (injector additive shotSize kf : Nat) : Request (writeInjectorItem injector additive shotSize kf)
  | setSeal (level : Nat) : Request (setSeal level)
  | writeTrialFactor (arm factor : Nat) : Request (writeTrialFactor arm factor)
  | readAndClearStatistics (arm : Nat) : Request (readAndClearStatistics arm)
  | restart : Request restart
  | presentPermit (num tanker order : Nat) : Request (presentPermit num tanker order)
  | releaseClaim (order : Nat) : Request (releaseClaim order)
  | startLine (arm num k : Nat) : Request (startLine arm num k)
  | resumeArm (arm : Nat) : Request (resumeArm arm)
  | endLine (arm : Nat) : Request (endLine arm)
  | finishOrder (order : Nat) : Request (finishOrder order)
  | markPrinted (seq : Nat) : Request (markPrinted seq)

theorem request_of_sized {length : Nat} {body : List Byte} {f judge : State → Answer} (hf : Request f)
    (h : some (sized length body f) = some (some judge)) : Request judge := by
  unfold sized at h
  split at h
  · cases h
    exact hf
  · cases h

theorem request_of_calibration {body : List Byte} {judge : State → Answer}
    (h : some (calibrationJudgement body) = some (some judge)) : Request judge := by
  unfold calibrationJudgement at h
  split at h
  · exact request_of_sized (.writeKFactor _ _) h
  · exact request_of_sized (.writeCurve _ _) h
  · exact request_of_sized (.writeOffset _ _) h
  · exact request_of_sized (.writeInjectorItem _ _ _ _) h
  · cases h

theorem request_of_either {p : PortId} {code : Byte} {body : List Byte} {judge : State → Answer}
    (h : eitherJudgement p code body = some (some judge)) : Request judge := by
  unfold eitherJudgement at h
  split at h
  · exact request_of_sized .readBay h
  · exact request_of_sized (.readPermit _) h
  · exact request_of_sized (.readOrder _ _ _) h
  · exact request_of_sized (.readArm _) h
  · exact request_of_sized (.readInjector _) h
  · exact request_of_sized (.readNote _ _) h
  · exact request_of_sized .listNotes h
  · exact request_of_sized (.readTotals _) h
  · exact request_of_sized (.readStatistics _) h
  · exact request_of_sized (.fetchNotice p) h
  · exact request_of_sized (.noticeDone p) h
  · exact request_of_sized (.setNoticeLevels p _ _ _ _ _ _) h
  · cases h

theorem request_of_terminal {code : Byte} {body : List Byte} {judge : State → Answer}
    (h : terminalJudgement code body = some (some judge)) : Request judge := by
  unfold terminalJudgement at h
  split at h
  · exact request_of_sized (.setClock _ _) h
  · exact request_of_sized (.writePermit _ _ _ _ _) h
  · exact request_of_sized (.barPermit _) h
  · exact request_of_sized (.deletePermit _) h
  · exact request_of_sized (.writeProduct _ _ _ _ _ _) h
  · exact request_of_sized (.writeRecipe _ _ _ _) h
  · exact request_of_sized (.writeArmSetup _ _ _ _ _ _) h
  · exact request_of_sized (.assignInjector _ _ _) h
  · exact request_of_sized (.removeInjector _ _) h
  · exact request_of_sized (.assignStandby _ _) h
  · exact request_of_sized (.releaseStandby _) h
  · exact request_of_sized (.returnInjector _) h
  · exact request_of_sized (.postOrder _ _ _ _ _) h
  · exact request_of_sized (.amendOrder _ _ _ _) h
  · exact request_of_sized (.cancelOrder _) h
  · exact request_of_sized (.holdRequest _ _) h
  · exact request_of_sized (.releaseArm _) h
  · exact request_of_sized (.clearLockout _) h
  · exact request_of_sized (.collectNote _) h
  · exact request_of_calibration h
  · exact request_of_sized (.setSeal _) h
  · exact request_of_sized (.writeTrialFactor _ _) h
  · exact request_of_sized (.readAndClearStatistics _) h
  · exact request_of_sized .restart h
  · cases h

theorem request_of_console {code : Byte} {body : List Byte} {judge : State → Answer}
    (h : consoleJudgement code body = some (some judge)) : Request judge := by
  unfold consoleJudgement at h
  split at h
  · exact request_of_sized (.presentPermit _ _ _) h
  · exact request_of_sized (.releaseClaim _) h
  · exact request_of_sized (.startLine _ _ _) h
  · exact request_of_sized (.holdRequest _ _) h
  · exact request_of_sized (.resumeArm _) h
  · exact request_of_sized (.endLine _) h
  · exact request_of_sized (.finishOrder _) h
  · exact request_of_sized (.markPrinted _) h
  · cases h

/-- The catalogue names requests only. -/
theorem request_of_catalogue {p : PortId} {code : Byte} {body : List Byte} {who : Senders} {judge : State → Answer}
    (h : catalogue p code body = some (who, some judge)) : Request judge := by
  unfold catalogue at h
  split at h
  · next hj => cases h; exact request_of_either hj
  · next hj => cases h; exact request_of_terminal hj
  · next hj => cases h; exact request_of_console hj
  · cases h

/-- A valid frame of any code and body is heard as some request. -/
theorem State.dispatchFrame_request (s : State) (p : PortId) (tag code : Byte) (body : List Byte) :
    ∃ who judge, Request judge ∧ s.dispatchFrame p tag code body = s.frame p tag code who judge := by
  unfold State.dispatchFrame
  split
  · exact ⟨_, _, .refused _, rfl⟩
  · exact ⟨_, _, .refused _, rfl⟩
  · next h => exact ⟨_, _, request_of_catalogue h, rfl⟩

/-- What a port's own events do to it: reception, transmission and link reset (R177 to R180). -/
inductive PortEvent : (Port → Port) → Prop
  | hunt : PortEvent Port.hunt
  | take (b : Byte) : PortEvent (fun x => x.take b)
  | busyFrame (tag code : Byte) : PortEvent (Port.busyFrame tag code)
  | transmit (reply : Transmission) : PortEvent (fun x => { x with transmit := some reply })
  | sent (saved : Bool) : PortEvent (Port.sent saved)
  | reset : PortEvent Port.reset

/-- A character received leaves its port changed, or completes a request's frame. -/
theorem State.receive_cases (s : State) (p : PortId) (b : Byte) :
    s.receive p b = s ∨ (∃ f, PortEvent f ∧ s.receive p b = s.modifyPort p f) ∨
      ∃ tag code who judge, Request judge ∧ s.receive p b = s.frame p tag code who judge := by
  unfold State.receive
  dsimp only
  split
  · split
    · exact .inr (.inl ⟨_, .take b, rfl⟩)
    · exact .inl rfl
  · split
    · exact .inr (.inl ⟨_, .take b, rfl⟩)
    · split
      · exact .inr (.inl ⟨_, .hunt, rfl⟩)
      · split
        · exact .inr (.inl ⟨_, .take b, rfl⟩)
        · unfold State.completeFrame
          split
          · obtain ⟨who, judge, hj, h⟩ := s.dispatchFrame_request p
              (frameParts ((s.port p).receive ++ [b])).1 (frameParts ((s.port p).receive ++ [b])).2.1
              (frameParts ((s.port p).receive ++ [b])).2.2
            exact .inr (.inr ⟨_, _, who, judge, hj, h⟩)
          · exact .inr (.inl ⟨_, .hunt, rfl⟩)

/-! ### The events of the field and of the timers -/

/-- What the events do, the expiries as those of their own sender (notes/assumptions/3.md). -/
inductive Event : (State → State) → Prop
  | claimTimeout (slot : Fin 24) : Event (fun t =>
      match t.order slot with
      | some o =>
        if o.state = .claimed ∧ o.claimTimer.isSome then (t.withdrawClaim slot).raise .claimExpired (number slot) else t
      | none => t)
  | idleOrderTimeout (slot : Fin 24) : Event (fun t =>
      match t.order slot with
      | some o =>
        if o.state = .loading ∧ o.idleTimer.isSome then (t.modifyOrder slot Order.endWaiting).closeOrder slot .timedOut
        else t
      | none => t)
  | meterEdge (a : Fin 6) (c : Channel) : Event (fun t => t.meterEdge a c)
  | sample (a : Fin 6) : Event (fun t => t.sample a)
  | endGate (timedOut : Bool) : Event (fun t => t.endGate timedOut)
  | noFlowTimeout (a : Fin 6) : Event (fun t =>
      if (t.arm a).state = .lowStart ∧ (t.arm a).noFlowTimer.isSome then t.raiseHold a .noFlow else t)
  | suspendTimeout (a : Fin 6) : Event (fun t =>
      if (t.arm a).state = .suspended ∧ (t.arm a).suspendTimer.isSome then
        t.endSuspended a .aborted (fun f => { f with suspendTimeout := true })
      else t)
  | losePermissive (i : Permissive) : Event (fun t => t.losePermissive i)
  | returnPermissive (i : Permissive) : Event (fun t => t.returnPermissive i)
  | restorePermissive (i : Permissive) : Event (fun t => t.restorePermissive i)
  | stopPressed : Event State.stopPressed
  | stopReleased : Event State.stopReleased
  | stopTimeout : Event State.stopTimeout
  | warnDeadman : Event State.warnDeadman
  | expireDeadman : Event State.expireDeadman
  | deadmanButton (pressed : Bool) : Event (fun t => t.deadmanButton pressed)
  | totalled (i : Fin 8) : Event (fun t => t.modifyInjectorStore i (fun x => { x with total := x.total.pulse x.kFactor }))
  | feedbackPulse (a : Fin 6) (i : Fin 8) : Event (fun t => t.feedbackPulse a i)
  | latePulse (a : Fin 6) : Event (fun t => t.modifyDosing a (fun r => { r with feedback := r.feedback + 1, late := none }))
  | windowExpires (i : Fin 8) : Event (fun t => t.windowExpires i)
  | switchChange (x : SwitchPosition) : Event (fun t => { t with bay := { t.bay with switch := x } })
  | powerFail (b : Bool) : Event (fun t => { t with bay := { t.bay with powerFail := b } })
  | save : Event State.save
  | coldStart : Event State.coldStart
  | gap (p : PortId) : Event (fun t => if (t.port p).gapTimer.isSome then t.modifyPort p Port.hunt else t)
  | clockAdvance : Event (fun t => { t with clock := t.clock.advance })
  | referenceEdge : Event (fun t => { t with gate := { t.gate with referenceCount := t.gate.referenceCount + 1 } })
  | probeEdge (a : Fin 6) : Event (fun t => { t with probes := t.probes.modify a (fun p =>
      { p with count := if p.count < Config.maxCount32 then p.count + 1 else Config.maxCount32 }) })

/-! ### A relation that every step keeps -/

/-- A relation of states that runs along every step: it holds of the model's queue, of the ports, of each request and of
each event, and of a millisecond. -/
structure Along (R : State → State → Prop) : Prop where
  refl : ∀ s, R s s
  trans : ∀ {s t u}, R s t → R t u → R s u
  queue : ∀ (s : State) pending due, R s { s with pending := pending, due := due }
  port : ∀ {f}, PortEvent f → ∀ (s : State) p, R s (s.modifyPort p f)
  request : ∀ {judge}, Request judge → ∀ s, R s (judge s).1
  event : ∀ {e}, Event e → ∀ s, R s (e s)
  elapse : ∀ s, R s s.elapse

variable {R : State → State → Prop}

theorem Along.frame (h : Along R) {judge : State → Answer} (hj : Request judge) (s : State) (p : PortId) (tag code : Byte)
    (who : Senders) : R s (s.frame p tag code who judge) := by
  unfold State.frame
  refine h.trans (h.port .hunt s p) ?_
  dsimp only
  split
  · exact h.refl _
  · split
    · exact h.port (.busyFrame tag code) _ _
    · split
      · exact h.trans (h.request hj _) (h.port (.transmit _) _ _)
      · exact h.port (.transmit _) _ _

theorem Along.dispatch (h : Along R) (s : State) (p : PortId) (tag code : Byte) (body : List Byte) :
    R s (s.dispatchFrame p tag code body) := by
  obtain ⟨who, judge, hj, e⟩ := s.dispatchFrame_request p tag code body
  exact e ▸ h.frame hj s p tag code who

theorem Along.receive (h : Along R) (s : State) (p : PortId) (b : Byte) : R s (s.receive p b) := by
  obtain e | ⟨f, hf, e⟩ | ⟨tag, code, who, judge, hj, e⟩ := s.receive_cases p b
  · exact e.symm ▸ h.refl s
  · exact e ▸ h.port hf s p
  · exact e ▸ h.frame hj s p tag code who

theorem Along.expiry (h : Along R) {act : State → State} (ha : Event act) (s : State) (c : Instr) :
    R s (s.expiry c act) := by
  unfold State.expiry
  split
  · have taken : R s (s.expiryTaken c) := h.queue s s.pending _
    dsimp only
    split
    · exact h.trans taken (h.event ha _)
    · exact taken
  · exact h.event ha s

/-- A relation that runs along requests, events and receptions runs along every command. -/
theorem Along.exec (h : Along R) {c : Instr} {s t : State} (e : exec c s = .next t) : R s t := by
  have next : ∀ {x y : State}, R x y → (Host.Outcome.next y : Outcome) = .next t → R x t := by
    intro x y hxy e
    cases e
    exact hxy
  cases c
  case setClock => exact next (h.frame (.setClock _ _) _ _ _ _ _) e
  case writePermit => exact next (h.frame (.writePermit _ _ _ _ _) _ _ _ _ _) e
  case barPermit => exact next (h.frame (.barPermit _) _ _ _ _ _) e
  case deletePermit => exact next (h.frame (.deletePermit _) _ _ _ _ _) e
  case readPermit => exact next (h.frame (.readPermit _) _ _ _ _ _) e
  case writeProduct => exact next (h.frame (.writeProduct _ _ _ _ _ _) _ _ _ _ _) e
  case writeArmSetup => exact next (h.frame (.writeArmSetup _ _ _ _ _ _) _ _ _ _ _) e
  case postOrder => exact next (h.frame (.postOrder _ _ _ _ _) _ _ _ _ _) e
  case amendOrder => exact next (h.frame (.amendOrder _ _ _ _) _ _ _ _ _) e
  case presentPermit => exact next (h.frame (.presentPermit _ _ _) _ _ _ _ _) e
  case releaseClaim => exact next (h.frame (.releaseClaim _) _ _ _ _ _) e
  case claimTimeout slot => exact next (h.expiry (.claimTimeout slot) _ _) e
  case idleOrderTimeout slot => exact next (h.expiry (.idleOrderTimeout slot) _ _) e
  case finishOrder => exact next (h.frame (.finishOrder _) _ _ _ _ _) e
  case cancelOrder => exact next (h.frame (.cancelOrder _) _ _ _ _ _) e
  case readOrder => exact next (h.frame (.readOrder _ _ _) _ _ _ _ _) e
  case meterEdge a ch => exact next (h.event (.meterEdge a ch) _) e
  case meteringSample a => exact next (h.expiry (.sample a) _ _) e
  case gateCompletion => exact next (h.event (.endGate false) _) e
  case gateTimeout => exact next (h.expiry (.endGate true) _ _) e
  case readStatistics => exact next (h.frame (.readStatistics _) _ _ _ _ _) e
  case readAndClearStatistics => exact next (h.frame (.readAndClearStatistics _) _ _ _ _ _) e
  case startLine => exact next (h.frame (.startLine _ _ _) _ _ _ _ _) e
  case noFlowTimeout a => exact next (h.expiry (.noFlowTimeout a) _ _) e
  case endLine => exact next (h.frame (.endLine _) _ _ _ _ _) e
  case suspendTimeout a => exact next (h.expiry (.suspendTimeout a) _ _) e
  case clearLockout => exact next (h.frame (.clearLockout _) _ _ _ _ _) e
  case readArm => exact next (h.frame (.readArm _) _ _ _ _ _) e
  case suspendArm => exact next (h.frame (.holdRequest _ _) _ _ _ _ _) e
  case holdArm => exact next (h.frame (.holdRequest _ _) _ _ _ _ _) e
  case resumeArm => exact next (h.frame (.resumeArm _) _ _ _ _ _) e
  case releaseArm => exact next (h.frame (.releaseArm _) _ _ _ _ _) e
  case permissiveLoss i => exact next (h.event (.losePermissive i) _) e
  case permissiveInputReturn i => exact next (h.event (.returnPermissive i) _) e
  case permissiveRestored i => exact next (h.expiry (.restorePermissive i) _ _) e
  case estopActivation => exact next (h.event .stopPressed _) e
  case estopInputRelease => exact next (h.event .stopReleased _) e
  case estopReleaseTimeout => exact next (h.expiry .stopTimeout _ _) e
  case deadmanWarning => exact next (h.expiry .warnDeadman _ _) e
  case deadmanExpiry => exact next (h.expiry .expireDeadman _ _) e
  case deadmanPress b => exact next (h.event (.deadmanButton b) _) e
  case readBay => exact next (h.frame .readBay _ _ _ _ _) e
  case writeRecipe => exact next (h.frame (.writeRecipe _ _ _ _) _ _ _ _ _) e
  case assignInjector => exact next (h.frame (.assignInjector _ _ _) _ _ _ _ _) e
  case removeInjector => exact next (h.frame (.removeInjector _ _) _ _ _ _ _) e
  case assignStandby => exact next (h.frame (.assignStandby _ _) _ _ _ _ _) e
  case releaseStandby => exact next (h.frame (.releaseStandby _) _ _ _ _ _) e
  case returnInjector => exact next (h.frame (.returnInjector _) _ _ _ _ _) e
  case injectorFeedbackPulse i =>
    have totalled := h.event (.totalled i) s
    simp only [Machine.exec, execInjectorFeedbackPulse] at e
    split at e
    · exact next (h.trans totalled (h.event (.feedbackPulse _ i) _)) e
    · split at e
      · exact next (h.trans totalled (h.event (.latePulse _) _)) e
      · exact next totalled e
  case verifyWindowExpiry i => exact next (h.expiry (.windowExpires i) _ _) e
  case readInjector => exact next (h.frame (.readInjector _) _ _ _ _ _) e
  case writeCalibrationKFactor => exact next (h.frame (.writeKFactor _ _) _ _ _ _ _) e
  case writeCalibrationCurve => exact next (h.frame (.writeCurve _ _) _ _ _ _ _) e
  case writeCalibrationOffset => exact next (h.frame (.writeOffset _ _) _ _ _ _ _) e
  case writeCalibrationInjector => exact next (h.frame (.writeInjectorItem _ _ _ _) _ _ _ _ _) e
  case calibrationSwitchChange x => exact next (h.event (.switchChange x) _) e
  case setSeal => exact next (h.frame (.setSeal _) _ _ _ _ _) e
  case writeTrialFactor => exact next (h.frame (.writeTrialFactor _ _) _ _ _ _ _) e
  case readTotals => exact next (h.frame (.readTotals _) _ _ _ _ _) e
  case collectNote => exact next (h.frame (.collectNote _) _ _ _ _ _) e
  case markPrinted => exact next (h.frame (.markPrinted _) _ _ _ _ _) e
  case readNote => exact next (h.frame (.readNote _ _) _ _ _ _ _) e
  case listNotes => exact next (h.frame .listNotes _ _ _ _ _) e
  case powerFailSave =>
    simp only [Machine.exec, execPowerFailSave] at e
    split at e
    · exact next (h.event (.powerFail true) _) e
    · exact next (h.event .save _) e
  case powerFailWarningDeassert =>
    simp only [Machine.exec, execPowerFailWarningDeassert] at e
    split at e
    · exact next (h.trans (h.event (.powerFail false) _) (h.event .coldStart _)) e
    · exact next (h.event (.powerFail false) _) e
  case coldStart => exact next (h.event .coldStart _) e
  case restart => exact next (h.frame .restart _ _ _ _ _) e
  case fetchNotice => exact next (h.frame (.fetchNotice _) _ _ _ _ _) e
  case noticeDone => exact next (h.frame (.noticeDone _) _ _ _ _ _) e
  case setNoticeLevels => exact next (h.frame (.setNoticeLevels _ _ _ _ _ _ _) _ _ _ _ _) e
  case frameGapTimeout p => exact next (h.expiry (.gap p) _ _) e
  case characterFault p => exact next (h.port .hunt _ p) e
  case frameBadCrc p => exact next (h.port .hunt _ p) e
  case unknownRequest => exact next (h.dispatch _ _ _ _ _) e
  case frameWhileBusy => exact next (h.dispatch _ _ _ _ _) e
  case transmissionEnd p => exact next (h.port (.sent _) _ p) e
  case linkReset p => exact next (h.port .reset _ p) e
  case clockAdvance => exact next (h.expiry .clockAdvance _ _) e
  case referenceEdge =>
    simp only [Machine.exec, execReferenceEdge] at e
    split at e
    · exact next (h.event .referenceEdge _) e
    · exact next (h.event (.endGate false) _) e
  case probeEdge a => exact next (h.event (.probeEdge a) _) e
  case characterReceived p b => exact next (h.receive _ p b) e

/-- A relation that runs along every command and every millisecond runs along every step. -/
theorem Along.step (h : Along R) {s t : State} (e : step s = .next t) : R s t := by
  unfold Machine.step at e
  split at e
  · exact h.trans (h.queue s _ s.due) (h.exec e)
  · cases e
    exact h.trans (h.elapse s) (h.queue _ _ _)

end Sys2Proof.Machine
end

section
/-!
What an operation leaves of lines and arms, of permits and claims, and of the ranges: three relations, each reflexive and
transitive, and the invariants that they carry.
-/

namespace Sys2Proof.Machine

/-! ### Entries that correspond -/

theorem optionRel_refl {α : Type} {r : α → α → Prop} (h : ∀ x, r x x) : ∀ o : Option α, Option.Rel r o o
  | none => .none
  | some x => .some (h x)

theorem optionRel_trans {α : Type} (r : α → α → Prop) (h : ∀ x y z, r x y → r y z → r x z) {o p q : Option α}
    (hop : Option.Rel r o p) (hpq : Option.Rel r p q) : Option.Rel r o q := by
  cases hop with
  | none => exact hpq
  | some hxy => cases hpq with | some hyz => exact .some (h _ _ _ hxy hyz)

/-- An entry changed in place corresponds to what it was. -/
theorem optionRel_map {α : Type} {r : α → α → Prop} {f : α → α} :
    ∀ {o : Option α}, (∀ x, o = some x → r x (f x)) → Option.Rel r o (o.map f)
  | none, _ => .none
  | some x, h => .some (h x rfl)

/-- What stands in an entry was there in another form. -/
theorem optionRel_before {α : Type} {r : α → α → Prop} {o : Option α} {y : α} :
    Option.Rel r o (some y) → ∃ x, o = some x ∧ r x y
  | .some h => ⟨_, rfl, h⟩

/-- What stood in an entry is there in another form. -/
theorem optionRel_after {α : Type} {r : α → α → Prop} {p : Option α} {x : α} :
    Option.Rel r (some x) p → ∃ y, p = some y ∧ r x y
  | .some h => ⟨_, rfl, h⟩

/-- What an entry that held nothing holds. -/
theorem optionRel_none {α : Type} {r : α → α → Prop} {p : Option α} : Option.Rel r none p → p = none
  | .none => rfl

/-! ### Lines and arms -/

/-- A line keeps its standing and its result, or, not being active, has ended. -/
def Line.follows (l m : Line) : Prop :=
  (m.state = l.state ∧ m.result = l.result) ∨ (l.isActive = false ∧ m.state = .ended)

theorem Line.follows_refl (l : Line) : l.follows l := .inl ⟨rfl, rfl⟩

theorem Line.isActive_congr {l m : Line} (h : m.state = l.state) : m.isActive = l.isActive := by
  simp only [Line.isActive, h]

theorem Line.follows_trans {l m n : Line} (h : l.follows m) (g : m.follows n) : l.follows n := by
  rcases h with ⟨h1, h2⟩ | ⟨h1, h2⟩ <;> rcases g with ⟨g1, g2⟩ | ⟨g1, g2⟩
  · exact .inl ⟨g1.trans h1, g2.trans h2⟩
  · exact .inr ⟨(Line.isActive_congr h1).symm.trans g1, g2⟩
  · exact .inr ⟨h1, g1.trans h2⟩
  · exact .inr ⟨h1, g2⟩

/-- An order keeps its lines, stays LOADING or CLOSING where it is, and its idle timer stays stopped where it is. -/
structure Order.carries (o p : Order) : Prop where
  lines : ∀ k, Option.Rel Line.follows (o.line? k) (p.line? k)
  state : o.state = .loading ∨ o.state = .closing → p.state = .loading ∨ p.state = .closing
  idle : o.idleTimer = none → p.idleTimer = none

theorem Order.carries_refl (o : Order) : o.carries o := ⟨fun _ => optionRel_refl Line.follows_refl _, id, id⟩

theorem Order.carries_trans {o p q : Order} (h : o.carries p) (g : p.carries q) : o.carries q :=
  ⟨fun k => optionRel_trans Line.follows (fun _ _ _ => Line.follows_trans) (h.lines k) (g.lines k), g.state ∘ h.state, g.idle ∘ h.idle⟩

/-- An order whose lines stay as they are. -/
theorem Order.carries_of {o p : Order} (hl : p.lines = o.lines)
    (hs : o.state = .loading ∨ o.state = .closing → p.state = .loading ∨ p.state = .closing)
    (hi : o.idleTimer = none → p.idleTimer = none) : o.carries p :=
  ⟨fun k => by simp only [Order.line?, hl]; exact optionRel_refl Line.follows_refl _, hs, hi⟩

/-- An arm closes for a line end. -/
def Arm.closesLine (x : Arm) : Prop := x.state = .closing ∧ x.reason = some .lineEnd

/-- An arm keeps its line, stands as it should where it did, and closes for a line end where it did. -/
structure Arm.follows (x y : Arm) : Prop where
  active : y.active = x.active
  standing : x.standing → y.standing
  closes : y.closesLine ↔ x.closesLine

theorem Arm.follows_refl (x : Arm) : x.follows x := ⟨rfl, id, Iff.rfl⟩

theorem Arm.follows_trans {x y z : Arm} (h : x.follows y) (g : y.follows z) : x.follows z :=
  ⟨g.active.trans h.active, g.standing ∘ h.standing, g.closes.trans h.closes⟩

/-- An arm whose line, state, closing reason and causes stay as they are. -/
theorem Arm.follows_of {x y : Arm} (ha : y.active = x.active) (hs : y.state = x.state) (hr : y.reason = x.reason)
    (hh : y.holds = x.holds) : x.follows y := by
  refine ⟨ha, ?_, ?_⟩
  · simp only [Arm.standing, ha, hs, hr, hh, imp_self]
  · simp only [Arm.closesLine, hs, hr]

/-- From `s` to `t` the lines stay where they are: on their arms, in their orders. -/
structure State.linesFollow (s t : State) : Prop where
  arms : ∀ a, (s.arm a).follows (t.arm a)
  orders : ∀ k, Option.Rel Order.carries (s.order k) (t.order k)
  saved : t.bay.saved = s.bay.saved

theorem State.linesFollow_refl (s : State) : s.linesFollow s :=
  ⟨fun _ => Arm.follows_refl _, fun _ => optionRel_refl Order.carries_refl _, rfl⟩

theorem State.linesFollow.trans {s t u : State} (h : s.linesFollow t) (g : t.linesFollow u) : s.linesFollow u :=
  ⟨fun a => Arm.follows_trans (h.arms a) (g.arms a),
    fun k => optionRel_trans Order.carries (fun _ _ _ => Order.carries_trans) (h.orders k) (g.orders k), g.saved.trans h.saved⟩

/-! ### Permits and claims -/

/-- An order keeps its number and its claim, and is CLAIMED or POSTED only where it was. -/
structure Order.claimedAs (o p : Order) : Prop where
  number : p.number = o.number
  permit : p.claimPermit = o.claimPermit
  tanker : p.claimTanker = o.claimTanker
  time : p.claimTime = o.claimTime
  posted : p.state = .posted ↔ o.state = .posted
  claimed : p.state = .claimed → o.state = .claimed

theorem Order.claimedAs_refl (o : Order) : o.claimedAs o := ⟨rfl, rfl, rfl, rfl, Iff.rfl, id⟩

theorem Order.claimedAs_trans {o p q : Order} (h : o.claimedAs p) (g : p.claimedAs q) : o.claimedAs q :=
  ⟨g.number.trans h.number, g.permit.trans h.permit, g.tanker.trans h.tanker, g.time.trans h.time,
    g.posted.trans h.posted, h.claimed ∘ g.claimed⟩

/-- From `s` to `t` the permits stay, and each order stays claimed as it is. -/
structure State.claimsFollow (s t : State) : Prop where
  permits : t.permits = s.permits
  orders : ∀ k, Option.Rel Order.claimedAs (s.order k) (t.order k)

theorem State.claimsFollow_refl (s : State) : s.claimsFollow s :=
  ⟨rfl, fun _ => optionRel_refl Order.claimedAs_refl _⟩

theorem State.claimsFollow.trans {s t u : State} (h : s.claimsFollow t) (g : t.claimsFollow u) : s.claimsFollow u :=
  ⟨g.permits.trans h.permits, fun k => optionRel_trans Order.claimedAs (fun _ _ _ => Order.claimedAs_trans) (h.orders k) (g.orders k)⟩

/-- An order of `t` is an order of `s`, claimed as it was. -/
theorem State.claimsFollow.before {s t : State} (h : s.claimsFollow t) {k : Fin 24} {p : Order} (hp : t.order k = some p) :
    ∃ o, s.order k = some o ∧ o.claimedAs p := optionRel_before (hp ▸ h.orders k)

/-- An order of `s` is an order of `t`, claimed as it was. -/
theorem State.claimsFollow.after {s t : State} (h : s.claimsFollow t) {k : Fin 24} {o : Order} (ho : s.order k = some o) :
    ∃ p, t.order k = some p ∧ o.claimedAs p := optionRel_after (ho ▸ h.orders k)

theorem State.claimsFollow.agree {s t : State} (h : s.claimsFollow t) (hs : s.claimsAgree) : t.claimsAgree := by
  obtain ⟨permitsDiffer, ordersDiffer, claimsNamed, ordersNamed⟩ := hs
  unfold State.claimsAgree
  rw [h.permits]
  refine ⟨permitsDiffer, fun k j o r hk hj hn => ?_, fun e p slot hp hc => ?_, fun slot p hp => ?_⟩
  · obtain ⟨o', ho, ro⟩ := h.before hk
    obtain ⟨r', hr, rr⟩ := h.before hj
    exact ordersDiffer k j o' r' ho hr (ro.number.symm.trans (hn.trans rr.number))
  · obtain ⟨o, ho, hposted, hclaim⟩ := claimsNamed e p slot hp hc
    obtain ⟨o', ho', r⟩ := h.after ho
    exact ⟨o', ho', mt r.posted.mp hposted, r.permit.trans hclaim⟩
  · obtain ⟨o, ho, r⟩ := h.before hp
    obtain ⟨posted, claimed⟩ := ordersNamed slot o ho
    rw [r.permit, r.tanker, r.time, Ne, r.posted]
    refine ⟨posted, fun hs => ?_⟩
    obtain ⟨ht, hx, e, q, hq, hc, hslot, hactive⟩ := claimed hs
    exact ⟨ht, hx, e, q, hq, hc, hslot, hactive ∘ r.claimed⟩

/-! ### The ranges -/

/-- The clock, the store and the probes lie in their ranges (R2, R68, R147, R155). -/
def State.ranged (s : State) : Prop := s.clockKept ∧ s.store.kept ∧ s.probesKept

/-! ### The three together -/

/-- From `s` to `t` permits and claims stay, and the ranges are kept; the lines and the arms may move. -/
structure State.ledger (s t : State) : Prop where
  claims : s.claimsFollow t
  ranged : s.ranged → t.ranged

theorem State.ledger_refl (s : State) : s.ledger s := ⟨s.claimsFollow_refl, id⟩

theorem State.ledger.trans {s t u : State} (h : s.ledger t) (g : t.ledger u) : s.ledger u :=
  ⟨State.claimsFollow.trans h.claims g.claims, g.ranged ∘ h.ranged⟩

/-- From `s` to `t` lines, arms, permits and claims stand as they stood, and the ranges are kept. -/
structure State.steady (s t : State) : Prop extends s.ledger t where
  lines : s.linesFollow t

theorem State.steady_refl (s : State) : s.steady s := ⟨s.ledger_refl, s.linesFollow_refl⟩

theorem State.steady.trans {s t u : State} (h : s.steady t) (g : t.steady u) : s.steady u :=
  ⟨State.ledger.trans h.toledger g.toledger, State.linesFollow.trans h.lines g.lines⟩

/-- The same, the later passage named first. -/
theorem State.steady.after {s t u : State} (g : t.steady u) (h : s.steady t) : s.steady u := h.trans g

/-- From `s` to `t` the invariants are kept. -/
structure State.keeps (s t : State) : Prop where
  lines : s.linesKept → t.linesKept
  claims : s.claimsAgree → t.claimsAgree
  ranged : s.ranged → t.ranged

theorem State.keeps_refl (s : State) : s.keeps s := ⟨id, id, id⟩

theorem State.keeps.trans {s t u : State} (h : s.keeps t) (g : t.keeps u) : s.keeps u :=
  ⟨g.lines ∘ h.lines, g.claims ∘ h.claims, g.ranged ∘ h.ranged⟩

/-! ### Lines and arms that agree, some arms apart -/

/-- An order has no active line, and none of its waiting lines has a result. -/
def Order.unloaded (o : Order) : Prop := ∀ k l, o.line? k = some l → l.isActive = false ∧ (l.state = .waiting → l.result = none)

/-- Lines and arms agree as `State.linesKept` says, but that the arms in `apart`, in the midst of an operation, need not stand
by their state, nor their lines be ending as their states say. -/
structure State.linesHeld (s : State) (apart : Fin 6 → Prop) : Prop where
  stands : ∀ a, ¬ apart a → (s.arm a).standing
  carried : s.bay.saved = false → ∀ a ref, (s.arm a).active = some ref →
    ∃ l, s.lineAt ref = some l ∧ l.state = .active a ∧ (¬ apart a → (l.isEnding = true ↔ (s.arm a).closesLine))
  loaded : s.bay.saved = false → ∀ slot o k l, s.order slot = some o → o.line? k = some l →
    (l.state = .waiting → l.result = none) ∧
      ∀ a, l.state = .active a → (s.arm a).active = some ⟨slot, k⟩ ∧ (o.state = .loading ∨ o.state = .closing) ∧
        o.idleTimer = none

theorem State.linesHeld_iff (s : State) : s.linesHeld (fun _ => False) ↔ s.linesKept := by
  refine ⟨fun h => ⟨fun a => h.stands a id, fun hs => ⟨fun a ref hr => ?_, h.loaded hs⟩⟩,
    fun h => ⟨fun a _ => h.1 a, fun hs a ref hr => ?_, fun hs => (h.2 hs).2⟩⟩
  · obtain ⟨l, hl, ha, he⟩ := h.carried hs a ref hr
    exact ⟨l, hl, ha, he id⟩
  · obtain ⟨l, hl, ha, he⟩ := (h.2 hs).1 a ref hr
    exact ⟨l, hl, ha, fun _ => he⟩

theorem State.linesHeld.apart {s : State} (h : s.linesKept) (apart : Fin 6 → Prop) : s.linesHeld apart := by
  obtain ⟨stands, carried, loaded⟩ := s.linesHeld_iff.mpr h
  refine ⟨fun a _ => stands a id, fun hs a ref hr => ?_, loaded⟩
  obtain ⟨l, hl, ha, he⟩ := carried hs a ref hr
  exact ⟨l, hl, ha, fun _ => he id⟩

/-- The arm apart joins the others, once it stands and its line is ending as its state says. -/
theorem State.linesHeld.join {s : State} {a : Fin 6} (h : s.linesHeld (· = a)) (ha : (s.arm a).standing)
    (he : s.bay.saved = false → ∀ ref l, (s.arm a).active = some ref → s.lineAt ref = some l → l.state = .active a →
      (l.isEnding = true ↔ (s.arm a).closesLine)) : s.linesKept := by
  refine s.linesHeld_iff.mp ⟨fun b _ => ?_, fun hs b ref hr => ?_, h.loaded⟩
  · by_cases hb : b = a
    · exact hb ▸ ha
    · exact h.stands b hb
  · obtain ⟨l, hl, hb, hend⟩ := h.carried hs b ref hr
    refine ⟨l, hl, hb, fun _ => ?_⟩
    by_cases hba : b = a
    · subst hba
      exact he hs ref l hr hl hb
    · exact hend hba

/-- An arm without a line joins the others once it stands. -/
theorem State.linesHeld.join_free {s : State} {a : Fin 6} (h : s.linesHeld (· = a)) (ha : (s.arm a).standing)
    (hn : (s.arm a).active = none) : s.linesKept :=
  h.join ha fun _ ref l hr => by simp [hn] at hr

theorem State.lineAt_iff (s : State) (ref : LineRef) (l : Line) :
    s.lineAt ref = some l ↔ ∃ o, s.order ref.slot = some o ∧ o.line? ref.line = some l := by
  simp [State.lineAt, Option.bind_eq_some_iff]

/-- An ACTIVE line is its arm's, and its order is LOADING or CLOSING with no idle timer: any other order is unloaded. -/
theorem State.linesHeld.unloaded {s : State} {apart : Fin 6 → Prop} (h : s.linesHeld apart) (hs : s.bay.saved = false)
    {k : Fin 24} {o : Order} (ho : s.order k = some o)
    (hq : ¬ (o.state = .loading ∨ o.state = .closing) ∨ o.idleTimer ≠ none ∨ o.lines.any Line.isActive = false) :
    o.unloaded := by
  intro j l hl
  obtain ⟨waits, carried⟩ := h.loaded hs k o j l ho hl
  refine ⟨?_, waits⟩
  by_contra hactive
  rw [Bool.not_eq_false] at hactive
  cases hst : l.state with
  | waiting => simp [Line.isActive, hst] at hactive
  | ended => simp [Line.isActive, hst] at hactive
  | active a =>
    obtain ⟨-, hstate, hidle⟩ := carried a hst
    rcases hq with hq | hq | hq
    · exact hq hstate
    · exact hq hidle
    · have hmem : l ∈ o.lines := by
        unfold Order.line? at hl
        split at hl
        · cases hl
        · exact List.mem_of_getElem? hl
      simp [List.any_eq_false.mp hq l hmem] at hactive

/-- Lines and arms agree on, where each order carries its lines on, or had none ACTIVE and has none. -/
theorem State.linesHeld.move {s t : State} {apart : Fin 6 → Prop} (h : s.linesHeld apart)
    (arms : ∀ a, (s.arm a).follows (t.arm a)) (saved : t.bay.saved = s.bay.saved)
    (orders : s.bay.saved = false → ∀ k, Option.Rel Order.carries (s.order k) (t.order k) ∨
      (∀ o, s.order k = some o → o.unloaded) ∧ ∀ o, t.order k = some o → o.unloaded) : t.linesHeld apart := by
  refine ⟨fun a ha => (arms a).standing (h.stands a ha), fun hs a ref hr => ?_, fun hs slot p k m hp hm => ?_⟩
  · rw [saved] at hs
    rw [(arms a).active] at hr
    obtain ⟨l, hl, ha, hend⟩ := h.carried hs a ref hr
    obtain ⟨o, ho, hol⟩ := (s.lineAt_iff ref l).mp hl
    have hact : l.isActive = true := by simp [Line.isActive, ha]
    rcases orders hs ref.slot with rel | ⟨idle, -⟩
    · obtain ⟨p, hp, hc⟩ := optionRel_after (ho ▸ rel)
      obtain ⟨m, hm, hf⟩ := optionRel_after (hol ▸ hc.lines ref.line)
      rcases hf with ⟨hstate, hresult⟩ | ⟨hn, -⟩
      · refine ⟨m, (t.lineAt_iff ref m).mpr ⟨p, hp, hm⟩, hstate.trans ha, fun hap => ?_⟩
        rw [(arms a).closes, ← hend hap, Line.isEnding, Line.isEnding, Line.isActive_congr hstate, hresult]
      · simp [hact] at hn
    · simp [(idle o ho ref.line l hol).1] at hact
  · rw [saved] at hs
    rcases orders hs slot with rel | ⟨-, idle⟩
    · obtain ⟨o, ho, hc⟩ := optionRel_before (hp ▸ rel)
      obtain ⟨l, hl, hf⟩ := optionRel_before (hm ▸ hc.lines k)
      obtain ⟨waits, carried⟩ := h.loaded hs slot o k l ho hl
      rcases hf with ⟨hstate, hresult⟩ | ⟨-, hended⟩
      · refine ⟨fun hw => hresult.trans (waits (hstate.symm.trans hw)), fun a ha => ?_⟩
        obtain ⟨h1, h2, h3⟩ := carried a (hstate.symm.trans ha)
        exact ⟨(arms a).active.trans h1, hc.state h2, hc.idle h3⟩
      · exact ⟨fun hw => by simp [hended] at hw, fun a ha => by simp [hended] at ha⟩
    · obtain ⟨hn, hw⟩ := idle p hp k m hm
      exact ⟨hw, fun a ha => by simp [Line.isActive, ha] at hn⟩

theorem State.linesFollow.held {s t : State} (h : s.linesFollow t) {apart : Fin 6 → Prop} (hs : s.linesHeld apart) :
    t.linesHeld apart := hs.move h.arms h.saved fun _ k => .inl (h.orders k)

theorem State.linesFollow.kept {s t : State} (h : s.linesFollow t) (hs : s.linesKept) : t.linesKept :=
  t.linesHeld_iff.mp (h.held (s.linesHeld_iff.mpr hs))

theorem State.steady.keeps {s t : State} (h : s.steady t) : s.keeps t := ⟨h.lines.kept, h.claims.agree, h.ranged⟩

end Sys2Proof.Machine
end

section
/-!
The operations that leave lines, arms, permits and claims standing as they stood (`State.steady`), or permits and claims at
least (`State.ledger`): the updates of the state, the dosing unit, the pulse decoder, the holds, and the sample's volumes.
-/

namespace Sys2Proof.Machine

/-! ### Updates of parts of the state -/

/-- A change outside arms, orders, permits and the save mark, within the ranges. -/
theorem State.steady_of {s t : State} (arms : t.arms = s.arms) (orders : t.orders = s.orders)
    (permits : t.permits = s.permits) (saved : t.bay.saved = s.bay.saved) (ranged : s.ranged → t.ranged) : s.steady t where
  claims := ⟨permits, fun k => State.order_congr orders k ▸ optionRel_refl Order.claimedAs_refl _⟩
  ranged := ranged
  lines := ⟨fun a => State.arm_congr arms a ▸ Arm.follows_refl _,
    fun k => State.order_congr orders k ▸ optionRel_refl Order.carries_refl _, saved⟩

theorem State.ledger_of {s t : State} (orders : t.orders = s.orders) (permits : t.permits = s.permits)
    (ranged : s.ranged → t.ranged) : s.ledger t where
  claims := ⟨permits, fun k => State.order_congr orders k ▸ optionRel_refl Order.claimedAs_refl _⟩
  ranged := ranged

theorem State.ledger_modifyArm (s : State) (a : Fin 6) (f : Arm → Arm) : s.ledger (s.modifyArm a f) :=
  State.ledger_of rfl rfl id

/-- The proof asked for is, where none is given, that the arm's line, state, closing reason and causes stay. -/
theorem State.steady_modifyArm (s : State) (a : Fin 6) {f : Arm → Arm}
    (h : (s.arm a).follows (f (s.arm a)) := by exact Arm.follows_of rfl rfl rfl rfl) : s.steady (s.modifyArm a f) where
  toledger := s.ledger_modifyArm a f
  lines := by
    refine ⟨fun b => ?_, fun k => optionRel_refl Order.carries_refl _, rfl⟩
    rw [State.arm_modifyArm]
    split
    · next hb => exact hb ▸ h
    · exact Arm.follows_refl _

theorem State.steady_modifyDosing (s : State) (a : Fin 6) (f : DosingRecord → DosingRecord) : s.steady (s.modifyDosing a f) :=
  s.steady_modifyArm a

theorem State.steady_modifyDecoder (s : State) (a : Fin 6) (f : Decoder → Decoder) : s.steady (s.modifyDecoder a f) :=
  s.steady_modifyArm a

theorem State.steady_setPosition (s : State) (a : Fin 6) (p : Fin 2) (i : Option (Fin 8)) : s.steady (s.setPosition a p i) :=
  s.steady_modifyArm a

theorem State.steady_modifyInjector (s : State) (i : Fin 8) (f : Injector → Injector) : s.steady (s.modifyInjector i f) :=
  State.steady_of rfl rfl rfl rfl id

theorem State.steady_modifyInjectorStore (s : State) (i : Fin 8) (f : InjectorStore → InjectorStore) :
    s.steady (s.modifyInjectorStore i f) := State.steady_of rfl rfl rfl rfl id

theorem State.steady_modifyDeadman (s : State) (f : Deadman → Deadman) : s.steady (s.modifyDeadman f) :=
  State.steady_of rfl rfl rfl rfl id

theorem State.steady_modifyStop (s : State) (f : StopInput → StopInput) : s.steady (s.modifyStop f) :=
  State.steady_of rfl rfl rfl rfl id

theorem State.steady_modifyPermissive (s : State) (i : Permissive) (f : PermissiveInput → PermissiveInput) :
    s.steady (s.modifyPermissive i f) := by
  cases i <;> exact State.steady_of rfl rfl rfl rfl id

theorem State.steady_modifyPort (s : State) (p : PortId) (f : Port → Port) : s.steady (s.modifyPort p f) := by
  cases p <;> exact State.steady_of rfl rfl rfl rfl id

theorem State.steady_raise (s : State) (k : NoticeKind) (subject : Nat) : s.steady (s.raise k subject) :=
  State.steady_of rfl rfl rfl rfl id

theorem State.steady_setSlots (s : State) (t : Table 48 JournalSlot) : s.steady (s.setSlots t) :=
  State.steady_of rfl rfl rfl rfl id

theorem State.steady_compose (s : State) (o : Order) (cause : CloseCause) : s.steady (s.compose o cause) := by
  unfold State.compose
  split
  · exact State.steady_of rfl rfl rfl rfl id
  · exact s.steady_refl

theorem State.steady_settleDeadman (s : State) : s.steady s.settleDeadman := by
  unfold State.settleDeadman
  split
  · exact s.steady_refl
  · exact s.steady_modifyDeadman _

theorem State.steady_restartDeadman (s : State) : s.steady s.restartDeadman := s.steady_modifyDeadman _

/-! ### Acting on every arm -/

theorem State.steady_forArms {f : Fin 6 → State → State} (h : ∀ a (t : State), t.steady (f a t)) (s : State) :
    s.steady (s.forArms f) :=
  State.forArms_keeps (P := s.steady) s.steady_refl fun a t ht => ht.trans (h a t)

theorem State.ledger_forArms {f : Fin 6 → State → State} (h : ∀ a (t : State), t.ledger (f a t)) (s : State) :
    s.ledger (s.forArms f) :=
  State.forArms_keeps (P := s.ledger) s.ledger_refl fun a t ht => ht.trans (h a t)

theorem State.keeps_forArms {f : Fin 6 → State → State} (h : ∀ a (t : State), t.keeps (f a t)) (s : State) :
    s.keeps (s.forArms f) :=
  State.forArms_keeps (P := s.keeps) s.keeps_refl fun a t ht => ht.trans (h a t)

/-! ### Orders and lines -/

theorem State.ledger_modifyOrder {s : State} {k : Fin 24} {f : Order → Order}
    (h : ∀ o, s.order k = some o → o.claimedAs (f o)) : s.ledger (s.modifyOrder k f) where
  claims := by
    refine ⟨rfl, fun j => ?_⟩
    rw [State.order_modifyOrder]
    split
    · next hj => exact hj ▸ optionRel_map h
    · exact optionRel_refl Order.claimedAs_refl _
  ranged := id

theorem State.linesFollow_modifyOrder {s : State} {k : Fin 24} {f : Order → Order}
    (h : ∀ o, s.order k = some o → o.carries (f o)) : s.linesFollow (s.modifyOrder k f) := by
  refine ⟨fun a => Arm.follows_refl _, fun j => ?_, rfl⟩
  rw [State.order_modifyOrder]
  split
  · next hj => exact hj ▸ optionRel_map h
  · exact optionRel_refl Order.carries_refl _

theorem Order.line?_modify (o : Order) (n k : Nat) (f : Line → Line) :
    ({ o with lines := o.lines.modify n f } : Order).line? k = if k = n + 1 then (o.line? k).map f else o.line? k := by
  unfold Order.line?
  by_cases hk : k = 0
  · simp [hk]
  · simp only [hk, if_false, List.getElem?_modify]
    by_cases hn : k = n + 1
    · simp [hn]
    · simp [hn, show ¬ n = k - 1 by omega]

theorem Order.line?_map (o : Order) (k : Nat) (f : Line → Line) :
    ({ o with lines := o.lines.map f } : Order).line? k = (o.line? k).map f := by
  unfold Order.line?
  by_cases hk : k = 0 <;> simp [hk]

/-- An order one of whose lines changes within what a line may. -/
theorem Order.carries_modify (o : Order) (n : Nat) {f : Line → Line} (h : ∀ l : Line, l.follows (f l)) :
    o.carries { o with lines := o.lines.modify n f } := by
  refine ⟨fun k => ?_, id, id⟩
  rw [Order.line?_modify]
  split
  · exact optionRel_map fun l _ => h l
  · exact optionRel_refl Line.follows_refl _

theorem Order.claimedAs_lines (o : Order) (lines : List Line) : o.claimedAs { o with lines := lines } :=
  ⟨rfl, rfl, rfl, rfl, Iff.rfl, id⟩

theorem State.ledger_modifyLine (s : State) (ref : LineRef) (f : Line → Line) : s.ledger (s.modifyLine ref f) :=
  State.ledger_modifyOrder fun o _ => o.claimedAs_lines _

theorem State.ledger_modifyActiveLine (s : State) (a : Fin 6) (f : Line → Line) : s.ledger (s.modifyActiveLine a f) := by
  unfold State.modifyActiveLine
  split
  · exact s.ledger_modifyLine _ f
  · exact s.ledger_refl

theorem State.steady_modifyLine (s : State) (ref : LineRef) {f : Line → Line} (h : ∀ l : Line, l.follows (f l)) :
    s.steady (s.modifyLine ref f) :=
  ⟨s.ledger_modifyLine ref f, State.linesFollow_modifyOrder fun o _ => o.carries_modify _ h⟩

/-- The proof asked for is, where none is given, that the line's standing and result stay. -/
theorem State.steady_modifyActiveLine (s : State) (a : Fin 6) {f : Line → Line}
    (h : ∀ l : Line, l.follows (f l) := by exact fun l => .inl ⟨rfl, rfl⟩) : s.steady (s.modifyActiveLine a f) := by
  unfold State.modifyActiveLine
  split
  · exact s.steady_modifyLine _ h
  · exact s.steady_refl

/-- A line that has not started ends, and nothing else of its order moves. -/
theorem Order.carries_endWaiting (o : Order) : o.carries o.endWaiting := by
  refine ⟨fun k => ?_, id, id⟩
  rw [Order.endWaiting, Order.line?_map]
  refine optionRel_map fun l _ => ?_
  unfold Line.neverStarted
  split
  · next hw =>
    have hs : l.state = .waiting := by simpa [Line.isWaiting] using hw
    exact .inr ⟨by simp [Line.isActive, hs], rfl⟩
  · exact l.follows_refl

theorem State.steady_endWaiting (s : State) (slot : Fin 24) : s.steady (s.modifyOrder slot Order.endWaiting) :=
  ⟨State.ledger_modifyOrder fun o _ => o.claimedAs_lines _, State.linesFollow_modifyOrder fun o _ => o.carries_endWaiting⟩

/-! ### Queued starts -/

theorem State.steady_dropQueued (s : State) (a : Fin 6) : s.steady (s.dropQueued a) := by
  unfold State.dropQueued
  split
  · exact (State.steady_raise _ _ _).after (s.steady_modifyArm a)
  · exact s.steady_refl

theorem State.steady_dropQueuedOf (s : State) (num : Nat) : s.steady (s.dropQueuedOf num) := by
  refine State.steady_forArms (fun a t => ?_) s
  split
  · split
    · exact t.steady_dropQueued a
    · exact t.steady_refl
  · exact t.steady_refl

/-! ### Hold causes -/

theorem HoldSet.put_false_clear (c : HoldCause) : HoldSet.clear.put false c = HoldSet.clear := by cases c <;> rfl

/-- An arm that stands with a line, not flowing, is CLOSING or SUSPENDED. -/
theorem Arm.standing.closed {x : Arm} (h : x.standing) (ha : x.active.isSome = true) (hf : x.state.flowing = false) :
    x.state = .closing ∨ x.state = .suspended := by
  obtain ⟨hidle, hlocked⟩ := h.1.mp ha
  cases hs : x.state <;> simp_all [ArmState.flowing]

theorem Arm.follows_withCause (x : Arm) (c : HoldCause) : x.follows (x.withCause c) := by
  unfold Arm.withCause
  split
  · next hc =>
    split
    · next hf =>
      refine ⟨rfl, fun _ => ⟨by simp [hc.1], by simp, fun _ => .inl rfl⟩, ?_⟩
      simp only [Arm.closesLine, Option.some.injEq, reduceCtorEq, and_false, false_iff]
      rintro ⟨hs, -⟩
      simp [hs, ArmState.flowing] at hf
    · next hf =>
      exact ⟨rfl, fun h => ⟨h.1, h.2.1, fun _ => h.closed hc.1 (Bool.not_eq_true _ ▸ hf)⟩, Iff.rfl⟩
  · exact x.follows_refl

theorem State.raiseHold_saved (s : State) (a : Fin 6) (c : HoldCause) : (s.raiseHold a c).bay.saved = s.bay.saved := by
  obtain ⟨-, hb⟩ := s.raiseHold_heldBy a c
  split at hb
  · rw [hb]
    split <;> rfl
  · rw [hb]

theorem State.steady_raiseHold (s : State) (a : Fin 6) (c : HoldCause) : s.steady (s.raiseHold a c) := by
  obtain ⟨ht, -⟩ := s.raiseHold_heldBy a c
  have arms : s.steady (s.modifyArm a (fun x => x.withCause c)) :=
    s.steady_modifyArm a (Arm.follows_withCause _ c)
  refine arms.trans (State.steady_of ?_ ?_ ?_ (s.raiseHold_saved a c) ?_)
  · rw [ht]; rfl
  · rw [ht]; rfl
  · rw [ht]; rfl
  · rw [ht]; exact id

theorem State.steady_clearHold (s : State) (a : Fin 6) (c : HoldCause) : s.steady (s.clearHold a c) := by
  refine s.steady_modifyArm a ⟨rfl, fun h => ⟨h.1, h.2.1, fun hc => h.2.2 fun he => hc ?_⟩, Iff.rfl⟩
  show (s.arm a).holds.put false c = HoldSet.clear
  rw [he, HoldSet.put_false_clear]

end Sys2Proof.Machine
end

section
namespace Sys2Proof.Machine

/-! ### The dosing unit (07) -/

theorem State.steady_judgeOverspeed (s : State) (a : Fin 6) : s.steady (s.judgeOverspeed a) := by
  unfold State.judgeOverspeed
  split
  · split
    · refine State.steady.trans ?_ (State.steady_raiseHold _ a .additive)
      split
      · exact s.steady_modifyInjector _ _
      · exact s.steady_refl
    · exact s.steady_refl
  · exact s.steady_refl

theorem State.steady_judgeReducedFlow (s : State) (a : Fin 6) : s.steady (s.judgeReducedFlow a) := by
  unfold State.judgeReducedFlow
  split
  · split
    · exact State.steady_modifyArm _ a
    · split
      · exact (State.steady_raise _ _ _).after (s.steady_modifyArm a)
      · exact s.steady_refl
  · exact s.steady_refl

theorem State.steady_judgeAdditiveClear (s : State) (a : Fin 6) : s.steady (s.judgeAdditiveClear a) := by
  unfold State.judgeAdditiveClear
  split
  · split
    · exact s.steady_clearHold a .additive
    · exact s.steady_refl
  · exact s.steady_refl

theorem State.steady_judgeDosing (s : State) (a : Fin 6) : s.steady (s.judgeDosing a) :=
  ((s.steady_judgeOverspeed a).trans (State.steady_judgeReducedFlow _ a)).trans (State.steady_judgeAdditiveClear _ a)

theorem State.steady_issueShot (s : State) (a : Fin 6) : s.steady (s.issueShot a) := by
  unfold State.issueShot
  split
  · split
    · exact (s.steady_modifyDosing a _).trans (State.steady_modifyInjector _ _ _)
    · exact s.steady_refl
  · exact s.steady_refl

/-- A shot is issued where it may be, and the dosing event judged. -/
theorem State.steady_issued (s : State) (a : Fin 6) : s.steady ((s.issueShot a).judgeDosing a) :=
  (s.steady_issueShot a).trans (State.steady_judgeDosing _ a)

theorem State.steady_shotGood (s : State) (a : Fin 6) (i : Fin 8) (r : DosingRecord) (retry : Bool) :
    s.steady (s.shotGood a i r retry) :=
  ((s.steady_modifyInjector i _).trans (State.steady_modifyDosing _ a _)).trans (State.steady_issued _ a)

theorem State.steady_feedbackPulse (s : State) (a : Fin 6) (i : Fin 8) : s.steady (s.feedbackPulse a i) := by
  unfold State.feedbackPulse
  dsimp only
  split
  · split
    · split
      · exact (State.steady_shotGood _ a i _ _).after (s.steady_modifyDosing a _)
      · exact (State.steady_modifyInjector _ i _).after (s.steady_modifyDosing a _)
    · exact s.steady_modifyDosing a _
  · exact s.steady_modifyDosing a _

theorem State.steady_takeOver (s : State) (a : Fin 6) (r : DosingRecord) (j standby : Fin 8) :
    s.steady (s.takeOver a r j standby) := by
  unfold State.takeOver
  exact (State.steady_issued _ a).after ((State.steady_modifyActiveLine _ a).after
    ((State.steady_modifyArm _ a).after (s.steady_modifyInjector j _)))

theorem State.steady_disengage (s : State) (a : Fin 6) (r : DosingRecord) : s.steady (s.disengage a r) := by
  unfold State.disengage
  exact (State.steady_judgeReducedFlow _ a).after ((State.steady_raiseHold _ a .additive).after (s.steady_modifyArm a))

theorem State.steady_injectorFails (s : State) (a : Fin 6) (r : DosingRecord) (j : Fin 8) :
    s.steady (s.injectorFails a r j) := by
  have failed : ∀ (f : Injector → Injector) (g : InjectorStore → InjectorStore),
      s.steady (((s.modifyInjector j f).modifyInjectorStore j g).raise .injectorFailed (number j)) := fun f g =>
    (State.steady_raise _ _ _).after ((State.steady_modifyInjectorStore _ j g).after (s.steady_modifyInjector j f))
  unfold State.injectorFails
  dsimp only
  split
  · exact (State.steady_takeOver _ a _ j _).after (failed _ _)
  · exact (State.steady_disengage _ a _).after (failed _ _)

theorem State.steady_retryShot (s : State) (a : Fin 6) (j : Fin 8) : s.steady (s.retryShot a j) :=
  ((s.steady_modifyDosing a _).trans (State.steady_modifyInjector _ j _)).trans (State.steady_judgeDosing _ a)

theorem State.steady_windowExpires (s : State) (i : Fin 8) : s.steady (s.windowExpires i) := by
  unfold State.windowExpires
  split
  · exact s.steady_modifyInjector i _
  · split
    · exact s.steady_refl
    · split
      · exact s.steady_refl
      · split
        · split
          · exact s.steady_retryShot _ i
          · exact s.steady_injectorFails _ _ i
        · exact s.steady_refl

theorem State.steady_openDosing (s : State) (a : Fin 6) (recipe : Option (Fin 16)) : s.steady (s.openDosing a recipe) := by
  unfold State.openDosing
  split
  · exact s.steady_refl
  · split
    · exact s.steady_refl
    · exact State.steady_modifyArm _ a

theorem State.steady_serveDosing (s : State) (a : Fin 6) (dgv : Nat) : s.steady (s.serveDosing a dgv) := by
  unfold State.serveDosing
  split
  · exact (s.steady_modifyDosing a _).trans (State.steady_issued _ a)
  · exact s.steady_refl

theorem State.steady_finishDosing (s : State) (a : Fin 6) : s.steady (s.finishDosing a) := by
  unfold State.finishDosing
  split
  · split
    · exact (State.steady_issued _ a).after (s.steady_modifyArm a)
    · exact s.steady_refl
  · exact s.steady_refl

/-- The verify window of an arm's engaged injector stops. -/
theorem State.steady_idleEngaged (s : State) (a : Fin 6) : s.steady (match (s.arm a).engaged with
    | some i => s.modifyInjector i (fun x => { x with window := none })
    | none => s) := by
  split
  · exact s.steady_modifyInjector _ _
  · exact s.steady_refl

theorem State.steady_abandonDosing (s : State) (a : Fin 6) : s.steady (s.abandonDosing a) := by
  unfold State.abandonDosing
  split
  · exact (s.steady_idleEngaged a).trans (State.steady_modifyDosing _ a _)
  · exact s.steady_refl

theorem State.steady_stopDosing (s : State) (a : Fin 6) : s.steady (s.stopDosing a) := by
  unfold State.stopDosing
  refine (s.steady_abandonDosing a).trans ?_
  dsimp only
  split
  · split
    · exact State.steady_modifyArm _ a
    · exact State.steady_refl _
  · exact State.steady_refl _

theorem State.steady_fixDosing (s : State) (a : Fin 6) (quiet : Bool) : s.steady (s.fixDosing a quiet) := by
  unfold State.fixDosing
  split
  · exact s.steady_refl
  · dsimp only
    split
    · exact (State.steady_raise _ _ _).after ((State.steady_modifyArm _ a).after
        ((State.steady_modifyActiveLine _ a).after (s.steady_idleEngaged a)))
    · exact (State.steady_modifyArm _ a).after ((State.steady_modifyActiveLine _ a).after (s.steady_idleEngaged a))

/-! ### The pulse decoder (03) -/

theorem State.steady_judgeAllowance (s : State) (a : Fin 6) : s.steady (s.judgeAllowance a) := by
  unfold State.judgeAllowance
  dsimp only
  split
  · exact (s.steady_modifyDecoder a _).trans (State.steady_raiseHold _ a .pulse)
  · exact s.steady_refl

theorem State.steady_judgeMisses (s : State) (a : Fin 6) (lost : Channel) : s.steady (s.judgeMisses a lost) := by
  unfold State.judgeMisses
  split
  · exact (s.steady_modifyDecoder a _).trans (State.steady_modifyActiveLine _ a)
  · exact s.steady_refl

theorem State.steady_meterEdge (s : State) (a : Fin 6) (c : Channel) : s.steady (s.meterEdge a c) := by
  unfold State.meterEdge
  dsimp only
  split
  · exact s.steady_refl
  · split
    · exact s.steady_modifyDecoder a _
    · split
      · exact s.steady_modifyDecoder a _
      · split
        · exact ((s.steady_modifyDecoder a _).trans (State.steady_judgeAllowance _ a)).trans
            (State.steady_judgeMisses _ a _)
        · exact s.steady_modifyDecoder a _

/-! ### The volumes of a sample, and the store's totalizers (R55, R155) -/

/-- A meter's totalizers lie in their ranges. -/
def MeterStore.inRange (m : MeterStore) : Prop :=
  m.gross.litres ≤ 999999999 ∧ m.gross.remainder ≤ 999 ∧ m.standard.litres ≤ 999999999 ∧ m.standard.remainder ≤ 999

theorem Totalizer.advance_inRange (t : Totalizer) (ml : Nat) :
    (t.advance ml).litres ≤ 999999999 ∧ (t.advance ml).remainder ≤ 999 := by
  unfold Totalizer.advance
  dsimp only [Config.totalizerWrap]
  omega

theorem State.steady_modifyMeterStore (s : State) (a : Fin 6) {f : MeterStore → MeterStore}
    (h : ∀ m : MeterStore, m.inRange → (f m).inRange) : s.steady (s.modifyMeterStore a f) := by
  refine State.steady_of rfl rfl rfl rfl fun ⟨clock, ⟨counter, meters⟩, probes⟩ => ⟨clock, ⟨counter, fun b => ?_⟩, probes⟩
  have moved : (s.modifyMeterStore a f).store.meters.get b = if b = a then f (s.store.meters.get b)
    else s.store.meters.get b := Table.get_modify _ _ _ _
  rw [moved]
  split
  · exact h _ (meters b)
  · exact meters b

theorem State.steady_meterSample (s : State) (a : Fin 6) (v : SampleVolumes) : s.steady (s.meterSample a v) := by
  unfold State.meterSample
  refine (State.steady_modifyActiveLine _ a).after ((State.steady_modifyMeterStore _ a fun m _ => ?_).after
    (s.steady_modifyArm a))
  exact ⟨(m.gross.advance_inRange _).1, (m.gross.advance_inRange _).2, (m.standard.advance_inRange _).1,
    (m.standard.advance_inRange _).2⟩

theorem State.steady_decideOverrun (s : State) (a : Fin 6) : s.steady (s.decideOverrun a) := by
  unfold State.decideOverrun
  split
  · exact s.steady_refl
  · exact (State.steady_modifyArm _ a).after (s.steady_modifyActiveLine a)

theorem State.steady_fixLine (s : State) (a : Fin 6) (quiet : Bool) : s.steady (s.fixLine a quiet) := by
  unfold State.fixLine
  exact (State.steady_decideOverrun _ a).after ((State.steady_fixDosing _ a quiet).after (s.steady_modifyActiveLine a))

theorem State.steady_countSample (s : State) (a : Fin 6) (pulses lineGross : Nat) :
    s.steady (s.modifyArm a (fun x => x.countSample pulses lineGross)) := s.steady_modifyArm a

theorem State.steady_addStray (s : State) (a : Fin 6) (dgv : Nat) : s.steady (s.addStray a dgv) := by
  have added : ∀ n, s.steady (s.modifyArm a (fun x => { x with stray := n })) :=
    fun n => s.steady_modifyArm a
  unfold State.addStray
  dsimp only
  split
  · exact (added _).trans (State.steady_raise _ _ _)
  · exact added _

theorem State.steady_straySample (s : State) (a : Fin 6) (pulses dgv : Nat) : s.steady (s.straySample a pulses dgv) :=
  (s.steady_countSample a pulses 0).trans (State.steady_addStray _ a dgv)

/-- The sample of an arm that carries no line (R52, R98). -/
theorem State.steady_sample_stray {s : State} {a : Fin 6} (h : (s.arm a).active = none) : s.steady (s.sample a) := by
  unfold State.sample
  rw [if_neg (by simp [h])]
  exact (s.steady_meterSample a _).trans (State.steady_straySample _ a _ _)

/-! ### The temperature unit (04) -/

theorem Probe.judge_temperature {p : Probe} {t : Option Int} (h : -4500 ≤ p.temperature ∧ p.temperature ≤ 6500) :
    -4500 ≤ (p.judge t).1.temperature ∧ (p.judge t).1.temperature ≤ 6500 := by
  have invalid : ∀ q : Probe, q.temperature = p.temperature → -4500 ≤ q.invalidMove.1.temperature ∧
      q.invalidMove.1.temperature ≤ 6500 := by
    intro q hq
    have same : q.invalidMove.1.temperature = q.temperature := by
      unfold Probe.invalidMove
      split <;> (try split) <;> rfl
    rwa [same, hq]
  unfold Probe.judge
  dsimp only
  split
  · next x =>
    split
    · next hv =>
      have hx : -4500 ≤ x ∧ x ≤ 6500 := by simpa [validGate] using hv
      unfold Probe.validMove
      dsimp only
      split
      · exact hx
      · exact hx
      · exact hx
      · split
        · exact h
        · exact hx
    · exact invalid _ rfl
  · exact invalid _ rfl

theorem State.steady_probeActs (s : State) (a : Fin 6) (e : ProbeEvent) : s.steady (s.probeActs a e) := by
  cases e
  case none => exact s.steady_refl
  case failed => exact (s.steady_raise .probeFault (number a)).trans (State.steady_raiseHold _ a .probe)
  case recovered => exact s.steady_clearHold a .probe

theorem State.steady_judgeProbe (s : State) (a : Fin 6) (timedOut : Bool) : s.steady (s.judgeProbe a timedOut) := by
  unfold State.judgeProbe
  refine (State.steady_probeActs _ a _).after (State.steady_of rfl rfl rfl rfl ?_)
  refine fun ⟨clock, store, probes⟩ => ⟨clock, store, fun b => ?_⟩
  dsimp only
  rw [Table.get_set]
  split
  · exact Probe.judge_temperature (probes a)
  · exact probes b

theorem State.steady_endGate (s : State) (timedOut : Bool) : s.steady (s.endGate timedOut) := by
  unfold State.endGate
  exact (State.steady_forArms (fun a t => t.steady_judgeProbe a timedOut) _).after (State.steady_of rfl rfl rfl rfl id)

/-! ### Permissives, stop and deadman (06) -/

theorem State.steady_losePermissive (s : State) (i : Permissive) : s.steady (s.losePermissive i) := by
  unfold State.losePermissive
  dsimp only
  split
  · split
    · exact ((s.steady_modifyPermissive i _).trans (State.steady_forArms (fun a t => t.steady_raiseHold a _) _)).trans
        (State.steady_raise _ _ _)
    · exact s.steady_modifyPermissive i _
  · exact s.steady_refl

theorem State.steady_returnPermissive (s : State) (i : Permissive) : s.steady (s.returnPermissive i) := by
  unfold State.returnPermissive
  dsimp only
  split
  · exact s.steady_refl
  · exact s.steady_modifyPermissive i _

theorem State.steady_restorePermissive (s : State) (i : Permissive) : s.steady (s.restorePermissive i) := by
  unfold State.restorePermissive
  split
  · exact (s.steady_modifyPermissive i _).trans (State.steady_forArms (fun a t => t.steady_clearHold a _) _)
  · exact s.steady_refl

theorem State.steady_stopReleased (s : State) : s.steady s.stopReleased := by
  unfold State.stopReleased
  split
  · exact s.steady_modifyStop _
  · exact s.steady_refl

theorem State.steady_stopTimeout (s : State) : s.steady s.stopTimeout := by
  unfold State.stopTimeout
  split
  · exact s.steady_modifyStop _
  · exact s.steady_refl

theorem State.steady_warnDeadman (s : State) : s.steady s.warnDeadman := by
  unfold State.warnDeadman
  split
  · exact (s.steady_modifyDeadman _).trans (State.steady_raise _ _ _)
  · exact s.steady_refl

theorem State.steady_expireDeadman (s : State) : s.steady s.expireDeadman := by
  unfold State.expireDeadman
  split
  · refine State.steady.trans (State.steady_forArms (fun a t => ?_) s) (State.steady_modifyDeadman _ _)
    split
    · exact t.steady_raiseHold a .deadman
    · exact t.steady_refl
  · exact s.steady_refl

theorem State.steady_pressDeadman (s : State) : s.steady s.pressDeadman := by
  have cleared := State.steady_forArms (fun a (t : State) => t.steady_clearHold a .deadman) s
  unfold State.pressDeadman
  dsimp only
  split
  · exact cleared.trans (State.steady_restartDeadman _)
  · exact cleared

theorem State.steady_deadmanButton (s : State) (pressed : Bool) : s.steady (s.deadmanButton pressed) := by
  unfold State.deadmanButton
  dsimp only
  split
  · exact (s.steady_modifyDeadman _).trans (State.steady_pressDeadman _)
  · exact s.steady_modifyDeadman _

/-! ### One millisecond -/

theorem State.steady_elapse (s : State) : s.steady s.elapse where
  claims := by
    refine ⟨rfl, fun k => ?_⟩
    rw [State.order_elapse]
    exact optionRel_map fun o _ => ⟨rfl, rfl, rfl, rfl, Iff.rfl, id⟩
  ranged := id
  lines := by
    refine ⟨fun a => ?_, fun k => ?_, rfl⟩
    · rw [State.arm_elapse]
      exact Arm.follows_of rfl rfl rfl rfl
    · rw [State.order_elapse]
      exact optionRel_map fun o _ => Order.carries_of rfl id fun h => by simp [Order.elapse, Machine.elapse, h]

end Sys2Proof.Machine
end

section
/-!
The order table and the permit table: an order leaves its slot, a claim is made or withdrawn, a permit is written, and
permits and orders go on naming each other (R5, R7, R21).
-/

namespace Sys2Proof.Machine

/-! ### An order leaves its slot -/

/-- A permit whose claim ends where it is the one named (R7). -/
def Permit.released (num : Option Nat) (q : Permit) : Permit := if num = some q.number then { q with claim := none } else q

@[simp] theorem Permit.released_number (num : Option Nat) (q : Permit) : (q.released num).number = q.number := by
  unfold Permit.released; split <;> rfl

theorem Permit.released_ne {num : Option Nat} {q : Permit} (h : num ≠ some q.number) : q.released num = q := if_neg h

/-- A permit that still has a claim once a claim has ended is another than the one named. -/
theorem Permit.released_claim {num : Option Nat} {q : Permit} {slot : Fin 24} (h : (q.released num).claim = some slot) :
    num ≠ some q.number ∧ q.claim = some slot := by
  unfold Permit.released at h
  split at h
  · cases h
  · next hn => exact ⟨hn, h⟩

theorem State.endClaim_get (s : State) (num : Option Nat) (e : Fin 200) :
    (s.endClaim num).permits.get e = (s.permits.get e).map (Permit.released num) := Table.get_map _ _ e

/-- From `s` to `t` the order in a slot leaves it, or is POSTED there without a claim, and its claiming permit's claim ends;
the arms may lose a queued start, and no other order moves. -/
structure State.releases (s t : State) (slot : Fin 24) (o : Order) (x : Option Order) : Prop where
  held : s.order slot = some o
  orders : ∀ k, t.order k = if k = slot then x else s.order k
  permits : ∀ e, t.permits.get e = (s.permits.get e).map (Permit.released o.claimPermit)

/-- The permits and the orders go on naming each other where a claim ends on both sides. -/
theorem State.releases.agree {s t : State} {slot : Fin 24} {o : Order} {x : Option Order} (r : s.releases t slot o x)
    (hx : ∀ p, x = some p → p.number = o.number ∧ p.state = .posted ∧ p.claimPermit = none ∧ p.claimTanker = none ∧
      p.claimTime = none) (h : s.claimsAgree) : t.claimsAgree := by
  obtain ⟨held, orders, permits⟩ := r
  obtain ⟨permitsDiffer, ordersDiffer, claimsNamed, ordersNamed⟩ := h
  have permit : ∀ {e p}, t.permits.get e = some p → ∃ q, s.permits.get e = some q ∧ q.released o.claimPermit = p :=
    fun hp => Option.map_eq_some_iff.mp ((permits _).symm.trans hp)
  have other : ∀ {k p}, t.order k = some p → k ≠ slot → s.order k = some p := by
    intro k p hp hk
    rwa [orders, if_neg hk] at hp
  have number : ∀ {k p}, t.order k = some p → ∃ r, s.order k = some r ∧ r.number = p.number := by
    intro k p hp
    by_cases hk : k = slot
    · subst hk
      rw [orders, if_pos rfl] at hp
      exact ⟨o, held, (hx p hp).1.symm⟩
    · exact ⟨p, other hp hk, rfl⟩
  refine ⟨fun e f p q hp hq hn => ?_, fun k j p q hp hq hn => ?_, fun e p k hp hc => ?_, fun k p hp => ?_⟩
  · obtain ⟨p', hp', rfl⟩ := permit hp
    obtain ⟨q', hq', rfl⟩ := permit hq
    exact permitsDiffer e f p' q' hp' hq' (by simpa using hn)
  · obtain ⟨p', hp', hpn⟩ := number hp
    obtain ⟨q', hq', hqn⟩ := number hq
    exact ordersDiffer k j p' q' hp' hq' (hpn.trans (hn.trans hqn.symm))
  · obtain ⟨q, hq, rfl⟩ := permit hp
    obtain ⟨hne, hcq⟩ := Permit.released_claim hc
    obtain ⟨p, hk, hstate, hclaim⟩ := claimsNamed e q k hq hcq
    have hks : k ≠ slot := by
      rintro rfl
      rw [held] at hk
      cases hk
      exact hne hclaim
    exact ⟨p, by rw [orders, if_neg hks, hk], hstate, by simpa using hclaim⟩
  · by_cases hk : k = slot
    · subst hk
      rw [orders, if_pos rfl] at hp
      obtain ⟨-, hposted, hpermit, htanker, htime⟩ := hx p hp
      exact ⟨fun _ => ⟨hpermit, htanker, htime⟩, fun hn => absurd hposted hn⟩
    · have hs := other hp hk
      obtain ⟨posted, claimed⟩ := ordersNamed k p hs
      refine ⟨posted, fun hn => ?_⟩
      obtain ⟨htanker, htime, e, q, hq, hpq, hqk, hactive⟩ := claimed hn
      have hne : o.claimPermit ≠ some q.number := by
        intro hoq
        by_cases hposted : o.state = .posted
        · rw [((ordersNamed slot o held).1 hposted).1] at hoq
          cases hoq
        · obtain ⟨-, -, e', q', hq', hoq', hslot, -⟩ := (ordersNamed slot o held).2 hposted
          have hnum : q.number = q'.number := Option.some.inj (hoq.symm.trans hoq')
          obtain rfl := permitsDiffer e e' q q' hq hq' hnum
          rw [hq] at hq'
          cases hq'
          exact hk (Option.some.inj (hqk.symm.trans hslot))
      exact ⟨htanker, htime, e, q, by rw [permits, hq, Option.map_some, Permit.released_ne hne], hpq, hqk, hactive⟩

/-- An order that is gone. -/
theorem State.releases.agree_gone {s t : State} {slot : Fin 24} {o : Order} (r : s.releases t slot o none)
    (h : s.claimsAgree) : t.claimsAgree := r.agree (fun p hp => by cases hp) h

/-! ### What a claim and a permit's writing do -/

/-- The permits and the orders are all that their agreement speaks of. -/
theorem State.claimsAgree_congr {s t : State} (permits : t.permits = s.permits) (orders : t.orders = s.orders)
    (h : s.claimsAgree) : t.claimsAgree := by
  simpa only [State.claimsAgree, State.order, permits, orders] using h

/-- A permit rewritten under its number and with its claim, ACTIVE where it claims a CLAIMED order. -/
theorem State.claimsAgree_rewrite {s : State} {e : Fin 200} {q r : Permit} (h : s.claimsAgree)
    (hq : s.permits.get e = some q) (hn : r.number = q.number) (hc : r.claim = q.claim)
    (ha : ∀ slot o, q.claim = some slot → s.order slot = some o → o.state = .claimed → r.state = .active) :
    ({ s with permits := s.permits.set e (some r) } : State).claimsAgree := by
  obtain ⟨permitsDiffer, ordersDiffer, claimsNamed, ordersNamed⟩ := h
  have old : ∀ {f p}, (s.permits.set e (some r)).get f = some p →
      ∃ x, s.permits.get f = some x ∧ x.number = p.number ∧ x.claim = p.claim := by
    intro f p hp
    rw [Table.get_set] at hp
    split at hp
    · next hf =>
      cases hp
      exact ⟨q, hf ▸ hq, hn.symm, hc.symm⟩
    · exact ⟨p, hp, rfl, rfl⟩
  refine ⟨fun f g p x hp hx hpx => ?_, ordersDiffer, fun f p slot hp hslot => ?_, fun slot o ho => ?_⟩
  · obtain ⟨p', hp', hpn, -⟩ := old hp
    obtain ⟨x', hx', hxn, -⟩ := old hx
    exact permitsDiffer f g p' x' hp' hx' (hpn.trans (hpx.trans hxn.symm))
  · obtain ⟨p', hp', hpn, hpc⟩ := old hp
    rw [← hpn]
    exact claimsNamed f p' slot hp' (hpc.trans hslot)
  · obtain ⟨posted, claimed⟩ := ordersNamed slot o ho
    refine ⟨posted, fun hs => ?_⟩
    obtain ⟨htanker, htime, f, p, hp, hop, hslot, hactive⟩ := claimed hs
    by_cases hf : f = e
    · subst hf
      rw [hq] at hp
      cases hp
      exact ⟨htanker, htime, f, r, Table.get_set_self _ _ _, hop.trans (congrArg some hn.symm), hc.trans hslot,
        ha slot o hslot ho⟩
    · exact ⟨htanker, htime, f, p, (Table.get_set_ne _ _ hf).trans hp, hop, hslot, hactive⟩

/-- A permit created under a number that no entry holds. -/
theorem State.claimsAgree_create {s : State} {e : Fin 200} {r : Permit} (h : s.claimsAgree)
    (he : s.permits.get e = none) (hn : ∀ f p, s.permits.get f = some p → p.number ≠ r.number) (hc : r.claim = none) :
    ({ s with permits := s.permits.set e (some r) } : State).claimsAgree := by
  obtain ⟨permitsDiffer, ordersDiffer, claimsNamed, ordersNamed⟩ := h
  have old : ∀ {f p}, (s.permits.set e (some r)).get f = some p → (f = e ∧ p = r) ∨ s.permits.get f = some p := by
    intro f p hp
    rw [Table.get_set] at hp
    split at hp
    · next hf => exact .inl ⟨hf, (Option.some.inj hp).symm⟩
    · exact .inr hp
  refine ⟨fun f g p x hp hx hpx => ?_, ordersDiffer, fun f p slot hp hslot => ?_, fun slot o ho => ?_⟩
  · rcases old hp with ⟨rfl, rfl⟩ | hp' <;> rcases old hx with ⟨rfl, rfl⟩ | hx'
    · rfl
    · exact absurd hpx.symm (hn g x hx')
    · exact absurd hpx (hn f p hp')
    · exact permitsDiffer f g p x hp' hx' hpx
  · rcases old hp with ⟨rfl, rfl⟩ | hp
    · simp [hc] at hslot
    · exact claimsNamed f p slot hp hslot
  · obtain ⟨posted, claimed⟩ := ordersNamed slot o ho
    refine ⟨posted, fun hs => ?_⟩
    obtain ⟨htanker, htime, f, p, hp, rest⟩ := claimed hs
    have hf : f ≠ e := by rintro rfl; simp [he] at hp
    exact ⟨htanker, htime, f, p, (Table.get_set_ne _ _ hf).trans hp, rest⟩

/-- A permit without a claim deleted. -/
theorem State.claimsAgree_delete {s : State} {e : Fin 200} {q : Permit} (h : s.claimsAgree)
    (hq : s.permits.get e = some q) (hc : q.claim = none) :
    ({ s with permits := s.permits.set e none } : State).claimsAgree := by
  obtain ⟨permitsDiffer, ordersDiffer, claimsNamed, ordersNamed⟩ := h
  have old : ∀ {f p}, (s.permits.set e none).get f = some p → s.permits.get f = some p := by
    intro f p hp
    rw [Table.get_set] at hp
    split at hp
    · cases hp
    · exact hp
  refine ⟨fun f g p x hp hx => permitsDiffer f g p x (old hp) (old hx), ordersDiffer,
    fun f p slot hp => claimsNamed f p slot (old hp), fun slot o ho => ?_⟩
  obtain ⟨posted, claimed⟩ := ordersNamed slot o ho
  refine ⟨posted, fun hs => ?_⟩
  obtain ⟨htanker, htime, f, p, hp, hop, hslot, hactive⟩ := claimed hs
  have hf : f ≠ e := by
    rintro rfl
    rw [hq] at hp
    cases hp
    simp [hc] at hslot
  exact ⟨htanker, htime, f, p, (Table.get_set_ne _ _ hf).trans hp, hop, hslot, hactive⟩

/-- An order posted under a number that no slot holds. -/
theorem State.claimsAgree_post {s : State} {slot : Fin 24} {o : Order} (h : s.claimsAgree) (he : s.order slot = none)
    (hn : ∀ k p, s.order k = some p → p.number ≠ o.number) (hs : o.state = .posted)
    (hc : o.claimPermit = none ∧ o.claimTanker = none ∧ o.claimTime = none) : (s.setOrder slot (some o)).claimsAgree := by
  obtain ⟨permitsDiffer, ordersDiffer, claimsNamed, ordersNamed⟩ := h
  have old : ∀ {k p}, (s.setOrder slot (some o)).order k = some p → (k = slot ∧ p = o) ∨ s.order k = some p := by
    intro k p hp
    rw [State.order_setOrder] at hp
    split at hp
    · next hk => exact .inl ⟨hk, (Option.some.inj hp).symm⟩
    · exact .inr hp
  refine ⟨permitsDiffer, fun k j p x hp hx hpx => ?_, fun f p k hp hk => ?_, fun k p hp => ?_⟩
  · rcases old hp with ⟨rfl, rfl⟩ | hp' <;> rcases old hx with ⟨rfl, rfl⟩ | hx'
    · rfl
    · exact absurd hpx.symm (hn j x hx')
    · exact absurd hpx (hn k p hp')
    · exact ordersDiffer k j p x hp' hx' hpx
  · obtain ⟨r, hr, rest⟩ := claimsNamed f p k hp hk
    have hks : k ≠ slot := by rintro rfl; simp [he] at hr
    exact ⟨r, by rw [State.order_setOrder, if_neg hks, hr], rest⟩
  · rcases old hp with ⟨rfl, rfl⟩ | hp
    · exact ⟨fun _ => hc, fun hne => absurd hs hne⟩
    · exact ordersNamed k p hp

/-- An order claimed by an ACTIVE permit that has no claim. -/
theorem State.claimsAgree_bound {s : State} {e : Fin 200} {q : Permit} {slot : Fin 24} {o : Order} (h : s.claimsAgree)
    (hq : s.permits.get e = some q) (ho : s.order slot = some o) (hfree : q.claim = none) (hactive : q.state = .active)
    (hposted : o.state = .posted) (tanker : Nat) : (s.bound e q slot o tanker).claimsAgree := by
  obtain ⟨permitsDiffer, ordersDiffer, claimsNamed, ordersNamed⟩ := h
  have permit : ∀ f, (s.bound e q slot o tanker).permits.get f =
      if f = e then some { q with claim := some slot, lastPresented := some s.now } else s.permits.get f :=
    fun f => Table.get_set _ _ _ _
  have order : ∀ k, (s.bound e q slot o tanker).order k = if k = slot then some { o with
      state := .claimed, claimPermit := some q.number, claimTanker := some tanker, claimTime := some s.now,
      claimTimer := some 600000 } else s.order k :=
    fun k => Table.get_set _ _ _ _
  have oldPermit : ∀ {f p}, (s.bound e q slot o tanker).permits.get f = some p →
      ∃ x, s.permits.get f = some x ∧ x.number = p.number := by
    intro f p hp
    rw [permit] at hp
    split at hp
    · next hf => cases hp; exact ⟨q, hf ▸ hq, rfl⟩
    · exact ⟨p, hp, rfl⟩
  have oldOrder : ∀ {k p}, (s.bound e q slot o tanker).order k = some p →
      ∃ x, s.order k = some x ∧ x.number = p.number := by
    intro k p hp
    rw [order] at hp
    split at hp
    · next hk => cases hp; exact ⟨o, hk ▸ ho, rfl⟩
    · exact ⟨p, hp, rfl⟩
  refine ⟨fun f g p x hp hx hpx => ?_, fun k j p x hp hx hpx => ?_, fun f p k hp hk => ?_, fun k p hp => ?_⟩
  · obtain ⟨p', hp', hpn⟩ := oldPermit hp
    obtain ⟨x', hx', hxn⟩ := oldPermit hx
    exact permitsDiffer f g p' x' hp' hx' (hpn.trans (hpx.trans hxn.symm))
  · obtain ⟨p', hp', hpn⟩ := oldOrder hp
    obtain ⟨x', hx', hxn⟩ := oldOrder hx
    exact ordersDiffer k j p' x' hp' hx' (hpn.trans (hpx.trans hxn.symm))
  · rw [permit] at hp
    split at hp
    · cases hp
      cases hk
      exact ⟨_, by rw [order, if_pos rfl], by simp, rfl⟩
    · obtain ⟨r, hr, hstate, hclaim⟩ := claimsNamed f p k hp hk
      have hks : k ≠ slot := by
        rintro rfl
        rw [ho] at hr
        cases hr
        exact hstate hposted
      exact ⟨r, by rw [order, if_neg hks, hr], hstate, hclaim⟩
  · rw [order] at hp
    split at hp
    · next hk =>
      cases hp
      refine ⟨fun hs => by simp at hs, fun _ => ⟨by simp, by simp, e,
        { q with claim := some slot, lastPresented := some s.now }, by rw [permit, if_pos rfl], rfl, ?_⟩⟩
      exact ⟨congrArg some hk.symm, fun _ => hactive⟩
    · obtain ⟨posted, claimed⟩ := ordersNamed k p hp
      refine ⟨posted, fun hs => ?_⟩
      obtain ⟨htanker, htime, f, x, hx, hpx, hxk, hxa⟩ := claimed hs
      have hf : f ≠ e := by
        rintro rfl
        rw [hq] at hx
        cases hx
        simp [hfree] at hxk
      exact ⟨htanker, htime, f, x, by rw [permit, if_neg hf, hx], hpx, hxk, hxa⟩

end Sys2Proof.Machine
end

section
namespace Sys2Proof.Machine

/-! ### Claims withdrawn, permits barred (R10, R29, R30) -/

/-- Lines stay where they are while arms, orders and the save mark do. -/
theorem State.linesFollow_of {s t : State} (arms : t.arms = s.arms) (orders : t.orders = s.orders)
    (saved : t.bay.saved = s.bay.saved) : s.linesFollow t :=
  ⟨fun a => State.arm_congr arms a ▸ Arm.follows_refl _,
    fun k => State.order_congr orders k ▸ optionRel_refl Order.carries_refl _, saved⟩

theorem State.withdrawClaim_releases {s : State} {slot : Fin 24} {o : Order} (ho : s.order slot = some o) :
    s.releases (s.withdrawClaim slot) slot o (some o.unclaim) := by
  have made : s.withdrawClaim slot = (s.modifyOrder slot Order.unclaim).endClaim o.claimPermit := by
    simp only [State.withdrawClaim, ho]
  rw [made]
  refine ⟨ho, fun k => ?_, fun e => State.endClaim_get _ _ e⟩
  rw [State.order_congr (State.endClaim_orders _ _), State.order_modifyOrder]
  split
  · next hk => rw [hk, ho]; rfl
  · rfl

/-- A CLAIMED order has no line that follows it anywhere: its lines stay as they are when it is POSTED again. -/
theorem Order.carries_unclaim {o : Order} (hs : o.state = .claimed) : o.carries o.unclaim :=
  Order.carries_of rfl (fun h => by simp [hs] at h) id

theorem State.linesFollow_withdrawClaim {s : State} {slot : Fin 24} {o : Order} (ho : s.order slot = some o)
    (hs : o.state = .claimed) : s.linesFollow (s.withdrawClaim slot) := by
  simp only [State.withdrawClaim, ho]
  refine State.linesFollow.trans (State.linesFollow_modifyOrder fun p hp => ?_) (State.linesFollow_of rfl rfl rfl)
  rw [ho] at hp
  cases hp
  exact Order.carries_unclaim hs

theorem State.withdrawClaim_agree {s : State} {slot : Fin 24} {o : Order} (ho : s.order slot = some o)
    (h : s.claimsAgree) : (s.withdrawClaim slot).claimsAgree :=
  (State.withdrawClaim_releases ho).agree (fun p hp => by cases hp; exact ⟨rfl, rfl, rfl, rfl, rfl⟩) h

theorem State.withdrawClaim_ranged (s : State) (slot : Fin 24) (h : s.ranged) : (s.withdrawClaim slot).ranged := by
  unfold State.withdrawClaim
  split
  · exact h
  · exact h

theorem State.keeps_withdrawClaim {s : State} {slot : Fin 24} {o : Order} (ho : s.order slot = some o)
    (hs : o.state = .claimed) : s.keeps (s.withdrawClaim slot) :=
  ⟨(State.linesFollow_withdrawClaim ho hs).kept, State.withdrawClaim_agree ho, s.withdrawClaim_ranged slot⟩

/-- A permit rewritten under its number and with its claim, and barred: a claim on a CLAIMED order goes. -/
theorem State.keeps_bar {s : State} {e : Fin 200} {q r : Permit} (hq : s.permits.get e = some q)
    (hn : r.number = q.number) (hc : r.claim = q.claim) :
    s.keeps (({ s with permits := s.permits.set e (some r) } : State).barClaim q.claim) := by
  have written : s.linesFollow { s with permits := s.permits.set e (some r) } := State.linesFollow_of rfl rfl rfl
  unfold State.barClaim
  split
  · next hclaim => exact ⟨written.kept, fun h => State.claimsAgree_rewrite h hq hn hc (by simp [hclaim]), id⟩
  · next slot hclaim =>
    split
    · next o ho =>
      have ho : s.order slot = some o := ho
      split
      · next hs =>
        have withdrawn := State.keeps_withdrawClaim (s := { s with permits := s.permits.set e (some r) }) ho hs
        refine ⟨(State.steady_raise _ _ _).lines.kept ∘ withdrawn.lines ∘ written.kept, fun h => ?_,
          (State.steady_raise _ _ _).ranged ∘ withdrawn.ranged⟩
        obtain ⟨p, hp, -, hnum⟩ := h.2.2.1 e q slot hq hclaim
        rw [ho] at hp
        cases hp
        have rel := State.withdrawClaim_releases ho
        have released : (s.withdrawClaim slot).permits.get e = some { q with claim := none } := by
          rw [rel.permits, hq]
          simp [Permit.released, hnum]
        refine State.claimsAgree_congr (s := { s.withdrawClaim slot with
          permits := (s.withdrawClaim slot).permits.set e (some { r with claim := none }) }) ?_ ?_
          (State.claimsAgree_rewrite (State.withdrawClaim_agree ho h) released hn rfl fun _ _ hx => by cases hx)
        · apply Table.ext_get
          intro f
          have rel' := State.withdrawClaim_releases (s := { s with permits := s.permits.set e (some r) }) ho
          have both := rel'.permits f
          refine both.trans ?_
          by_cases hf : f = e
          · subst hf
            rw [Table.get_set_self, Table.get_set_self]
            simp [Permit.released, hnum, hn]
          · rw [Table.get_set_ne _ _ hf, Table.get_set_ne _ _ hf]
            exact (rel.permits f).symm
        · simp only [State.raise_orders, State.withdrawClaim, ho, show ({ s with
            permits := s.permits.set e (some r) } : State).order slot = some o from ho]
          rfl
      · next hs =>
        refine ⟨written.kept, fun h => State.claimsAgree_rewrite h hq hn hc fun k p hk hp hcl => ?_, id⟩
        rw [hclaim] at hk
        cases hk
        rw [ho] at hp
        cases hp
        exact absurd hcl hs
    · next hnone =>
      refine ⟨written.kept, fun h => State.claimsAgree_rewrite h hq hn hc fun k p hk hp => ?_, id⟩
      rw [hclaim] at hk
      cases hk
      have hnone : s.order slot = none := hnone
      rw [hnone] at hp
      cases hp

/-! ### The close of an order (R37) -/

theorem State.dropQueued_orders (s : State) (a : Fin 6) : (s.dropQueued a).orders = s.orders := by
  unfold State.dropQueued
  split <;> rfl

theorem State.dropQueuedOf_orders (s : State) (num : Nat) : (s.dropQueuedOf num).orders = s.orders := by
  refine State.forArms_keeps (P := fun t => t.orders = s.orders) rfl fun a t ht => ?_
  split
  · split
    · exact (t.dropQueued_orders a).trans ht
    · exact ht
  · exact ht

theorem State.compose_orders (s : State) (o : Order) (cause : CloseCause) : (s.compose o cause).orders = s.orders := by
  unfold State.compose
  split <;> rfl

/-- An order as the close takes it, its cause recorded and its timers stopped. -/
def Order.closed (o : Order) (cause : CloseCause) : Order :=
  { o with closeCause := some cause, claimTimer := none, idleTimer := none }

/-- The close before the slot is freed. -/
def State.closing (s : State) (o : Order) (cause : CloseCause) : State :=
  ((s.compose (o.closed cause) cause).endClaim o.claimPermit).dropQueuedOf o.number

theorem State.closeQuietly_eq {s : State} {slot : Fin 24} {o : Order} (ho : s.order slot = some o) (cause : CloseCause) :
    s.closeQuietly slot cause = (s.closing o cause).setOrder slot none := by
  simp only [State.closeQuietly, ho]
  rfl

/-- A claim that ends moves the permits alone. -/
theorem State.linesFollow_endClaim (s : State) (num : Option Nat) : s.linesFollow (s.endClaim num) :=
  State.linesFollow_of rfl rfl rfl

theorem State.endClaim_ranged (s : State) (num : Option Nat) (h : s.ranged) : (s.endClaim num).ranged := h

theorem State.closing_linesFollow (s : State) (o : Order) (cause : CloseCause) : s.linesFollow (s.closing o cause) := by
  unfold State.closing
  exact (State.linesFollow.trans (s.steady_compose _ cause).lines (State.linesFollow_endClaim _ _)).trans
    (State.steady_dropQueuedOf _ _).lines

theorem State.closing_ranged (s : State) (o : Order) (cause : CloseCause) (h : s.ranged) : (s.closing o cause).ranged := by
  unfold State.closing
  exact (State.steady_dropQueuedOf _ _).ranged (State.endClaim_ranged _ _ ((s.steady_compose _ cause).ranged h))

theorem State.closing_orders (s : State) (o : Order) (cause : CloseCause) : (s.closing o cause).orders = s.orders := by
  unfold State.closing
  rw [State.dropQueuedOf_orders, State.endClaim_orders, State.compose_orders]

theorem State.closing_permits (s : State) (o : Order) (cause : CloseCause) (e : Fin 200) :
    (s.closing o cause).permits.get e = (s.permits.get e).map (Permit.released o.claimPermit) := by
  unfold State.closing
  rw [(State.steady_dropQueuedOf _ _).claims.permits, State.endClaim_get, (s.steady_compose _ cause).claims.permits]

theorem State.closeQuietly_releases {s : State} {slot : Fin 24} {o : Order} (ho : s.order slot = some o)
    (cause : CloseCause) : s.releases (s.closeQuietly slot cause) slot o none := by
  rw [State.closeQuietly_eq ho]
  refine ⟨ho, fun k => ?_, fun e => ?_⟩
  · rw [State.order_setOrder, State.order_congr (s.closing_orders o cause)]
  · rw [State.setOrder_permits, s.closing_permits o cause e]

theorem State.setOrder_ranged {s : State} (slot : Fin 24) (x : Option Order) (h : s.ranged) : (s.setOrder slot x).ranged := h

/-- An unloaded order stays so. -/
theorem Order.carries.unloaded {o p : Order} (h : o.carries p) (ho : o.unloaded) : p.unloaded := by
  intro k m hm
  obtain ⟨l, hl, hf⟩ := optionRel_before (hm ▸ h.lines k)
  obtain ⟨hn, hw⟩ := ho k l hl
  rcases hf with ⟨hstate, hresult⟩ | ⟨-, hended⟩
  · exact ⟨(Line.isActive_congr hstate).trans hn, fun hm => hresult.trans (hw (hstate.symm.trans hm))⟩
  · exact ⟨by simp [Line.isActive, hended], fun hm => by simp [hended] at hm⟩

/-- A slot written over where its order was unloaded, with nothing or with an unloaded order. -/
theorem State.linesHeld.setOrder {s : State} {apart : Fin 6 → Prop} (h : s.linesHeld apart) {slot : Fin 24}
    {x : Option Order} (before : s.bay.saved = false → ∀ o, s.order slot = some o → o.unloaded)
    (after : ∀ o, x = some o → o.unloaded) : (s.setOrder slot x).linesHeld apart := by
  refine h.move (fun a => Arm.follows_refl _) rfl fun hs k => ?_
  rw [State.order_setOrder]
  split
  · next hk => exact .inr ⟨hk ▸ before hs, after⟩
  · exact .inl (optionRel_refl Order.carries_refl _)

theorem State.linesHeld.closeQuietly {s : State} {apart : Fin 6 → Prop} (h : s.linesHeld apart) {slot : Fin 24}
    (quiet : s.bay.saved = false → ∀ o, s.order slot = some o → o.unloaded) (cause : CloseCause) :
    (s.closeQuietly slot cause).linesHeld apart := by
  cases ho : s.order slot with
  | none => simpa only [State.closeQuietly, ho] using h
  | some o =>
    have follows := s.closing_linesFollow o cause
    rw [State.closeQuietly_eq ho]
    refine (follows.held h).setOrder (fun hs p hp => ?_) fun p hp => by cases hp
    obtain ⟨o', ho', hc⟩ := optionRel_before (hp ▸ follows.orders slot)
    exact hc.unloaded (quiet (follows.saved ▸ hs) o' ho')

theorem State.closeQuietly_agree {s : State} (slot : Fin 24) (cause : CloseCause) (h : s.claimsAgree) :
    (s.closeQuietly slot cause).claimsAgree := by
  cases ho : s.order slot with
  | none => simpa only [State.closeQuietly, ho] using h
  | some o => exact (State.closeQuietly_releases ho cause).agree_gone h

theorem State.closeQuietly_ranged {s : State} (slot : Fin 24) (cause : CloseCause) (h : s.ranged) :
    (s.closeQuietly slot cause).ranged := by
  cases ho : s.order slot with
  | none => simpa only [State.closeQuietly, ho] using h
  | some o =>
    rw [State.closeQuietly_eq ho]
    exact State.setOrder_ranged slot none (s.closing_ranged o cause h)

theorem State.steady_announceClose (s : State) (slot : Fin 24) : s.steady (s.announceClose slot) :=
  (s.steady_raise _ _).trans (State.steady_raise _ _ _)

theorem State.linesHeld.closeOrder {s : State} {apart : Fin 6 → Prop} (h : s.linesHeld apart) {slot : Fin 24}
    (quiet : s.bay.saved = false → ∀ o, s.order slot = some o → o.unloaded) (cause : CloseCause) :
    (s.closeOrder slot cause).linesHeld apart := by
  unfold State.closeOrder
  split
  · exact (State.steady_announceClose _ slot).lines.held (h.closeQuietly quiet cause)
  · exact h

theorem State.closeOrder_agree {s : State} (slot : Fin 24) (cause : CloseCause) (h : s.claimsAgree) :
    (s.closeOrder slot cause).claimsAgree := by
  unfold State.closeOrder
  split
  · exact (State.steady_announceClose _ slot).claims.agree (State.closeQuietly_agree slot cause h)
  · exact h

theorem State.closeOrder_ranged {s : State} (slot : Fin 24) (cause : CloseCause) (h : s.ranged) :
    (s.closeOrder slot cause).ranged := by
  unfold State.closeOrder
  split
  · exact (State.steady_announceClose _ slot).ranged (State.closeQuietly_ranged slot cause h)
  · exact h

theorem State.keeps_closeOrder {s : State} {slot : Fin 24}
    (quiet : s.linesKept → s.bay.saved = false → ∀ o, s.order slot = some o → o.unloaded) (cause : CloseCause) :
    s.keeps (s.closeOrder slot cause) where
  lines h := (State.linesHeld_iff _).mp (((State.linesHeld_iff s).mpr h).closeOrder (quiet h) cause)
  claims := State.closeOrder_agree slot cause
  ranged := State.closeOrder_ranged slot cause

/-! ### The judgement of an order at a line's passage to ENDED (R32) -/

theorem Order.noneActive_of_allEnded {o : Order} (h : o.lines.all Line.isEnded = true) :
    o.lines.any Line.isActive = false := by
  rw [List.any_eq_false]
  intro l hl
  have he : l.state = .ended := by simpa [Line.isEnded] using List.all_eq_true.mp h l hl
  simp [Line.isActive, he]

theorem State.linesHeld.judgeOrder {s : State} {apart : Fin 6 → Prop} (h : s.linesHeld apart) (slot : Fin 24) :
    (s.judgeOrder slot).linesHeld apart := by
  cases ho : s.order slot with
  | none => simpa only [State.judgeOrder, ho] using h
  | some o =>
    have quiet : o.lines.any Line.isActive = false → s.bay.saved = false → ∀ p, s.order slot = some p → p.unloaded := by
      intro hn hs p hp
      rw [ho] at hp
      cases hp
      exact h.unloaded hs ho (.inr (.inr hn))
    rcases State.judgeOrder_cases ho with ⟨he, -, e⟩ | ⟨he, -, e⟩ | ⟨-, hn, -, e⟩ | ⟨-, -, e⟩ <;> rw [e]
    · exact h.closeOrder (quiet (Order.noneActive_of_allEnded he)) _
    · exact h.closeOrder (quiet (Order.noneActive_of_allEnded he)) _
    · refine h.move (fun a => Arm.follows_refl _) rfl fun hs k => ?_
      rw [State.order_modifyOrder]
      split
      · next hk =>
        subst hk
        refine .inr ⟨quiet hn hs, fun p hp => ?_⟩
        rw [ho] at hp
        cases hp
        exact fun j l hl => h.unloaded hs ho (.inr (.inr hn)) j l hl
      · exact .inl (optionRel_refl Order.carries_refl _)
    · exact h

theorem State.judgeOrder_agree {s : State} (slot : Fin 24) (h : s.claimsAgree) : (s.judgeOrder slot).claimsAgree := by
  cases ho : s.order slot with
  | none => simpa only [State.judgeOrder, ho] using h
  | some o =>
    rcases State.judgeOrder_cases ho with ⟨-, -, e⟩ | ⟨-, -, e⟩ | ⟨-, -, -, e⟩ | ⟨-, -, e⟩ <;> rw [e]
    · exact State.closeOrder_agree slot _ h
    · exact State.closeOrder_agree slot _ h
    · exact (State.ledger_modifyOrder (f := fun x => { x with idleTimer := some Config.idleTimeout })
        fun p _ => ⟨rfl, rfl, rfl, rfl, Iff.rfl, id⟩).claims.agree h
    · exact h

theorem State.judgeOrder_ranged {s : State} (slot : Fin 24) (h : s.ranged) : (s.judgeOrder slot).ranged := by
  cases ho : s.order slot with
  | none => simpa only [State.judgeOrder, ho] using h
  | some o =>
    rcases State.judgeOrder_cases ho with ⟨-, -, e⟩ | ⟨-, -, e⟩ | ⟨-, -, -, e⟩ | ⟨-, -, e⟩ <;> rw [e]
    · exact State.closeOrder_ranged slot _ h
    · exact State.closeOrder_ranged slot _ h
    · exact h
    · exact h

end Sys2Proof.Machine
end

section
/-!
The requests of the permit table and of the order table keep lines and arms, permits and claims, and the ranges.
-/

namespace Sys2Proof.Machine

/-! ### Requests and their checks -/

/-- A request that acts where none of its checks fails. -/
theorem State.keeps_checked {s : State} {checks : List (Bool × ReplyCode)} {act : Answer}
    (h : (∀ c ∈ checks, c.1 = false) → s.keeps act.1) : s.keeps (s.checked checks act).1 := by
  unfold State.checked
  split
  · exact s.keeps_refl
  · next hc => exact h fun c hm => by simpa using List.find?_eq_none.mp hc c hm

/-- What is found under a permit's number is held. -/
theorem State.permit_of_found {s : State} {num : Nat} {e : Fin 200} {q : Permit}
    (h : (s.findPermit num).bind (fun e => (s.permits.get e).map (fun p => (e, p))) = some (e, q)) :
    s.permits.get e = some q := by
  obtain ⟨f, -, hp⟩ := Option.bind_eq_some_iff.mp h
  obtain ⟨p, hp, heq⟩ := Option.map_eq_some_iff.mp hp
  cases heq
  exact hp

/-- What is found under an order's number is held. -/
theorem State.order_of_found {s : State} {num : Nat} {k : Fin 24} {o : Order}
    (h : (s.findOrder num).bind (fun k => (s.order k).map (fun o => (k, o))) = some (k, o)) : s.order k = some o := by
  obtain ⟨f, -, hp⟩ := Option.bind_eq_some_iff.mp h
  obtain ⟨p, hp, heq⟩ := Option.map_eq_some_iff.mp hp
  cases heq
  exact hp

theorem State.findPermit_some {s : State} {num : Nat} {e : Fin 200} (h : s.findPermit num = some e) :
    ∃ p, s.permits.get e = some p ∧ p.number = num := by
  obtain ⟨he, -⟩ := (Table.find?_eq_some _ _ _).mp h
  split at he
  · next p hp => exact ⟨p, hp, by simpa using he⟩
  · cases he

/-- Where nothing is found under a number, no entry holds it. -/
theorem State.permit_absent {s : State} {num : Nat}
    (h : (s.findPermit num).bind (fun e => (s.permits.get e).map (fun p => (e, p))) = none) :
    ∀ f p, s.permits.get f = some p → p.number ≠ num := by
  cases hf : s.findPermit num with
  | some e =>
    obtain ⟨p, hp, -⟩ := State.findPermit_some hf
    simp [hf, hp] at h
  | none =>
    intro f p hp
    simpa [hp] using (Table.find?_eq_none _ _).mp hf f

theorem State.order_absent {s : State} {num : Nat} (h : s.findOrder num = none) :
    ∀ k o, s.order k = some o → o.number ≠ num := by
  intro k o ho
  have ho : s.orders.get k = some o := ho
  simpa [ho] using (Table.find?_eq_none _ _).mp h k

/-! ### The permit table (01) -/

/-- A change to the permits alone leaves the lines where they are. -/
theorem State.keeps_permits {s : State} {permits : Table 200 (Option Permit)}
    (h : s.claimsAgree → ({ s with permits := permits } : State).claimsAgree) :
    s.keeps { s with permits := permits } where
  lines := (State.linesFollow_of (t := { s with permits := permits }) rfl rfl rfl).kept
  claims := h
  ranged := id

theorem keeps_replacePermit {s : State} {e : Fin 200} {q : Permit} (hq : s.permits.get e = some q) (carrier : Nat)
    (classes : BitVec 8) (expiry : Nat) (st : PermitState) : s.keeps (replacePermit e q carrier classes expiry st s).1 := by
  rw [replacePermit_eq hq]
  refine State.keeps_checked fun _ => ?_
  dsimp only [State.ok]
  split
  · exact State.keeps_bar hq rfl rfl
  · next hbar =>
    refine State.keeps_permits fun h => State.claimsAgree_rewrite h hq rfl rfl fun slot o hs ho hc => ?_
    obtain ⟨o', ho', -, hclaim⟩ := h.2.2.1 e q slot hq hs
    rw [ho] at ho'
    cases ho'
    obtain ⟨-, -, f, p, hp, hop, -, hactive⟩ := (h.2.2.2 slot o ho).2 (by simp [hc])
    obtain rfl : e = f := h.1 e f q p hq hp (Option.some.inj (hclaim.symm.trans hop))
    rw [hq] at hp
    cases hp
    cases st
    · rfl
    · exact absurd ⟨hactive hc, rfl⟩ hbar

theorem keeps_createPermit {s : State} {num : Nat} (hn : ∀ f p, s.permits.get f = some p → p.number ≠ num) (carrier : Nat)
    (classes : BitVec 8) (expiry : Nat) (st : PermitState) : s.keeps (createPermit num carrier classes expiry st s).1 := by
  unfold createPermit
  split
  · exact s.keeps_refl
  · next e he =>
    have hfree : s.permits.get e = none := by simpa using ((Table.find?_eq_some _ _ _).mp he).1
    exact State.keeps_permits fun h => State.claimsAgree_create h hfree hn rfl

theorem keeps_writePermit (num carrier : Nat) (classes : BitVec 8) (expiry state : Nat) (s : State) :
    s.keeps (Machine.writePermit num carrier classes expiry state s).1 := by
  unfold Machine.writePermit
  split
  · exact s.keeps_refl
  · refine State.keeps_checked fun _ => ?_
    split
    · next e q hf => exact keeps_replacePermit (State.permit_of_found hf) _ _ _ _
    · next hf => exact keeps_createPermit (State.permit_absent hf) _ _ _ _

theorem keeps_barPermit (num : Nat) (s : State) : s.keeps (Machine.barPermit num s).1 := by
  unfold Machine.barPermit
  split
  · exact s.keeps_refl
  · next e q hf =>
    split
    · rw [State.modifyPermit_eq (State.permit_of_found hf)]
      exact State.keeps_bar (State.permit_of_found hf) rfl rfl
    · exact s.keeps_refl

theorem keeps_deletePermit (num : Nat) (s : State) : s.keeps (Machine.deletePermit num s).1 := by
  unfold Machine.deletePermit
  split
  · exact s.keeps_refl
  · next e q hf =>
    refine State.keeps_checked fun passed => ?_
    have hc : q.claim = none := by simpa using passed (q.claim.isSome, .inUse) (by simp)
    exact State.keeps_permits fun h => State.claimsAgree_delete h (State.permit_of_found hf) hc

/-! ### Posting, amending and claiming (02) -/

theorem newLines_unloaded {o : Order} {lines : List LineSpec} (h : o.lines = lines.map newLine) : o.unloaded := by
  intro k l hl
  unfold Order.line? at hl
  split at hl
  · cases hl
  · rw [h, List.getElem?_map] at hl
    obtain ⟨x, -, rfl⟩ := Option.map_eq_some_iff.mp hl
    exact ⟨rfl, fun _ => rfl⟩

/-- An order written over one without lines on arms, its own lines new or as unloaded. -/
theorem State.keeps_setOrder {s : State} {k : Fin 24} {x : Option Order}
    (before : s.linesKept → s.bay.saved = false → ∀ o, s.order k = some o → o.unloaded)
    (after : ∀ o, x = some o → o.unloaded) (claims : s.claimsAgree → (s.setOrder k x).claimsAgree) :
    s.keeps (s.setOrder k x) where
  lines h := (State.linesHeld_iff _).mp (((State.linesHeld_iff s).mpr h).setOrder (before h) after)
  claims := claims
  ranged := State.setOrder_ranged k x

/-- An order that is neither LOADING nor CLOSING has no line on an arm. -/
theorem State.unloaded_of_state {s : State} {k : Fin 24} {o : Order} (ho : s.order k = some o)
    (hs : ¬ (o.state = .loading ∨ o.state = .closing)) (h : s.linesKept) (saved : s.bay.saved = false) :
    ∀ p, s.order k = some p → p.unloaded := by
  intro p hp
  rw [ho] at hp
  cases hp
  exact ((State.linesHeld_iff s).mpr h).unloaded saved ho (.inl hs)

theorem keeps_postOrder (num permit carrier tanker : Nat) (lines : List LineSpec) (s : State) :
    s.keeps (Machine.postOrder num permit carrier tanker lines s).1 := by
  unfold Machine.postOrder
  refine State.keeps_checked fun passed => ?_
  split
  · next slot hslot =>
    have hfree : s.order slot = none := Option.isNone_iff_eq_none.mp ((Table.find?_eq_some _ _ _).mp hslot).1
    have hnew : s.findOrder num = none := by simpa using passed ((s.findOrder num).isSome, .inUse) (by simp)
    refine State.keeps_setOrder (fun _ _ o ho => by simp [hfree] at ho) (fun o ho => ?_)
      fun h => State.claimsAgree_post h hfree (State.order_absent hnew) rfl ⟨rfl, rfl, rfl⟩
    cases ho
    exact newLines_unloaded rfl
  · exact s.keeps_refl

/-- An order rewritten with its number, its claim and its standing. -/
theorem State.ledger_setOrder {s : State} {k : Fin 24} {o p : Order} (ho : s.order k = some o) (h : o.claimedAs p) :
    s.ledger (s.setOrder k (some p)) where
  claims := by
    refine ⟨rfl, fun j => ?_⟩
    rw [State.order_setOrder]
    split
    · next hj =>
      rw [hj, ho]
      exact .some h
    · exact optionRel_refl Order.claimedAs_refl _
  ranged := State.setOrder_ranged k _

theorem keeps_amendOrder (num permit tanker : Nat) (lines : List LineSpec) (s : State) :
    s.keeps (Machine.amendOrder num permit tanker lines s).1 := by
  unfold Machine.amendOrder
  split
  · exact s.keeps_refl
  · next slot o hf =>
    have ho := State.order_of_found hf
    refine State.keeps_checked fun passed => ?_
    have hposted : o.state = .posted := by simpa using passed (o.state != .posted, .inUse) (by simp)
    refine State.keeps.trans (State.keeps_setOrder (State.unloaded_of_state ho (by simp [hposted])) (fun p hp => ?_) ?_)
      (State.steady_dropQueuedOf _ num).keeps
    · cases hp
      exact newLines_unloaded rfl
    · exact (State.ledger_setOrder (p := { o with permit := permit, tanker := tanker, lines := lines.map newLine }) ho
        ⟨rfl, rfl, rfl, rfl, Iff.rfl, id⟩).claims.agree

/-- A claim leaves lines where they are: a POSTED order has none on an arm. -/
theorem State.linesFollow_bound {s : State} {slot : Fin 24} {o : Order} (ho : s.order slot = some o)
    (hs : o.state = .posted) (e : Fin 200) (q : Permit) (tanker : Nat) : s.linesFollow (s.bound e q slot o tanker) := by
  refine ⟨fun a => Arm.follows_refl _, fun k => ?_, rfl⟩
  have order : (s.bound e q slot o tanker).order k = if k = slot then some { o with
      state := .claimed, claimPermit := some q.number, claimTanker := some tanker, claimTime := some s.now,
      claimTimer := some 600000 } else s.order k := Table.get_set _ _ _ _
  rw [order]
  split
  · next hk =>
    rw [hk, ho]
    exact .some (Order.carries_of rfl (fun h => by simp [hs] at h) id)
  · exact optionRel_refl Order.carries_refl _

theorem State.steady_nearFull (s : State) : s.steady s.nearFull := by
  unfold State.nearFull
  split
  · exact s.steady_raise _ _
  · exact s.steady_refl

theorem keeps_presentPermit (num tanker order : Nat) (s : State) : s.keeps (Machine.presentPermit num tanker order s).1 := by
  unfold Machine.presentPermit
  split
  · exact s.keeps_refl
  · split
    · next e q slot o hq ho =>
      have hq := State.permit_of_found hq
      have ho := State.order_of_found ho
      refine State.keeps_checked fun passed => ?_
      have hactive : q.state = .active := by
        have := passed (q.state == .barred, .permitBarred) (by simp)
        cases h : q.state <;> simp_all
      have hposted : o.state = .posted := by simpa using passed (o.state != .posted, .wrongState) (by simp)
      have hfree : q.claim = none := by simpa using passed (q.claim.isSome, .inUse) (by simp)
      dsimp only [State.ok]
      rw [State.claimOrder_eq hq ho tanker]
      refine State.keeps.trans ⟨(State.linesFollow_bound ho hposted e q tanker).kept, fun h => ?_, id⟩
        (State.steady_nearFull _).keeps
      exact State.claimsAgree_bound h hq ho hfree hactive hposted tanker
    · exact s.keeps_refl

theorem keeps_releaseClaim (order : Nat) (s : State) : s.keeps (Machine.releaseClaim order s).1 := by
  unfold Machine.releaseClaim
  split
  · exact s.keeps_refl
  · next slot o hf =>
    refine State.keeps_checked fun passed => ?_
    have hs : o.state = .claimed := by simpa using passed (o.state != .claimed, .wrongState) (by simp)
    exact State.keeps_withdrawClaim (State.order_of_found hf) hs

theorem State.keeps_claimTimeout (s : State) (slot : Fin 24) : s.keeps (match s.order slot with
    | some o =>
      if o.state = .claimed ∧ o.claimTimer.isSome then (s.withdrawClaim slot).raise .claimExpired (number slot) else s
    | none => s) := by
  split
  · next o ho =>
    split
    · next hs => exact (State.keeps_withdrawClaim ho hs.1).trans (State.steady_raise _ _ _).keeps
    · exact s.keeps_refl
  · exact s.keeps_refl

/-! ### Orders that close without an ACTIVE line (R33, R34, R35, R36) -/

theorem Order.noneActive_endWaiting {o : Order} (h : o.lines.any Line.isActive = false) :
    o.endWaiting.lines.any Line.isActive = false := by
  rw [List.any_eq_false] at h ⊢
  intro m hm
  obtain ⟨l, hl, rfl⟩ := List.mem_map.mp hm
  unfold Line.neverStarted
  split
  · simp [Line.isActive]
  · exact h l hl

/-- The close of an order whose lines all lie still, those WAITING ended first. -/
theorem State.keeps_closeIdle {s : State} {slot : Fin 24} {o : Order} (ho : s.order slot = some o)
    (hq : o.idleTimer ≠ none ∨ o.lines.any Line.isActive = false) (cause : CloseCause) :
    s.keeps ((s.modifyOrder slot Order.endWaiting).closeOrder slot cause) := by
  refine (s.steady_endWaiting slot).keeps.trans (State.keeps_closeOrder (fun h saved p hp => ?_) cause)
  refine ((State.linesHeld_iff _).mpr h).unloaded saved hp (.inr ?_)
  rw [State.order_modifyOrder, if_pos rfl, ho] at hp
  cases hp
  exact hq.imp_right Order.noneActive_endWaiting

theorem keeps_finishOrder (order : Nat) (s : State) : s.keeps (Machine.finishOrder order s).1 := by
  unfold Machine.finishOrder
  split
  · exact s.keeps_refl
  · next slot o hf =>
    refine State.keeps_checked fun passed => ?_
    exact State.keeps_closeIdle (State.order_of_found hf) (.inr (passed (o.lines.any Line.isActive, .armBusy) (by simp))) _

theorem State.keeps_idleOrderTimeout (s : State) (slot : Fin 24) : s.keeps (match s.order slot with
    | some o =>
      if o.state = .loading ∧ o.idleTimer.isSome then (s.modifyOrder slot Order.endWaiting).closeOrder slot .timedOut
      else s
    | none => s) := by
  split
  · next o ho =>
    split
    · next hs => exact State.keeps_closeIdle ho (.inl (Option.isSome_iff_ne_none.mp hs.2)) _
    · exact s.keeps_refl
  · exact s.keeps_refl

/-- A POSTED or CLAIMED order leaves its slot, its claim ended on both sides. -/
theorem State.keeps_withdrawOrder {s : State} {slot : Fin 24} {o : Order} (ho : s.order slot = some o)
    (hs : ¬ (o.state = .loading ∨ o.state = .closing)) : s.keeps ((s.endClaim o.claimPermit).setOrder slot none) where
  lines h := (State.linesHeld_iff _).mp (((s.linesFollow_endClaim o.claimPermit).held ((State.linesHeld_iff s).mpr h)).setOrder
    (fun saved => State.unloaded_of_state ho hs h saved) fun p hp => by cases hp)
  claims := State.releases.agree_gone (s := s) (slot := slot) (o := o)
    ⟨ho, fun k => State.order_setOrder _ _ _ _, fun e => State.endClaim_get _ _ e⟩
  ranged := id

/-- Ending no claim changes nothing. -/
theorem State.endClaim_none (s : State) : s.endClaim none = s := by
  have same : s.permits.map (Option.map (fun p => if none = some p.number then { p with claim := none } else p)) =
      s.permits := by
    apply Table.ext_get
    intro e
    rw [Table.get_map]
    cases s.permits.get e <;> simp
  simp only [State.endClaim, same]

theorem State.keeps_withdrawPosted {s : State} {slot : Fin 24} {o : Order} (ho : s.order slot = some o)
    (hs : o.state = .posted) : s.keeps (s.setOrder slot none) where
  lines h := (State.linesHeld_iff _).mp (((State.linesHeld_iff s).mpr h).setOrder
    (State.unloaded_of_state ho (by simp [hs]) h) fun p hp => by cases hp)
  claims h := by
    have hclaim : o.claimPermit = none := ((h.2.2.2 slot o ho).1 hs).1
    have gone := (State.keeps_withdrawOrder ho (by simp [hs])).claims h
    rwa [hclaim, State.endClaim_none] at gone
  ranged := State.setOrder_ranged slot none

end Sys2Proof.Machine
end

section
/-!
The reads, and the requests on set-ups, holds, the calibration store, the journal and the notices.
-/

namespace Sys2Proof.Machine

/-! ### Requests that leave lines and claims standing -/

/-- A steady request: that it acts, where no check fails. -/
theorem State.steady_checked {s : State} {checks : List (Bool × ReplyCode)} {act : Answer}
    (h : (∀ c ∈ checks, c.1 = false) → s.steady act.1) : s.steady (s.checked checks act).1 := by
  unfold State.checked
  split
  · exact s.steady_refl
  · next hc => exact h fun c hm => by simpa using List.find?_eq_none.mp hc c hm

theorem State.steady_setClock (day second : Nat) (s : State) : s.steady (setClock day second s).1 := by
  refine State.steady_checked fun passed => State.steady_of rfl rfl rfl rfl fun ⟨_, store, probes⟩ => ⟨?_, store, probes⟩
  have := passed (decide (86399 < second) || decide (65535 < day), .badField) (by simp)
  simp only [Bool.or_eq_false_iff, decide_eq_false_iff_not] at this
  simp only [State.clockKept, State.ok]
  omega

theorem State.steady_clockAdvance (s : State) : s.steady { s with clock := s.clock.advance } := by
  refine State.steady_of rfl rfl rfl rfl fun ⟨⟨day, second⟩, store, probes⟩ => ⟨?_, store, probes⟩
  simp only [State.clockKept, Clock.advance]
  split
  · next hs => exact ⟨day, Nat.succ_le_of_lt hs⟩
  · dsimp only
    split <;> omega

theorem State.steady_writeProduct (slot nameLength : Nat) (name : List Byte) (cls coefA coefB : Nat) (s : State) :
    s.steady (writeProduct slot nameLength name cls coefA coefB s).1 := by
  unfold writeProduct
  split
  · exact s.steady_refl
  · exact State.steady_checked fun _ => State.steady_of rfl rfl rfl rfl id

theorem State.steady_writeRecipe (slot additive rate tolerance : Nat) (s : State) :
    s.steady (writeRecipe slot additive rate tolerance s).1 := by
  unfold writeRecipe
  split
  · exact s.steady_refl
  · exact State.steady_checked fun _ => State.steady_of rfl rfl rfl rfl id

theorem State.steady_writeArmSetup (arm product lowStart restart topOff overrunLimit : Nat) (s : State) :
    s.steady (writeArmSetup arm product lowStart restart topOff overrunLimit s).1 := by
  unfold writeArmSetup
  split
  · exact s.steady_refl
  · exact State.steady_checked fun _ => s.steady_modifyArm _

/-! ### Injectors (07) -/

theorem State.steady_assignInjector (arm position injector : Nat) (s : State) :
    s.steady (assignInjector arm position injector s).1 := by
  unfold assignInjector
  split
  · exact State.steady_checked fun _ => (State.steady_modifyInjector _ _ _).after (s.steady_setPosition _ _ _)
  · exact s.steady_refl

theorem State.steady_removeInjector (arm position : Nat) (s : State) : s.steady (removeInjector arm position s).1 := by
  unfold removeInjector
  split
  · refine State.steady_checked fun _ => ?_
    split
    · exact (State.steady_modifyInjector _ _ _).after (s.steady_setPosition _ _ _)
    · exact s.steady_refl
  · exact s.steady_refl

theorem State.steady_assignStandby (primary standby : Nat) (s : State) : s.steady (assignStandby primary standby s).1 := by
  unfold assignStandby
  split
  · exact State.steady_checked fun _ => s.steady_modifyInjector _ _
  · exact s.steady_refl

theorem State.steady_releaseStandby (injector : Nat) (s : State) : s.steady (releaseStandby injector s).1 := by
  unfold releaseStandby
  split
  · exact s.steady_refl
  · split
    · exact s.steady_modifyInjector _ _
    · exact s.steady_refl
    · exact s.steady_refl

theorem State.steady_returnInjector (injector : Nat) (s : State) : s.steady (returnInjector injector s).1 := by
  unfold returnInjector
  split
  · exact s.steady_refl
  · exact State.steady_checked fun _ => s.steady_modifyInjectorStore _ _

/-! ### Holds and arms (05, 06) -/

theorem State.steady_holdRequest (c : HoldCause) (arm : Nat) (s : State) : s.steady (holdRequest c arm s).1 := by
  unfold holdRequest
  split
  · exact s.steady_refl
  · exact State.steady_checked fun _ => s.steady_raiseHold _ c

theorem State.steady_releaseArm (arm : Nat) (s : State) : s.steady (releaseArm arm s).1 := by
  unfold releaseArm
  split
  · exact s.steady_refl
  · exact State.steady_checked fun _ => s.steady_clearHold _ _

/-- A SUSPENDED arm whose set holds no cause beside OPERATOR, NO_FLOW and PULSE resumes with an empty set (R109). -/
theorem Arm.follows_resume {x : Arm} (hs : x.state = .suspended) (hh : x.holds.blocksResume = false) :
    x.follows x.resume := by
  have clear : x.resume.holds = HoldSet.clear := by
    simp only [HoldSet.blocksResume, Bool.or_eq_false_iff] at hh
    simp [Arm.resume, HoldSet.put, HoldSet.clear, hh]
  have state : x.resume.state = .lowStart := rfl
  refine ⟨rfl, fun ⟨active, reason, _⟩ => ⟨?_, ?_, fun h => absurd clear h⟩, ?_⟩
  · simpa [state, hs, Arm.resume] using active
  · simpa [state, hs, Arm.resume] using reason
  · simp [Arm.closesLine, state, hs]

theorem State.steady_resumeArm (arm : Nat) (s : State) : s.steady (resumeArm arm s).1 := by
  unfold resumeArm
  split
  · exact s.steady_refl
  · next a _ =>
    refine State.steady_checked fun passed => (State.steady_restartDeadman _).after (s.steady_modifyArm a ?_)
    have hs : (s.arm a).state = .suspended := by simpa using passed ((s.arm a).state != .suspended, .wrongState) (by simp)
    exact Arm.follows_resume hs (passed ((s.arm a).holds.blocksResume, .held) (by simp))

theorem State.steady_clearLockout (arm : Nat) (s : State) : s.steady (clearLockout arm s).1 := by
  unfold clearLockout
  split
  · exact s.steady_refl
  · next a _ =>
    refine State.steady_checked fun passed => s.steady_modifyArm a ?_
    have hs : (s.arm a).state = .locked := by
      have := passed ((s.arm a).state != .locked || decide ((s.arm a).zeroRun < 10), .wrongState) (by simp)
      simp only [Bool.or_eq_false_iff] at this
      simpa using this.1
    refine ⟨rfl, fun ⟨active, reason, holds⟩ => ⟨?_, ?_, fun h => ?_⟩, by simp [Arm.closesLine, hs]⟩
    · simpa [hs] using active
    · simpa [hs] using reason
    · simpa [hs] using holds h

/-! ### The calibration store (08) -/

theorem State.steady_calibrated {s : State} (h : s.store.counter < 65535) : s.steady s.calibrated.1 := by
  refine State.steady_of rfl rfl rfl rfl fun ⟨clock, ⟨_, meters⟩, probes⟩ => ⟨clock, ⟨?_, meters⟩, probes⟩
  show s.store.counter + 1 ≤ 65535
  omega

theorem State.steady_refused (s : State) (checks : List (Bool × ReplyCode)) (c : ReplyCode) :
    s.steady (s.checked checks (s.refuse c)).1 := State.steady_checked fun _ => s.steady_refl

/-- The counter is below its top where the checks of WRITE CALIBRATION pass. -/
theorem State.counter_of_open {s : State} {more : List (Bool × ReplyCode)}
    (passed : ∀ c ∈ s.calibrationClosed ++ more, c.1 = false) : s.store.counter < 65535 := by
  have := passed (decide (65535 ≤ s.store.counter), .counterFull) (by simp [State.calibrationClosed])
  simpa using this

theorem State.steady_writeMeterItem (arm : Nat) (bad : Bool) {write : MeterStore → MeterStore}
    (h : ∀ m : MeterStore, m.inRange → (write m).inRange) (s : State) : s.steady (writeMeterItem arm bad write s).1 := by
  unfold writeMeterItem
  split
  · exact s.steady_refused _ _
  · next a _ =>
    refine State.steady_checked fun passed => State.steady.trans (s.steady_modifyMeterStore a
      (f := fun m => { write m with pendingTrial := none }) fun m hm => h m hm) (State.steady_calibrated ?_)
    exact State.counter_of_open passed

theorem State.steady_writeInjectorItem (injector additive shotSize kf : Nat) (s : State) :
    s.steady (writeInjectorItem injector additive shotSize kf s).1 := by
  unfold writeInjectorItem
  split
  · exact s.steady_refused _ _
  · exact State.steady_checked fun passed =>
      (s.steady_modifyInjectorStore _ _).trans (State.steady_calibrated (State.counter_of_open passed))

/-- A pending trial factor is no part of a meter's ranges. -/
theorem State.ranged_discardTrials {s : State} (h : s.ranged) : s.discardTrials.ranged := by
  obtain ⟨clock, ⟨counter, meters⟩, probes⟩ := h
  refine ⟨clock, ⟨counter, fun a => ?_⟩, probes⟩
  have same : s.discardTrials.store.meters.get a = { s.store.meters.get a with pendingTrial := none } := Table.get_map _ _ _
  rw [same]
  exact meters a

theorem State.steady_discardTrials (s : State) : s.steady s.discardTrials :=
  State.steady_of rfl rfl rfl rfl State.ranged_discardTrials

theorem State.steady_setSeal (level : Nat) (s : State) : s.steady (setSeal level s).1 := by
  unfold setSeal
  split
  · exact s.steady_refl
  · next l _ =>
    refine State.steady_checked fun _ => ?_
    have sealed : s.steady { s with store := { s.store with sealLevel := l } } := State.steady_of rfl rfl rfl rfl id
    simp only [State.ok, State.raiseSeal]
    split
    · exact sealed.trans (State.steady_discardTrials _)
    · exact sealed

theorem State.steady_writeTrialFactor (arm factor : Nat) (s : State) : s.steady (writeTrialFactor arm factor s).1 := by
  refine State.steady_checked fun _ => ?_
  split
  · exact s.steady_modifyMeterStore _ fun _ h => h
  · exact s.steady_refl

/-! ### Statistics, journal and notices (03, 09, 10) -/

theorem State.steady_foldl {α : Type} {f : State → α → State} (h : ∀ (t : State) x, t.steady (f t x)) :
    ∀ (l : List α) (s : State), s.steady (l.foldl f s)
  | [], s => s.steady_refl
  | x :: l, s => (h s x).trans (State.steady_foldl h l (f s x))

theorem State.steady_readAndClearStatistics (arm : Nat) (s : State) : s.steady (readAndClearStatistics arm s).1 := by
  unfold readAndClearStatistics
  split
  · exact s.steady_refl
  · exact State.steady_foldl (fun t a => t.steady_modifyDecoder a _) _ s

theorem State.steady_collectNote (seq : Nat) (s : State) : s.steady (collectNote seq s).1 := by
  refine State.steady_checked fun _ => ?_
  split
  · exact s.steady_setSlots _
  · exact s.steady_refl

theorem State.steady_markPrinted (seq : Nat) (s : State) : s.steady (markPrinted seq s).1 := by
  refine State.steady_checked fun _ => ?_
  split
  · exact s.steady_setSlots _
  · exact s.steady_refl

theorem State.steady_fetchNotice (p : PortId) (s : State) : s.steady (fetchNotice p s).1 := by
  unfold fetchNotice
  dsimp only
  split
  · exact s.steady_refl
  · dsimp only [State.ok]
    exact s.steady_modifyPort p _

theorem State.steady_noticeDone (p : PortId) (s : State) : s.steady (noticeDone p s).1 := by
  unfold noticeDone
  split
  · exact s.steady_refl
  · dsimp only [State.ok]
    exact s.steady_modifyPort p _

theorem State.steady_setNoticeLevels (p : PortId) (designator safety batch dosing record : Nat) (enables : BitVec 16)
    (s : State) : s.steady (setNoticeLevels p designator safety batch dosing record enables s).1 :=
  State.steady_checked fun _ => by
    dsimp only [State.ok]
    exact s.steady_modifyPort p _

/-! ### The reads -/

theorem State.steady_readPermit (num : Nat) (s : State) : s.steady (readPermit num s).1 := by
  unfold readPermit
  split <;> exact s.steady_refl

theorem State.steady_readOrder (num slot part : Nat) (s : State) : s.steady (readOrder num slot part s).1 := by
  unfold readOrder
  dsimp only
  split
  · exact s.steady_refl
  · split
    · exact s.steady_refl
    · split
      · exact s.steady_refl
      · split <;> exact s.steady_refl

theorem State.steady_readArm (arm : Nat) (s : State) : s.steady (readArm arm s).1 := by
  unfold readArm
  split <;> exact s.steady_refl

theorem State.steady_readInjector (injector : Nat) (s : State) : s.steady (readInjector injector s).1 := by
  unfold readInjector
  split <;> exact s.steady_refl

theorem State.steady_readNote (seq part : Nat) (s : State) : s.steady (readNote seq part s).1 := by
  refine State.steady_checked fun _ => ?_
  split
  · split
    · exact s.steady_refl
    · split <;> exact s.steady_refl
  · exact s.steady_refl

theorem State.steady_readTotals (part : Nat) (s : State) : s.steady (readTotals part s).1 := by
  unfold readTotals
  split
  · exact s.steady_refl
  · split <;> exact s.steady_refl

theorem State.steady_readStatistics (arm : Nat) (s : State) : s.steady (readStatistics arm s).1 := by
  unfold readStatistics
  split <;> exact s.steady_refl

end Sys2Proof.Machine
end

section
/-!
Lines start, end and close on their arms: each of these operations keeps lines and arms in agreement, an arm apart from the
others while the operation runs (`State.linesHeld`).
-/

namespace Sys2Proof.Machine

/-! ### One line of one order changes -/

/-- From `s` to `t` permits, claims and ranges are kept. -/
structure State.accounts (s t : State) : Prop where
  claims : s.claimsAgree → t.claimsAgree
  ranged : s.ranged → t.ranged

theorem State.accounts_refl (s : State) : s.accounts s := ⟨id, id⟩

theorem State.accounts.trans {s t u : State} (h : s.accounts t) (g : t.accounts u) : s.accounts u :=
  ⟨g.claims ∘ h.claims, g.ranged ∘ h.ranged⟩

theorem State.ledger.accounts {s t : State} (h : s.ledger t) : s.accounts t := ⟨h.claims.agree, h.ranged⟩

theorem State.accounts.keeps {s t : State} (h : s.accounts t) (lines : s.linesKept → t.linesKept) : s.keeps t :=
  ⟨lines, h.claims, h.ranged⟩

theorem State.keeps.accounts {s t : State} (h : s.keeps t) : s.accounts t := ⟨h.claims, h.ranged⟩

/-- Where a line stood before one line of an order changed. -/
theorem State.line_before {s : State} {slot k : Fin 24} {n j : Nat} {g : Order → Order} {f : Line → Line} {p : Order}
    {m : Line} (hg : ∀ o, (g o).lines = o.lines.modify n f) (hp : (s.modifyOrder slot g).order k = some p)
    (hm : p.line? j = some m) : ∃ o l, s.order k = some o ∧ o.line? j = some l ∧ (p = if k = slot then g o else o) ∧
      m = if k = slot ∧ j = n + 1 then f l else l := by
  rw [State.order_modifyOrder] at hp
  split at hp
  · next hk =>
    obtain ⟨o, ho, rfl⟩ := Option.map_eq_some_iff.mp hp
    have lines : (g o).line? j = ({ o with lines := o.lines.modify n f } : Order).line? j := by
      simp only [Order.line?, hg]
    rw [lines, Order.line?_modify] at hm
    split at hm
    · next hj =>
      obtain ⟨l, hl, rfl⟩ := Option.map_eq_some_iff.mp hm
      exact ⟨o, l, ho, hl, (if_pos hk).symm, (if_pos ⟨hk, hj⟩).symm⟩
    · next hj => exact ⟨o, m, ho, hm, (if_pos hk).symm, (if_neg fun h => hj h.2).symm⟩
  · next hk => exact ⟨p, m, hp, hm, (if_neg hk).symm, (if_neg fun h => hk h.1).symm⟩

/-- Where a line stands once one line of an order has changed. -/
theorem State.line_after {s : State} {slot k : Fin 24} {n j : Nat} {g : Order → Order} {f : Line → Line} {l : Line}
    (hg : ∀ o, (g o).lines = o.lines.modify n f) (hl : s.lineAt ⟨k, j⟩ = some l) :
    (s.modifyOrder slot g).lineAt ⟨k, j⟩ = some (if k = slot ∧ j = n + 1 then f l else l) := by
  obtain ⟨o, ho, hl⟩ := (s.lineAt_iff _ l).mp hl
  rw [State.lineAt_iff]
  by_cases hk : k = slot
  · refine ⟨g o, ?_, ?_⟩
    · show (s.modifyOrder slot g).order k = _
      rw [State.order_modifyOrder, if_pos hk]
      exact congrArg (Option.map g) ho
    · have lines : (g o).line? j = ({ o with lines := o.lines.modify n f } : Order).line? j := by
        simp only [Order.line?, hg]
      show (g o).line? j = _
      rw [lines, Order.line?_modify]
      have hl : o.line? j = some l := hl
      by_cases hj : j = n + 1
      · rw [if_pos hj, if_pos ⟨hk, hj⟩, hl]
        rfl
      · rw [if_neg hj, if_neg (fun h => hj h.2), hl]
  · refine ⟨o, ?_, by rw [if_neg (fun h => hk h.1)]; exact hl⟩
    show (s.modifyOrder slot g).order k = _
    rw [State.order_modifyOrder, if_neg hk]
    exact ho

/-- The place of an arm's active line: a line number from 1. -/
theorem State.linesHeld.placed {s : State} {apart : Fin 6 → Prop} (h : s.linesHeld apart) (hs : s.bay.saved = false)
    {a : Fin 6} {ref : LineRef} (hr : (s.arm a).active = some ref) : ref.line = ref.line - 1 + 1 := by
  obtain ⟨l, hl, -⟩ := h.carried hs a ref hr
  obtain ⟨o, -, hl⟩ := (s.lineAt_iff ref l).mp hl
  unfold Order.line? at hl
  split at hl
  · cases hl
  · next hk => omega

theorem LineRef.eq_of_place {ref ref' : LineRef} (h : ref.line = ref.line - 1 + 1) (hs : ref'.slot = ref.slot)
    (hl : ref'.line = ref.line - 1 + 1) : ref' = ref := by
  cases ref
  cases ref'
  obtain rfl := hs
  congr 1
  exact hl.trans h.symm

/-! ### The arm apart -/

/-- The arm apart changes, its line staying its own. -/
theorem State.linesHeld.modifyArm {s : State} {a : Fin 6} (h : s.linesHeld (· = a)) {f : Arm → Arm}
    (hf : (f (s.arm a)).active = (s.arm a).active) : (s.modifyArm a f).linesHeld (· = a) := by
  have active : ∀ b, ((s.modifyArm a f).arm b).active = (s.arm b).active := by
    intro b
    rw [State.arm_modifyArm]
    split
    · next hb => exact hb ▸ hf
    · rfl
  have other : ∀ b, ¬ b = a → (s.modifyArm a f).arm b = s.arm b := fun b hb => by rw [State.arm_modifyArm, if_neg hb]
  refine ⟨fun b hb => by rw [other b hb]; exact h.stands b hb, fun hs b ref hr => ?_, fun hs slot o k l ho hl => ?_⟩
  · rw [active] at hr
    obtain ⟨l, hl, hb, hend⟩ := h.carried hs b ref hr
    exact ⟨l, hl, hb, fun hne => by rw [other b hne]; exact hend hne⟩
  · obtain ⟨waits, carried⟩ := h.loaded hs slot o k l ho hl
    refine ⟨waits, fun b hb => ?_⟩
    rw [active]
    exact carried b hb

/-- The line of the arm apart changes, but for its standing. -/
theorem State.linesHeld.modifyActiveLine {s : State} {a : Fin 6} (h : s.linesHeld (· = a)) {f : Line → Line}
    (hf : ∀ l : Line, (f l).state = l.state) : (s.modifyActiveLine a f).linesHeld (· = a) := by
  unfold State.modifyActiveLine
  split
  · next ref hr =>
    refine ⟨h.stands, fun hs b ref' hr' => ?_, fun hs slot o k m ho hm => ?_⟩
    · obtain ⟨l, hl, hb, hend⟩ := h.carried hs b ref' hr'
      refine ⟨_, State.line_after (fun _ => rfl) hl, ?_, fun hne => ?_⟩
      · split
        · rw [hf, hb]
        · exact hb
      · rw [if_neg]
        · exact hend hne
        · rintro ⟨hslot, hline⟩
          have hsame : ref' = ref := LineRef.eq_of_place (h.placed hs hr) hslot hline
          obtain ⟨l', hl', hb', -⟩ := h.carried hs a ref hr
          rw [hsame, hl'] at hl
          cases hl
          rw [hb'] at hb
          cases hb
          exact hne rfl
    · obtain ⟨o', l, ho', hl, rfl, rfl⟩ := State.line_before (fun _ => rfl) ho hm
      obtain ⟨waits, carried⟩ := h.loaded hs slot o' k l ho' hl
      have place : s.lineAt ⟨slot, k⟩ = some l := (s.lineAt_iff _ l).mpr ⟨o', ho', hl⟩
      refine ⟨fun hw => ?_, fun b hb => ?_⟩
      · split at hw
        · next hhere =>
          have hsame : ⟨slot, k⟩ = ref := LineRef.eq_of_place (h.placed hs hr) hhere.1 hhere.2
          obtain ⟨l', hl', ha, -⟩ := h.carried hs a ref hr
          rw [← hsame, place] at hl'
          cases hl'
          rw [hf, ha] at hw
          cases hw
        · next hhere =>
          rw [if_neg hhere]
          exact waits hw
      · have hb : l.state = .active b := by
          split at hb
          · exact (hf l).symm.trans hb
          · exact hb
        obtain ⟨hact, hstate, hidle⟩ := carried b hb
        refine ⟨hact, ?_, ?_⟩ <;> split <;> assumption
  · exact h

/-- The line of the arm apart ends, and the arm lets it go. -/
theorem State.linesHeld.ended {s : State} {a : Fin 6} (h : s.linesHeld (· = a)) {ref : LineRef}
    (hr : (s.arm a).active = some ref) {f : Line → Line} (hf : ∀ l, (f l).state = .ended) {g : Arm → Arm}
    (hg : ∀ x, (g x).active = none) : ((s.modifyLine ref f).modifyArm a g).linesHeld (· = a) := by
  have arm : ∀ b, ((s.modifyLine ref f).modifyArm a g).arm b = if b = a then g (s.arm b) else s.arm b := fun b =>
    State.arm_modifyArm _ a b g
  have other : ∀ b, ¬ b = a → ((s.modifyLine ref f).modifyArm a g).arm b = s.arm b := fun b hb => by rw [arm, if_neg hb]
  refine ⟨fun b hb => by rw [other b hb]; exact h.stands b hb, fun hs b ref' hr' => ?_, fun hs slot o k m ho hm => ?_⟩
  · have hne : ¬ b = a := by
      rintro rfl
      rw [arm, if_pos rfl, hg] at hr'
      cases hr'
    rw [other b hne] at hr'
    obtain ⟨l, hl, hb, hend⟩ := h.carried hs b ref' hr'
    have away : ¬ (ref'.slot = ref.slot ∧ ref'.line = ref.line - 1 + 1) := by
      rintro ⟨hslot, hline⟩
      have hsame : ref' = ref := LineRef.eq_of_place (h.placed hs hr) hslot hline
      obtain ⟨l', hl', ha, -⟩ := h.carried hs a ref hr
      rw [hsame, hl'] at hl
      cases hl
      rw [ha] at hb
      cases hb
      exact hne rfl
    have here := State.line_after (s := s) (slot := ref.slot) (g := fun o => { o with lines := o.lines.modify (ref.line - 1) f })
      (fun _ => rfl) hl
    rw [if_neg away] at here
    exact ⟨l, here, hb, fun hne => by rw [other b hne]; exact hend hne⟩
  · obtain ⟨o', l, ho', hl, rfl, rfl⟩ := State.line_before (fun _ => rfl) ho hm
    obtain ⟨waits, carried⟩ := h.loaded hs slot o' k l ho' hl
    by_cases hhere : slot = ref.slot ∧ k = ref.line - 1 + 1
    · rw [if_pos hhere]
      exact ⟨fun hw => by simp [hf] at hw, fun b hb => by simp [hf] at hb⟩
    · rw [if_neg hhere]
      refine ⟨waits, fun b hb => ?_⟩
      obtain ⟨hact, hstate, hidle⟩ := carried b hb
      have hne : ¬ b = a := by
        rintro rfl
        rw [hr] at hact
        cases hact
        exact hhere ⟨rfl, h.placed hs hr⟩
      rw [other b hne]
      refine ⟨hact, ?_, ?_⟩ <;> split <;> assumption

end Sys2Proof.Machine
end

section
/-!
Lines and arms through a line's start, its end and the close of its arm, and through the metering sample.
-/

namespace Sys2Proof.Machine

/-! ### A line begins on its arm (R31, R82) -/

/-- A line's record and flags as it starts on an arm. -/
def State.firstRecord (s : State) (a : Fin 6) : LineRecord :=
  { LineRecord.blank with atStart := some (s.readings a), counter := some s.store.counter }

def State.firstFlags (s : State) (a : Fin 6) : LineFlags :=
  { LineFlags.clear with trial := (s.meterStore a).pendingTrial.isSome }

/-- A line's start on its order and on its arm. -/
def State.lineBegun (s : State) (a : Fin 6) (slot : Fin 24) (k : Nat) : State :=
  (s.modifyOrder slot (fun o => o.startLine k a (s.firstRecord a) (s.firstFlags a))).modifyArm a
    (fun x => x.startLine ⟨slot, k⟩ (s.meterStore a).pendingTrial)

theorem State.arm_lineBegun (s : State) (a : Fin 6) (slot : Fin 24) (k : Nat) (b : Fin 6) :
    (s.lineBegun a slot k).arm b = if b = a then (s.arm b).startLine ⟨slot, k⟩ (s.meterStore a).pendingTrial else s.arm b :=
  State.arm_modifyArm _ a b _

/-- The rest of a line's start moves no line. -/
theorem State.steady_beginLine (s : State) (a : Fin 6) (slot : Fin 24) (k : Nat) :
    (s.lineBegun a slot k).steady (s.beginLine a slot k) := by
  unfold State.beginLine
  dsimp only
  refine State.steady.trans (State.steady.trans ?_ (State.steady_openDosing _ a _)) (State.steady_restartDeadman _)
  refine State.steady_of rfl rfl rfl rfl fun h => ?_
  exact (s.steady_modifyMeterStore a (f := fun m => { m with pendingTrial := none }) fun _ h => h).ranged h

theorem State.linesHeld.begun {s : State} {a : Fin 6} (h : s.linesHeld (· = a)) {slot : Fin 24} {k : Nat} {o : Order}
    {l : Line} (ho : s.order slot = some o) (hl : o.line? k = some l) (hw : l.state = .waiting)
    (hs : o.state = .claimed ∨ o.state = .loading) (hn : (s.arm a).active = none) :
    (s.lineBegun a slot k).linesHeld (· = a) := by
  have hk : k = k - 1 + 1 := by
    unfold Order.line? at hl
    split at hl
    · cases hl
    · omega
  have arm := s.arm_lineBegun a slot k
  have place : s.lineAt ⟨slot, k⟩ = some l := (s.lineAt_iff _ l).mpr ⟨o, ho, hl⟩
  refine ⟨fun b hb => by rw [arm, if_neg hb]; exact h.stands b hb, fun saved b ref hr => ?_, fun saved slot' o' k' m ho' hm => ?_⟩
  · by_cases hb : b = a
    · rw [arm, if_pos hb] at hr
      cases hr
      refine ⟨_, State.line_after (fun _ => rfl) place, ?_, fun hne => absurd hb hne⟩
      rw [if_pos ⟨rfl, hk⟩, hb]
    · rw [arm, if_neg hb] at hr
      obtain ⟨l', hl', hstate, hend⟩ := h.carried saved b ref hr
      have away : ¬ (ref.slot = slot ∧ ref.line = k - 1 + 1) := by
        rintro ⟨hslot, hline⟩
        have hsame : ref = ⟨slot, k⟩ := LineRef.eq_of_place hk hslot hline
        rw [hsame, place] at hl'
        cases hl'
        rw [hw] at hstate
        cases hstate
      have here := State.line_after (s := s) (slot := slot)
        (g := fun o => o.startLine k a (s.firstRecord a) (s.firstFlags a)) (fun _ => rfl) hl'
      rw [if_neg away] at here
      exact ⟨l', here, hstate, fun hne => by rw [arm, if_neg hne]; exact hend hne⟩
  · obtain ⟨o'', l', ho'', hl', rfl, rfl⟩ := State.line_before (fun _ => rfl) ho' hm
    obtain ⟨waits, carried⟩ := h.loaded saved slot' o'' k' l' ho'' hl'
    by_cases hhere : slot' = slot ∧ k' = k - 1 + 1
    · have heq : o'' = o := by
        rw [hhere.1, ho] at ho''
        exact (Option.some.inj ho'').symm
      rw [if_pos hhere, if_pos hhere.1]
      refine ⟨fun hw => by simp at hw, fun b hb => ?_⟩
      cases hb
      rw [arm, if_pos rfl, heq]
      refine ⟨?_, ?_, rfl⟩
      · simp [Arm.startLine, hhere.1, hhere.2, ← hk]
      · left
        rcases hs with hs | hs <;> simp [Order.startLine, hs]
    · rw [if_neg hhere]
      refine ⟨waits, fun b hb => ?_⟩
      obtain ⟨hact, hstate, hidle⟩ := carried b hb
      have hne : ¬ b = a := by
        rintro rfl
        rw [hn] at hact
        cases hact
      rw [arm, if_neg hne]
      refine ⟨hact, ?_, ?_⟩
      · split
        · rcases hstate with hstate | hstate <;> simp [Order.startLine, hstate]
        · exact hstate
      · split
        · rfl
        · exact hidle

/-- An arm that carries no line and holds no cause. -/
def Arm.bare (x : Arm) : Prop := x.active = none ∧ x.holds = HoldSet.clear

theorem Arm.bare_of_standing {x : Arm} (h : x.standing) (hn : x.active = none) : x.bare := by
  obtain ⟨active, -, holds⟩ := h
  refine ⟨hn, by_contra fun hc => ?_⟩
  have hstate : ¬ (x.state ≠ .idle ∧ x.state ≠ .locked) := fun g => by simp [hn] at active; exact g.2 (active g.1)
  rcases holds hc with hx | hx <;> simp [hx] at hstate

theorem State.ledger_startOrder (s : State) (slot : Fin 24) (k : Nat) (a : Fin 6) (record : LineRecord) (flags : LineFlags) :
    s.ledger (s.modifyOrder slot (fun o => o.startLine k a record flags)) := by
  refine State.ledger_modifyOrder fun o _ => ⟨rfl, rfl, rfl, rfl, ?_, ?_⟩
  · simp only [Order.startLine]
    split
    · next hs => simp [hs]
    · rfl
  · simp only [Order.startLine]
    split
    · intro hs; cases hs
    · exact id

theorem State.ledger_beginLine (s : State) (a : Fin 6) (slot : Fin 24) (k : Nat) : s.ledger (s.beginLine a slot k) :=
  State.ledger.trans (State.ledger.trans (s.ledger_startOrder slot k a _ _) (State.ledger_modifyArm _ a _))
    (s.steady_beginLine a slot k).toledger

theorem State.linesHeld.beginLine {s : State} {a : Fin 6} (h : s.linesHeld (· = a)) (bare : (s.arm a).bare)
    {slot : Fin 24} {k : Nat} {o : Order} {l : Line} (ho : s.order slot = some o) (hl : o.line? k = some l)
    (hw : l.state = .waiting) (hs : o.state = .claimed ∨ o.state = .loading) : (s.beginLine a slot k).linesKept := by
  refine (s.steady_beginLine a slot k).lines.kept ((h.begun ho hl hw hs bare.1).join ?_ fun saved ref m hr hm _ => ?_)
  · rw [State.arm_lineBegun, if_pos rfl]
    exact ⟨by simp [Arm.startLine], by simp [Arm.startLine], fun hc => absurd bare.2 hc⟩
  · rw [State.arm_lineBegun, if_pos rfl] at hr ⊢
    cases hr
    have saved : s.bay.saved = false := saved
    have hnone : l.result = none := (h.loaded saved slot o k l ho hl).1 hw
    have here := State.line_after (s := s) (slot := slot) (g := fun o => o.startLine k a (s.firstRecord a) (s.firstFlags a))
      (fun _ => rfl) ((s.lineAt_iff ⟨slot, k⟩ l).mpr ⟨o, ho, hl⟩)
    obtain rfl := Option.some.inj (here.symm.trans hm)
    have result : ∀ c : Prop, ∀ [Decidable c], (if c then { l with
        state := .active a, record := s.firstRecord a, flags := s.firstFlags a } else l).result = none := by
      intro c _
      split <;> exact hnone
    simp [Line.isEnding, result, Arm.closesLine, Arm.startLine]

end Sys2Proof.Machine
end

section
/-!
An arm closes for its line's end, its line ends, and the next one starts: each keeps lines and arms in agreement (R84, R89,
R92 to R96).
-/

namespace Sys2Proof.Machine

/-! ### The close command for a line end (R89) -/

theorem Arm.closeForLineEnd_active (x : Arm) : x.closeForLineEnd.active = x.active := by
  unfold Arm.closeForLineEnd
  split <;> rfl

/-- An arm that stands with a line closes for the line's end, and one without stays as it is. -/
theorem Arm.closeForLineEnd_stands {x : Arm} (h : x.standing) : x.closeForLineEnd.standing ∧
    (x.active.isSome = true → x.closeForLineEnd.closesLine) := by
  have hactive := h.1
  unfold Arm.closeForLineEnd
  cases hs : x.state <;> rw [hs] at hactive <;>
    simp_all [Arm.standing, Arm.closesLine]

/-- The result of a line on its arm is recorded wherever the line stands. -/
def State.ending (s : State) (a : Fin 6) : Prop :=
  ∀ ref l, (s.arm a).active = some ref → s.lineAt ref = some l → l.isActive = true → l.result.isSome = true

theorem State.linesFollow.ending {s t : State} (h : s.linesFollow t) {a : Fin 6} (hs : s.ending a) : t.ending a := by
  intro ref m hr hm hact
  rw [(h.arms a).active] at hr
  obtain ⟨p, hp, hm⟩ := (t.lineAt_iff ref m).mp hm
  obtain ⟨o, ho, hc⟩ := optionRel_before (hp ▸ h.orders ref.slot)
  obtain ⟨l, hl, hf⟩ := optionRel_before (hm ▸ hc.lines ref.line)
  rcases hf with ⟨hstate, hresult⟩ | ⟨-, hended⟩
  · rw [hresult]
    exact hs ref l hr ((s.lineAt_iff ref l).mpr ⟨o, ho, hl⟩) ((Line.isActive_congr hstate).symm.trans hact)
  · simp [Line.isActive, hended] at hact

/-- A result recorded on an arm's line. -/
theorem State.ending_modifyActiveLine {s : State} {a : Fin 6} (h : s.linesHeld (· = a)) (saved : s.bay.saved = false)
    {f : Line → Line} (hf : ∀ l : Line, (f l).result.isSome = true) : (s.modifyActiveLine a f).ending a := by
  intro ref m hr hm _
  unfold State.modifyActiveLine at hr hm
  split at hr
  · next ref' hr' =>
    have hr : (s.arm a).active = some ref := hr
    obtain ⟨l, hl, -, -⟩ := h.carried saved a ref hr
    have here := State.line_after (s := s) (slot := ref'.slot)
      (g := fun o => { o with lines := o.lines.modify (ref'.line - 1) f }) (fun _ => rfl) hl
    rw [hr'] at hm hr
    cases hr
    rw [if_pos ⟨rfl, h.placed saved hr'⟩] at here
    obtain rfl := Option.some.inj (here.symm.trans hm)
    exact hf l
  · next hn => simp [hn] at hr

theorem State.modifyActiveLine_arms (s : State) (a : Fin 6) (f : Line → Line) : (s.modifyActiveLine a f).arms = s.arms := by
  unfold State.modifyActiveLine
  split <;> rfl

theorem State.modifyActiveLine_saved (s : State) (a : Fin 6) (f : Line → Line) :
    (s.modifyActiveLine a f).bay.saved = s.bay.saved := by
  unfold State.modifyActiveLine
  split <;> rfl

theorem State.ledger_closeForLineEnd (s : State) (a : Fin 6) (r : LineResult) (f : LineFlags → LineFlags) :
    s.ledger (s.closeForLineEnd a r f) := by
  unfold State.closeForLineEnd
  dsimp only
  exact (((s.ledger_modifyActiveLine a _).trans (State.ledger_modifyArm _ a _)).trans
    (State.steady_finishDosing _ a).toledger).trans ((State.ledger_modifyArm _ a _).trans
      (State.steady_settleDeadman _).toledger)

theorem State.linesKept_closeForLineEnd {s : State} (a : Fin 6) (r : LineResult) (f : LineFlags → LineFlags)
    (h : s.linesKept) : (s.closeForLineEnd a r f).linesKept := by
  unfold State.closeForLineEnd
  dsimp only
  refine (State.steady_settleDeadman _).lines.kept ?_
  have recorded := (State.linesHeld.apart h (· = a)).modifyActiveLine
    (f := fun l => { l with result := some r, flags := f l.flags }) fun _ => rfl
  have onward : (s.modifyActiveLine a (fun l => { l with result := some r, flags := f l.flags })).steady
      (((s.modifyActiveLine a (fun l => { l with result := some r, flags := f l.flags })).modifyArm a
        (fun x => { x with noFlowTimer := none, suspendTimer := none })).finishDosing a) :=
    (State.steady_finishDosing _ a).after (State.steady_modifyArm _ a)
  generalize ((s.modifyActiveLine a (fun l => { l with result := some r, flags := f l.flags })).modifyArm a
    (fun x => { x with noFlowTimer := none, suspendTimer := none })).finishDosing a = told at onward ⊢
  have standing : (told.arm a).standing := by
    refine (onward.lines.arms a).standing ?_
    rw [State.arm_congr (s.modifyActiveLine_arms a _)]
    exact h.1 a
  obtain ⟨stands, closes⟩ := Arm.closeForLineEnd_stands standing
  refine ((onward.lines.held recorded).modifyArm (told.arm a).closeForLineEnd_active).join ?_ fun saved ref l hr hl hact => ?_
  · rwa [State.arm_modifyArm, if_pos rfl]
  · rw [State.arm_modifyArm, if_pos rfl] at hr ⊢
    rw [Arm.closeForLineEnd_active] at hr
    have hsaved : s.bay.saved = false := by
      rw [← s.modifyActiveLine_saved a, ← onward.lines.saved]
      exact saved
    have active : l.isActive = true := by simp [Line.isActive, hact]
    have result := onward.lines.ending (State.ending_modifyActiveLine (State.linesHeld.apart h (· = a)) hsaved fun _ => rfl)
      ref l hr hl active
    simp [Line.isEnding, active, result, closes (by simp [hr])]

theorem State.keeps_closeForLineEnd (s : State) (a : Fin 6) (r : LineResult) (f : LineFlags → LineFlags) :
    s.keeps (s.closeForLineEnd a r f) :=
  (s.ledger_closeForLineEnd a r f).accounts.keeps (State.linesKept_closeForLineEnd a r f)

/-! ### An arm's line ends (R92) -/

/-- What dropping queued starts and closing an order leave of an arm: its line and its causes. -/
def State.loadsSame (s t : State) : Prop := ∀ b, (t.arm b).active = (s.arm b).active ∧ (t.arm b).holds = (s.arm b).holds

theorem State.loadsSame_refl (s : State) : s.loadsSame s := fun _ => ⟨rfl, rfl⟩

theorem State.loadsSame.trans {s t u : State} (h : s.loadsSame t) (g : t.loadsSame u) : s.loadsSame u :=
  fun b => ⟨(g b).1.trans (h b).1, (g b).2.trans (h b).2⟩

theorem State.loadsSame_of {s t : State} (h : t.arms = s.arms) : s.loadsSame t := fun b => by
  rw [State.arm_congr h]
  exact ⟨rfl, rfl⟩

theorem State.loadsSame.bare {s t : State} (h : s.loadsSame t) {a : Fin 6} (hs : (s.arm a).bare) : (t.arm a).bare :=
  ⟨(h a).1.trans hs.1, (h a).2.trans hs.2⟩

theorem State.loadsSame_modifyArm (s : State) (a : Fin 6) {f : Arm → Arm} (active : ∀ x, (f x).active = x.active)
    (holds : ∀ x, (f x).holds = x.holds) : s.loadsSame (s.modifyArm a f) := fun b => by
  rw [State.arm_modifyArm]
  split
  · exact ⟨active _, holds _⟩
  · exact ⟨rfl, rfl⟩

theorem State.loadsSame_raise (s : State) (k : NoticeKind) (subject : Nat) : s.loadsSame (s.raise k subject) :=
  State.loadsSame_of (State.raise_arms _ _ _)

theorem State.loadsSame_dropQueued (s : State) (a : Fin 6) : s.loadsSame (s.dropQueued a) := by
  unfold State.dropQueued
  split
  · exact (s.loadsSame_modifyArm a (f := fun x => { x with queued := none }) (fun _ => rfl) fun _ => rfl).trans
      (State.loadsSame_raise _ _ _)
  · exact s.loadsSame_refl

theorem State.loadsSame_dropQueuedOf (s : State) (num : Nat) : s.loadsSame (s.dropQueuedOf num) := by
  refine State.forArms_keeps (P := s.loadsSame) s.loadsSame_refl fun a t ht => ?_
  split
  · split
    · exact ht.trans (t.loadsSame_dropQueued a)
    · exact ht
  · exact ht

theorem State.compose_arms (s : State) (o : Order) (cause : CloseCause) : (s.compose o cause).arms = s.arms := by
  unfold State.compose
  split <;> rfl

theorem State.loadsSame_closeQuietly (s : State) (slot : Fin 24) (cause : CloseCause) :
    s.loadsSame (s.closeQuietly slot cause) := by
  cases ho : s.order slot with
  | none =>
    simp only [State.closeQuietly, ho]
    exact s.loadsSame_refl
  | some o =>
    have before : ((s.compose (o.closed cause) cause).endClaim o.claimPermit).arms = s.arms := by
      rw [State.endClaim_arms, State.compose_arms]
    rw [State.closeQuietly_eq ho, State.closing]
    exact ((State.loadsSame_of before).trans (State.loadsSame_dropQueuedOf _ _)).trans
      (State.loadsSame_of (State.setOrder_arms _ _ _))

theorem State.loadsSame_closeOrder (s : State) (slot : Fin 24) (cause : CloseCause) :
    s.loadsSame (s.closeOrder slot cause) := by
  unfold State.closeOrder
  split
  · exact ((s.loadsSame_closeQuietly slot cause).trans (State.loadsSame_raise _ _ _)).trans (State.loadsSame_raise _ _ _)
  · exact s.loadsSame_refl

theorem State.loadsSame_judgeOrder (s : State) (slot : Fin 24) : s.loadsSame (s.judgeOrder slot) := by
  cases ho : s.order slot with
  | none =>
    simp only [State.judgeOrder, ho]
    exact s.loadsSame_refl
  | some o =>
    rcases State.judgeOrder_cases ho with ⟨-, -, e⟩ | ⟨-, -, e⟩ | ⟨-, -, -, e⟩ | ⟨-, -, e⟩ <;> rw [e]
    · exact s.loadsSame_closeOrder slot _
    · exact s.loadsSame_closeOrder slot _
    · exact State.loadsSame_of rfl
    · exact s.loadsSame_refl

theorem State.accounts_finishLine (s : State) (a : Fin 6) : s.accounts (s.finishLine a) := by
  unfold State.finishLine
  split
  · exact s.accounts_refl
  · next ref _ =>
    dsimp only
    refine State.accounts.trans ?_ ⟨State.judgeOrder_agree ref.slot, State.judgeOrder_ranged ref.slot⟩
    exact ((((s.steady_fixLine a false).toledger.trans (State.ledger_modifyLine _ ref _)).trans
      (State.ledger_modifyArm _ a _)).trans (State.steady_raise _ _ _).toledger).accounts

/-- The line of the arm apart ends: the arm is left bare, where it stood. -/
theorem State.linesHeld.finishLine {s : State} {a : Fin 6} (h : s.linesHeld (· = a)) (standing : (s.arm a).standing) :
    (s.finishLine a).linesHeld (· = a) ∧ ((s.finishLine a).arm a).bare := by
  unfold State.finishLine
  split
  · next hn => exact ⟨h, Arm.bare_of_standing standing hn⟩
  · next ref hr =>
    dsimp only
    have fixed := s.steady_fixLine a false
    generalize s.fixLine a false = t at fixed ⊢
    have ended := (fixed.lines.held h).ended (((fixed.lines.arms a).active).trans hr)
      (f := fun l => { l with state := .ended }) (fun _ => rfl) (g := Arm.releaseLine) fun _ => rfl
    refine ⟨((State.steady_raise _ _ _).lines.held ended).judgeOrder ref.slot,
      (State.loadsSame_judgeOrder _ ref.slot).bare (?_ : (((t.modifyLine ref _).modifyArm a Arm.releaseLine).arm a).bare)⟩
    rw [State.arm_modifyArm, if_pos rfl]
    exact ⟨rfl, rfl⟩

/-! ### The arm goes on without its line (R84, R88, R94, R96) -/

theorem State.startTarget_some {s : State} {num k : Nat} {slot : Fin 24} {o : Order} {l : Line}
    (h : s.startTarget num k = some (slot, o, l)) : s.order slot = some o ∧ o.line? k = some l := by
  obtain ⟨slot', -, h⟩ := Option.bind_eq_some_iff.mp h
  obtain ⟨o', ho, h⟩ := Option.bind_eq_some_iff.mp h
  obtain ⟨l', hl, h⟩ := Option.map_eq_some_iff.mp h
  cases h
  exact ⟨ho, hl⟩

/-- The first check of a start: a WAITING line of a CLAIMED or LOADING order. -/
theorem State.startable_of {s : State} {a : Fin 6} {o : Order} {l : Line} {recheck : Bool}
    (h : ∀ c ∈ s.startChecks a o l recheck, c.1 = false) :
    l.state = .waiting ∧ (o.state = .claimed ∨ o.state = .loading) := by
  have first := h ((o.state != .claimed && o.state != .loading) || !l.isWaiting, .wrongState) (by simp [State.startChecks])
  simp only [Bool.or_eq_false_iff, Line.isWaiting] at first
  obtain ⟨hs, hw⟩ := first
  refine ⟨by simpa using hw, ?_⟩
  cases ho : o.state <;> simp_all

/-- A bare arm goes to a state without a line. -/
theorem State.linesHeld.rest {s : State} {a : Fin 6} (h : s.linesHeld (· = a)) (bare : (s.arm a).bare) {f : Arm → Arm}
    (active : (f (s.arm a)).active = (s.arm a).active) (holds : (f (s.arm a)).holds = (s.arm a).holds)
    (state : (f (s.arm a)).state = .idle ∨ (f (s.arm a)).state = .locked) (reason : (f (s.arm a)).reason = none) :
    (s.modifyArm a f).linesKept := by
  refine (h.modifyArm active).join_free ?_ ?_ <;> rw [State.arm_modifyArm, if_pos rfl]
  · refine ⟨?_, ?_, fun hc => absurd (holds.trans bare.2) hc⟩
    · rw [active, bare.1]
      rcases state with hx | hx <;> simp [hx]
    · rw [reason]
      rcases state with hx | hx <;> simp [hx]
  · exact active.trans bare.1

theorem State.linesHeld.goIdle {s : State} {a : Fin 6} (h : s.linesHeld (· = a)) (bare : (s.arm a).bare) :
    (s.modifyArm a Arm.goIdle).linesKept := h.rest bare rfl rfl (.inl rfl) rfl

theorem State.accounts_recheckQueued (s : State) (a : Fin 6) : s.accounts (s.recheckQueued a) := by
  have dropped : s.accounts ((s.dropQueued a).modifyArm a Arm.goIdle) :=
    ((s.steady_dropQueued a).toledger.trans (State.ledger_modifyArm _ a _)).accounts
  unfold State.recheckQueued
  split
  · exact (s.ledger_modifyArm a _).accounts
  · split
    · split
      · exact dropped
      · exact ((s.ledger_modifyArm a _).trans (State.ledger_beginLine _ a _ _)).accounts
    · exact dropped

theorem State.linesHeld.recheckQueued {s : State} {a : Fin 6} (h : s.linesHeld (· = a)) (bare : (s.arm a).bare) :
    (s.recheckQueued a).linesKept := by
  have dropped : ((s.dropQueued a).modifyArm a Arm.goIdle).linesKept :=
    ((s.steady_dropQueued a).lines.held h).goIdle ((s.loadsSame_dropQueued a).bare bare)
  unfold State.recheckQueued
  split
  · exact h.goIdle bare
  · split
    · next slot o l ht =>
      obtain ⟨ho, hl⟩ := State.startTarget_some ht
      split
      · exact dropped
      · next hpassed =>
        obtain ⟨hw, hs⟩ := State.startable_of fun c hc => by
          simpa using List.any_eq_false.mp (Bool.not_eq_true _ ▸ hpassed) c hc
        refine State.linesHeld.beginLine (h.modifyArm (f := fun x => { x with queued := none }) rfl) ?_ ho hl hw hs
        rw [State.arm_modifyArm, if_pos rfl]
        exact bare
    · exact dropped

/-- A line's end on an arm, and the re-check of the queued start (R84, R92). -/
theorem State.keeps_completeClose (s : State) (a : Fin 6) : s.keeps ((s.finishLine a).recheckQueued a) := by
  refine ((s.accounts_finishLine a).trans (State.accounts_recheckQueued _ a)).keeps fun h => ?_
  obtain ⟨held, bare⟩ := (State.linesHeld.apart h (· = a)).finishLine (h.1 a)
  exact held.recheckQueued bare

theorem State.keeps_endSuspended (s : State) (a : Fin 6) (r : LineResult) (f : LineFlags → LineFlags) :
    s.keeps (s.endSuspended a r f) := by
  unfold State.endSuspended
  dsimp only
  have ledger := s.ledger_modifyActiveLine a (fun l => { l with result := some r, flags := f l.flags })
  have abandoned := State.steady_abandonDosing (s.modifyActiveLine a (fun l => { l with result := some r, flags := f l.flags })) a
  refine ((State.ledger.trans ledger abandoned.toledger).accounts.trans ((State.accounts_finishLine _ a).trans
    (State.ledger_modifyArm _ a _).accounts)).keeps fun h => ?_
  have recorded := (State.linesHeld.apart h (· = a)).modifyActiveLine
    (f := fun l => { l with result := some r, flags := f l.flags }) fun _ => rfl
  obtain ⟨held, bare⟩ := (abandoned.lines.held recorded).finishLine ((abandoned.lines.arms a).standing (by
    rw [State.arm_congr (s.modifyActiveLine_arms a _)]
    exact h.1 a))
  exact held.goIdle bare

theorem State.keeps_leakDetected (s : State) (a : Fin 6) : s.keeps (s.leakDetected a) := by
  unfold State.leakDetected
  dsimp only
  refine State.keeps.trans ?_ (State.steady_raise _ _ _).keeps
  have ledger := s.ledger_modifyActiveLine a
    (fun l => { l with result := some (l.result.getD .aborted), flags := { l.flags with leak := true } })
  have recorded : s.linesKept → (s.modifyActiveLine a
      (fun l => { l with result := some (l.result.getD .aborted), flags := { l.flags with leak := true } })).linesHeld
        (· = a) := fun h => (State.linesHeld.apart h (· = a)).modifyActiveLine fun _ => rfl
  have arms := s.modifyActiveLine_arms a
    (fun l => { l with result := some (l.result.getD .aborted), flags := { l.flags with leak := true } })
  generalize s.modifyActiveLine a
    (fun l => { l with result := some (l.result.getD .aborted), flags := { l.flags with leak := true } }) = t
      at ledger recorded arms ⊢
  have abandoned := t.steady_abandonDosing a
  refine ((State.ledger.trans ledger abandoned.toledger).accounts.trans ((State.accounts_finishLine _ a).trans
    ((State.steady_dropQueued _ a).toledger.trans (State.ledger_modifyArm _ a _)).accounts)).keeps fun h => ?_
  obtain ⟨held, bare⟩ := (abandoned.lines.held (recorded h)).finishLine ((abandoned.lines.arms a).standing (by
    rw [State.arm_congr arms]
    exact h.1 a))
  exact ((State.steady_dropQueued _ a).lines.held held).rest ((State.loadsSame_dropQueued _ a).bare bare) rfl rfl
    (.inr rfl) rfl

end Sys2Proof.Machine
end

section
/-!
The metering sample, the requests that act on arms, and the emergency stop keep lines and arms, claims and ranges.
-/

namespace Sys2Proof.Machine

/-! ### The metering sample (R85, R86, R91) -/

theorem Arm.stage_flowing {x : Arm} (h : x.state.flowing = true) (remaining : Int) :
    (x.stage remaining).flowing = true := by
  unfold Arm.stage
  split
  · split
    · rfl
    · split <;> rfl
  · split <;> rfl
  · exact h

/-- A flowing arm moves from one flowing state to another. -/
theorem Arm.follows_flowing {x y : Arm} (hx : x.state.flowing = true) (hy : y.state.flowing = true)
    (active : y.active = x.active) (reason : y.reason = x.reason) (holds : y.holds = x.holds) : x.follows y := by
  have still : ∀ {st : ArmState}, st.flowing = true → st ≠ .idle ∧ st ≠ .locked ∧ st ≠ .closing ∧ st ≠ .suspended := by
    intro st h
    cases st <;> simp_all [ArmState.flowing]
  obtain ⟨x1, x2, x3, x4⟩ := still hx
  obtain ⟨y1, y2, y3, y4⟩ := still hy
  refine ⟨active, fun ⟨ha, hr, hh⟩ => ⟨?_, ?_, fun hc => ?_⟩, by simp [Arm.closesLine, x3, y3]⟩
  · rw [active]
    simpa [x1, x2, y1, y2] using ha
  · rw [reason]
    simpa [x3, y3] using hr
  · rw [holds] at hc
    rcases hh hc with h | h
    · exact absurd h x3
    · exact absurd h x4

theorem State.keeps_judgeFlow (s : State) (a : Fin 6) (pulses : Nat) : s.keeps (s.judgeFlow a pulses) := by
  unfold State.judgeFlow
  split
  · exact s.keeps_refl
  · next l _ =>
    split
    · exact s.keeps_closeForLineEnd a _ _
    · split
      · next hf =>
        exact (s.steady_modifyArm a (f := fun x => x.staged l.remaining pulses)
          (Arm.follows_flowing hf (Arm.stage_flowing hf _) rfl rfl rfl)).keeps
      · exact s.keeps_refl

/-- A close for a hold completes: the arm is SUSPENDED with its causes (R94). -/
theorem State.steady_suspend {s : State} {a : Fin 6} (hs : (s.arm a).state = .closing) (hr : (s.arm a).reason = some .hold) :
    s.steady (s.suspend a) := by
  refine State.steady.after (State.steady_raise _ _ _) (s.steady_modifyArm a ⟨rfl, fun ⟨active, _, _⟩ => ?_, ?_⟩)
  · exact ⟨by simpa [hs] using active, by simp, fun _ => .inr rfl⟩
  · simp [Arm.closesLine, hr]

theorem State.keeps_judgeClose (s : State) (a : Fin 6) (pulses : Nat) : s.keeps (s.judgeClose a pulses) := by
  unfold State.judgeClose
  dsimp only
  split
  · exact s.keeps_leakDetected a
  · split
    · next hc =>
      split
      · exact s.keeps_completeClose a
      · next hr => exact (State.steady_suspend hc.1 hr).keeps
      · exact s.keeps_refl
    · exact s.keeps_refl

theorem State.keeps_lineSample (s : State) (a : Fin 6) (pulses dgv : Nat) : s.keeps (s.lineSample a pulses dgv) := by
  unfold State.lineSample
  dsimp only
  exact ((((s.steady_serveDosing a dgv).trans (State.steady_countSample _ a _ _)).keeps).trans
    (State.keeps_judgeFlow _ a pulses)).trans (State.keeps_judgeClose _ a pulses)

theorem State.keeps_sample (s : State) (a : Fin 6) : s.keeps (s.sample a) := by
  cases hn : (s.arm a).active with
  | none => exact (State.steady_sample_stray hn).keeps
  | some ref =>
    unfold State.sample
    rw [if_pos (by simp [hn])]
    exact (s.steady_meterSample a _).keeps.trans (State.keeps_lineSample _ a _ _)

theorem State.modifyActiveLine_free {s : State} {a : Fin 6} (h : (s.arm a).active = none) (f : Line → Line) :
    s.modifyActiveLine a f = s := by
  unfold State.modifyActiveLine
  rw [h]

/-- A stray sample moves no order. -/
theorem State.sample_stray_orders {s : State} {a : Fin 6} (h : (s.arm a).active = none) : (s.sample a).orders = s.orders := by
  have added : ∀ (t : State) n, (t.addStray a n).orders = t.orders := by
    intro t n
    unfold State.addStray
    dsimp only
    split <;> rfl
  have metered : ∀ v, (s.meterSample a v).orders = s.orders := by
    intro v
    unfold State.meterSample
    rw [State.modifyActiveLine_free]
    · rfl
    · show ((s.modifyArm a _).arm a).active = none
      rw [State.arm_modifyArm, if_pos rfl]
      exact h
  unfold State.sample
  rw [if_neg (by simp [h])]
  unfold State.straySample
  rw [added]
  exact metered _

/-! ### START LINE, END LINE and CANCEL ORDER -/

theorem keeps_startLine (arm num k : Nat) (s : State) : s.keeps (Machine.startLine arm num k s).1 := by
  unfold Machine.startLine
  split
  · exact s.keeps_refl
  · next a _ =>
    split
    · exact s.keeps_refl
    · split
      · exact s.keeps_refl
      · next slot o l ht =>
        obtain ⟨ho, hl⟩ := State.startTarget_some ht
        refine State.keeps_checked fun passed => ?_
        obtain ⟨hw, hs⟩ := State.startable_of passed
        split
        · next hidle =>
          refine ((s.keeps_sample a).accounts.trans (State.ledger_beginLine _ a slot k).accounts).keeps fun h => ?_
          have hn : (s.arm a).active = none := by simpa [hidle] using (h.1 a).1
          have sampled := State.steady_sample_stray hn
          have kept := sampled.lines.kept h
          refine State.linesHeld.beginLine (State.linesHeld.apart kept (· = a))
            (Arm.bare_of_standing (kept.1 a) ((sampled.lines.arms a).active.trans hn)) ?_ hl hw hs
          rw [State.order_congr (State.sample_stray_orders hn)]
          exact ho
        · exact (s.steady_modifyArm a (f := fun x => { x with queued := some ⟨num, k⟩ })).keeps

theorem keeps_endLine (arm : Nat) (s : State) : s.keeps (Machine.endLine arm s).1 := by
  unfold Machine.endLine
  split
  · exact s.keeps_refl
  · next a _ =>
    split
    · exact s.keeps_refl
    · exact s.keeps_refl
    · exact s.keeps_refl
    · exact s.keeps_endSuspended a _ _
    · exact s.keeps_closeForLineEnd a _ _
    · exact s.keeps_closeForLineEnd a _ _
    · exact s.keeps_closeForLineEnd a _ _

/-- The running lines of an order that is cancelled, each ended on its arm. -/
theorem State.keeps_cancelActive (s : State) (slot : Fin 24) :
    s.keeps (s.cancelActive slot) ∧ s.ledger (s.cancelActive slot) := by
  refine State.forArms_keeps (P := fun t => s.keeps t ∧ s.ledger t) ⟨s.keeps_refl, s.ledger_refl⟩ fun a t ht => ?_
  split
  · split
    · exact ⟨ht.1.trans (t.keeps_closeForLineEnd a _ _), ht.2.trans (t.ledger_closeForLineEnd a _ _)⟩
    · exact ht
  · exact ht

theorem State.keeps_cancelLoading {s : State} {slot : Fin 24} {o : Order} (ho : s.order slot = some o)
    (hs : o.state = .loading) (num : Nat) : s.keeps (s.cancelLoading slot num) := by
  unfold State.cancelLoading
  obtain ⟨keeps, ledger⟩ := s.keeps_cancelActive slot
  have dropped := (State.steady_dropQueuedOf _ num).after (State.steady_endWaiting (s.cancelActive slot) slot)
  refine (keeps.trans dropped.keeps).trans (State.steady.keeps ⟨State.ledger_modifyOrder fun p hp => ?_,
    State.linesFollow_modifyOrder fun p hp => Order.carries_of rfl (fun _ => .inr rfl) id⟩)
  obtain ⟨o', ho', claimed⟩ := (ledger.trans dropped.toledger).claims.before hp
  rw [ho] at ho'
  cases ho'
  have loading : p.state ≠ .posted := fun h => by simpa [hs] using claimed.posted.mp h
  exact ⟨rfl, rfl, rfl, rfl, by simpa using loading, fun h => by cases h⟩

theorem keeps_cancelOrder (num : Nat) (s : State) : s.keeps (Machine.cancelOrder num s).1 := by
  unfold Machine.cancelOrder
  split
  · exact s.keeps_refl
  · next slot o hf =>
    have ho := State.order_of_found hf
    split
    · exact s.keeps_refl
    · next hs => exact (State.keeps_withdrawPosted ho hs).trans (State.steady_dropQueuedOf _ num).keeps
    · next hs => exact (State.keeps_withdrawOrder ho (by simp [hs])).trans (State.steady_dropQueuedOf _ num).keeps
    · next hs =>
      split
      · exact State.keeps_cancelLoading ho hs num
      · next hn => exact State.keeps_closeIdle ho (.inr (by simpa using hn)) _

/-! ### The stop, and the timeouts of arms (R87, R95, R114) -/

theorem State.keeps_stopLine (s : State) (a : Fin 6) : s.keeps (s.stopLine a) := by
  unfold State.stopLine
  split
  · exact s.keeps_closeForLineEnd a _ _
  · exact s.keeps_refl

theorem State.keeps_activateStop (s : State) : s.keeps s.activateStop := by
  unfold State.activateStop
  dsimp only
  have dosed := State.steady.after (State.steady_forArms (fun a t => t.steady_stopDosing a) _)
    (s.steady_modifyStop (fun x => { x with level := true, active := true, timer := none }))
  have aborted := dosed.keeps.trans (State.keeps_forArms (fun a t => t.keeps_stopLine a) _)
  exact aborted.trans ((State.steady_raise _ .estop 0).after
    (State.steady_forArms (fun a t => t.steady_dropQueued a) _)).keeps

theorem State.keeps_stopPressed (s : State) : s.keeps s.stopPressed := by
  unfold State.stopPressed
  split
  · exact s.keeps_refl
  · split
    · exact (s.steady_modifyStop _).keeps
    · exact s.keeps_activateStop

end Sys2Proof.Machine
end

section
/-!
The power-fail save, the cold start and the warm restart keep lines and arms, claims and ranges; and so does every step.
-/

namespace Sys2Proof.Machine

/-! ### The power-fail save (R172) -/

/-- An arm at rest stands, whatever it did. -/
theorem Arm.rest_standing (x : Arm) : x.rest.standing := by
  have state : x.rest.state = .idle ∨ x.rest.state = .locked := by
    simp only [Arm.rest]
    split
    · exact .inr rfl
    · exact .inl rfl
  refine ⟨?_, ?_, fun hc => absurd rfl hc⟩
  · show none.isSome = true ↔ _
    rcases state with h | h <;> simp [h]
  · show none.isSome = true ↔ _
    rcases state with h | h <;> simp [h]

/-- Where each arm's action leaves that arm standing, and the others where they stood, acting on every arm leaves all standing. -/
theorem State.forArms_stand {f : Fin 6 → State → State} (own : ∀ a t, ((f a t).arm a).standing)
    (keep : ∀ a b t, (State.arm t b).standing → ((f a t).arm b).standing) (s : State) : (s.forArms f).armsStand := by
  intro b
  rw [State.forArms_eq]
  match b with
  | 0 => exact keep 5 0 _ (keep 4 0 _ (keep 3 0 _ (keep 2 0 _ (keep 1 0 _ (own 0 _)))))
  | 1 => exact keep 5 1 _ (keep 4 1 _ (keep 3 1 _ (keep 2 1 _ (own 1 _))))
  | 2 => exact keep 5 2 _ (keep 4 2 _ (keep 3 2 _ (own 2 _)))
  | 3 => exact keep 5 3 _ (keep 4 3 _ (own 3 _))
  | 4 => exact keep 5 4 _ (own 4 _)
  | 5 => exact own 5 _

theorem State.steady_fixTaken (s : State) (a : Fin 6) (quiet : Bool) : s.steady ((s.abandonDosing a).fixLine a quiet) :=
  (State.steady_fixLine _ a quiet).after (s.steady_abandonDosing a)

theorem State.ledger_takeLine (s : State) (a : Fin 6) (quiet : Bool) : s.ledger (s.takeLine a quiet) := by
  unfold State.takeLine
  split
  · exact (s.steady_fixTaken a quiet).toledger.trans (State.ledger_modifyArm _ a _)
  · exact s.ledger_refl

/-- The other arms stand as they stood when an arm's line is taken. -/
theorem State.takeLine_standing {s : State} {a b : Fin 6} (quiet : Bool) (hb : b ≠ a) (h : (s.arm b).standing) :
    ((s.takeLine a quiet).arm b).standing := by
  unfold State.takeLine
  split
  · rw [State.arm_modifyArm, if_neg hb]
    exact ((s.steady_fixTaken a quiet).lines.arms b).standing h
  · exact h

theorem State.armsStand_rested (s : State) :
    (s.forArms (fun a t => (t.takeLine a true).modifyArm a Arm.rest)).armsStand := by
  refine State.forArms_stand (fun a t => ?_) (fun a b t h => ?_) s
  · rw [State.arm_modifyArm, if_pos rfl]
    exact Arm.rest_standing _
  · rw [State.arm_modifyArm]
    split
    · exact Arm.rest_standing _
    · next hb => exact State.takeLine_standing true hb h

/-- Orders whose timers stop. -/
theorem State.ledger_stopTimers (s : State) : s.ledger { s with orders := s.orders.map (Option.map Order.stopTimers) } where
  claims := by
    refine ⟨rfl, fun k => ?_⟩
    have order : ({ s with orders := s.orders.map (Option.map Order.stopTimers) } : State).order k =
        (s.order k).map Order.stopTimers := Table.get_map _ _ k
    rw [order]
    exact optionRel_map fun o _ => ⟨rfl, rfl, rfl, rfl, Iff.rfl, id⟩
  ranged := id

theorem State.keeps_save (s : State) : s.keeps s.save := by
  have stands := s.armsStand_rested
  have taken := s.ledger_forArms fun a t => (t.ledger_takeLine a true).trans (State.ledger_modifyArm _ a Arm.rest)
  unfold State.save
  dsimp only
  generalize s.forArms (fun a t => (t.takeLine a true).modifyArm a Arm.rest) = t at stands taken ⊢
  have idle : t.ledger t.idleInjectors := State.ledger_of rfl rfl id
  have stopped := idle.trans t.idleInjectors.ledger_stopTimers
  have settled := State.steady_settleDeadman { t.idleInjectors with
    orders := t.orders.map (Option.map Order.stopTimers) }
  refine State.accounts.keeps (State.accounts.trans (taken.trans (State.ledger.trans stopped settled.toledger)).accounts
    (State.ledger.accounts (State.ledger_of rfl rfl id))) fun _ => ?_
  exact ⟨fun a => (settled.lines.arms a).standing (stands a), fun saved => by cases saved⟩

/-! ### The cold start (R174) -/

theorem State.steady_recover (s : State) (o : Order) : s.steady (s.recover o) := by
  unfold State.recover
  split
  · exact s.steady_compose _ _
  · exact s.steady_refl

theorem State.steady_announceRecovery (s : State) (images : List Order) : s.steady (s.announceRecovery images) := by
  have noted : s.steady (if images.any Order.delivered then s.raise .noteStored 0 else s) := by
    split
    · exact s.steady_raise _ _
    · exact s.steady_refl
  unfold State.announceRecovery
  dsimp only
  split
  · exact noted.trans (State.steady_raise _ _ _)
  · exact noted

theorem State.keeps_coldBlocks (s : State) : s.keeps s.coldBlocks where
  lines _ := (State.linesFollow_of (s := State.reset) (t := s.coldBlocks) rfl rfl rfl).kept State.reset_linesKept
  claims _ := State.claimsAgree_congr (s := State.reset) rfl rfl State.reset_claimsAgree
  ranged h := by
    obtain ⟨-, ⟨counter, meters⟩, -⟩ := h
    refine ⟨by simp [State.clockKept, State.coldBlocks, State.reset, Clock.cold], ⟨counter, fun a => ?_⟩, State.reset_probesKept⟩
    have same : s.coldBlocks.store.meters.get a = { s.store.meters.get a with pendingTrial := none } := Table.get_map _ _ _
    rw [same]
    exact meters a

theorem State.keeps_coldStart (s : State) : s.keeps s.coldStart :=
  s.keeps_coldBlocks.trans ((State.steady_foldl (fun t o => t.steady_recover o) s.journal.saveArea s.coldBlocks).trans
    (State.steady_announceRecovery _ _)).keeps

/-! ### The warm restart (R38, R99, R182) -/

theorem State.ledger_restartLine (s : State) (a : Fin 6) (ref : LineRef) : s.ledger (s.restartLine a ref) :=
  (s.ledger_takeLine a false).trans (State.ledger_modifyLine _ ref _)

/-- The lines of an order ended on their arms, and those WAITING ended. -/
theorem State.ledger_restartLines (s : State) (slot : Fin 24) : s.ledger ((s.forArms (fun a t =>
    match (t.arm a).active with
    | some ref => if ref.slot = slot then t.restartLine a ref else t
    | none => t)).modifyOrder slot Order.endWaiting) := by
  refine State.ledger.trans (State.ledger_forArms (fun a t => ?_) s) (State.steady_endWaiting _ slot).toledger
  split
  · split
    · exact t.ledger_restartLine a _
    · exact t.ledger_refl
  · exact t.ledger_refl

/-- A slot restarted is free, its order's claim ended; no slot fills. -/
theorem State.restartSlot_spec (s : State) (slot : Fin 24) : s.accounts (s.restartSlot slot) ∧
    (s.restartSlot slot).order slot = none ∧ ∀ k, s.order k = none → (s.restartSlot slot).order k = none := by
  unfold State.restartSlot
  split
  · next ho => exact ⟨s.accounts_refl, ho, fun _ => id⟩
  · next o ho =>
    split
    · dsimp only
      have ledger := s.ledger_restartLines slot
      generalize (s.forArms _).modifyOrder slot Order.endWaiting = t at ledger ⊢
      obtain ⟨p, hp, -⟩ := ledger.claims.after ho
      have gone := State.closeQuietly_releases hp .restart
      refine ⟨ledger.accounts.trans ⟨State.closeQuietly_agree slot _, State.closeQuietly_ranged slot _⟩, ?_, fun k hk => ?_⟩
      · rw [gone.orders, if_pos rfl]
      · rw [gone.orders]
        split
        · rfl
        · exact optionRel_none (hk ▸ ledger.claims.orders k)
    · refine ⟨⟨State.releases.agree_gone (s := s) (slot := slot) (o := o)
        ⟨ho, fun k => State.order_setOrder _ _ _ _, fun e => State.endClaim_get _ _ e⟩, id⟩, ?_, fun k hk => ?_⟩
      · rw [State.order_setOrder, if_pos rfl]
      · rw [State.order_setOrder]
        split
        · rfl
        · exact hk

/-- The slots of a list restarted are free. -/
theorem State.restartSlots_spec : ∀ (slots : List (Fin 24)) (s : State), s.accounts (slots.foldl State.restartSlot s) ∧
    (∀ k ∈ slots, (slots.foldl State.restartSlot s).order k = none) ∧
      ∀ k, s.order k = none → (slots.foldl State.restartSlot s).order k = none
  | [], s => ⟨s.accounts_refl, fun _ h => absurd h List.not_mem_nil, fun _ => id⟩
  | slot :: rest, s => by
    obtain ⟨first, freed, still⟩ := s.restartSlot_spec slot
    obtain ⟨others, freed', still'⟩ := State.restartSlots_spec rest (s.restartSlot slot)
    refine ⟨first.trans others, fun k hk => ?_, fun k hk => still' k (still k hk)⟩
    rcases List.mem_cons.mp hk with rfl | hk
    · exact still' k freed
    · exact freed' k hk

/-- A bay without orders, its arms at rest. -/
theorem State.linesKept_of_empty {s : State} (arms : ∀ a, (s.arm a).standing ∧ (s.arm a).active = none)
    (orders : ∀ k, s.order k = none) : s.linesKept :=
  ⟨fun a => (arms a).1, fun _ => ⟨fun a ref hr => by simp [(arms a).2] at hr, fun k o j l ho => by simp [orders k] at ho⟩⟩

theorem State.keeps_restartBlocks (s : State) : s.keeps s.restartBlocks := by
  obtain ⟨closed, freed, -⟩ := State.restartSlots_spec slotList s
  unfold State.restartBlocks
  dsimp only
  generalize slotList.foldl State.restartSlot s = t at closed freed ⊢
  have onward := State.steady.after (State.steady_settleDeadman _)
    (State.steady_discardTrials (State.idleInjectors { t with arms := t.arms.map Arm.restart }))
  have rested : t.ledger (State.idleInjectors { t with arms := t.arms.map Arm.restart }) := State.ledger_of rfl rfl id
  refine (closed.trans (rested.trans onward.toledger).accounts).keeps fun _ => onward.lines.kept ?_
  refine State.linesKept_of_empty (fun a => ?_) fun k => freed k (mem_slotList k)
  have arm : (State.idleInjectors { t with arms := t.arms.map Arm.restart }).arm a = (t.arm a).restart :=
    Table.get_map _ _ a
  rw [arm]
  exact ⟨(t.arm a).rest_standing, rfl⟩

theorem State.keeps_restart (s : State) : s.keeps s.restart := by
  unfold State.restart
  dsimp only
  have blocks := s.keeps_restartBlocks
  generalize s.restartBlocks = t at blocks ⊢
  have emptied : t.steady { t with terminal := t.terminal.empty, console := t.console.empty } :=
    State.steady_of rfl rfl rfl rfl id
  exact blocks.trans (emptied.trans
    (State.steady_foldl (fun t slot => t.steady_announceClose slot) s.closingSlots _)).keeps

/-! ### Every step -/

theorem State.keeps_request {judge : State → Answer} (h : Request judge) (s : State) : s.keeps (judge s).1 := by
  cases h
  case refused c => exact s.keeps_refl
  case readBay => exact s.keeps_refl
  case readPermit num => exact (s.steady_readPermit num).keeps
  case readOrder num slot part => exact (State.steady_readOrder num slot part s).keeps
  case readArm arm => exact (State.steady_readArm arm s).keeps
  case readInjector i => exact (State.steady_readInjector i s).keeps
  case readNote seq part => exact (State.steady_readNote seq part s).keeps
  case listNotes => exact s.keeps_refl
  case readTotals part => exact (State.steady_readTotals part s).keeps
  case readStatistics arm => exact (State.steady_readStatistics arm s).keeps
  case fetchNotice p => exact (State.steady_fetchNotice p s).keeps
  case noticeDone p => exact (State.steady_noticeDone p s).keeps
  case setNoticeLevels => exact (State.steady_setNoticeLevels _ _ _ _ _ _ _ s).keeps
  case setClock => exact (State.steady_setClock _ _ s).keeps
  case writePermit => exact keeps_writePermit _ _ _ _ _ s
  case barPermit => exact keeps_barPermit _ s
  case deletePermit => exact keeps_deletePermit _ s
  case writeProduct => exact (State.steady_writeProduct _ _ _ _ _ _ s).keeps
  case writeRecipe => exact (State.steady_writeRecipe _ _ _ _ s).keeps
  case writeArmSetup => exact (State.steady_writeArmSetup _ _ _ _ _ _ s).keeps
  case assignInjector => exact (State.steady_assignInjector _ _ _ s).keeps
  case removeInjector => exact (State.steady_removeInjector _ _ s).keeps
  case assignStandby => exact (State.steady_assignStandby _ _ s).keeps
  case releaseStandby => exact (State.steady_releaseStandby _ s).keeps
  case returnInjector => exact (State.steady_returnInjector _ s).keeps
  case postOrder => exact keeps_postOrder _ _ _ _ _ s
  case amendOrder => exact keeps_amendOrder _ _ _ _ s
  case cancelOrder => exact keeps_cancelOrder _ s
  case holdRequest => exact (State.steady_holdRequest _ _ s).keeps
  case releaseArm => exact (State.steady_releaseArm _ s).keeps
  case clearLockout => exact (State.steady_clearLockout _ s).keeps
  case collectNote => exact (State.steady_collectNote _ s).keeps
  case writeKFactor arm k =>
    exact (State.steady_writeMeterItem arm _ (write := fun m => { m with kFactor := k }) (fun _ h => h) s).keeps
  case writeCurve arm points =>
    exact (State.steady_writeMeterItem arm _ (write := fun m => { m with curve := points }) (fun _ h => h) s).keeps
  case writeOffset arm offset =>
    exact (State.steady_writeMeterItem arm _ (write := fun m => { m with offset := offset }) (fun _ h => h) s).keeps
  case writeInjectorItem => exact (State.steady_writeInjectorItem _ _ _ _ s).keeps
  case setSeal => exact (State.steady_setSeal _ s).keeps
  case writeTrialFactor => exact (State.steady_writeTrialFactor _ _ s).keeps
  case readAndClearStatistics => exact (State.steady_readAndClearStatistics _ s).keeps
  case restart => exact s.keeps_restart
  case presentPermit => exact keeps_presentPermit _ _ _ s
  case releaseClaim => exact keeps_releaseClaim _ s
  case startLine => exact keeps_startLine _ _ _ s
  case resumeArm => exact (State.steady_resumeArm _ s).keeps
  case endLine => exact keeps_endLine _ s
  case finishOrder => exact keeps_finishOrder _ s
  case markPrinted => exact (State.steady_markPrinted _ s).keeps

theorem State.keeps_event {e : State → State} (h : Event e) (s : State) : s.keeps (e s) := by
  cases h
  case claimTimeout slot => exact s.keeps_claimTimeout slot
  case idleOrderTimeout slot => exact s.keeps_idleOrderTimeout slot
  case meterEdge a c => exact (s.steady_meterEdge a c).keeps
  case sample a => exact s.keeps_sample a
  case endGate timedOut => exact (s.steady_endGate timedOut).keeps
  case noFlowTimeout a =>
    dsimp only
    split
    · exact (s.steady_raiseHold a .noFlow).keeps
    · exact s.keeps_refl
  case suspendTimeout a =>
    dsimp only
    split
    · exact s.keeps_endSuspended a _ _
    · exact s.keeps_refl
  case losePermissive i => exact (s.steady_losePermissive i).keeps
  case returnPermissive i => exact (s.steady_returnPermissive i).keeps
  case restorePermissive i => exact (s.steady_restorePermissive i).keeps
  case stopPressed => exact s.keeps_stopPressed
  case stopReleased => exact s.steady_stopReleased.keeps
  case stopTimeout => exact s.steady_stopTimeout.keeps
  case warnDeadman => exact s.steady_warnDeadman.keeps
  case expireDeadman => exact s.steady_expireDeadman.keeps
  case deadmanButton pressed => exact (s.steady_deadmanButton pressed).keeps
  case totalled i => exact (s.steady_modifyInjectorStore i _).keeps
  case feedbackPulse a i => exact (s.steady_feedbackPulse a i).keeps
  case latePulse a => exact (s.steady_modifyDosing a _).keeps
  case windowExpires i => exact (s.steady_windowExpires i).keeps
  case switchChange x => exact State.steady.keeps (State.steady_of rfl rfl rfl rfl id)
  case powerFail b => exact State.steady.keeps (State.steady_of rfl rfl rfl rfl id)
  case save => exact s.keeps_save
  case coldStart => exact s.keeps_coldStart
  case gap p =>
    dsimp only
    split
    · exact (s.steady_modifyPort p _).keeps
    · exact s.keeps_refl
  case clockAdvance => exact s.steady_clockAdvance.keeps
  case referenceEdge => exact State.steady.keeps (State.steady_of rfl rfl rfl rfl id)
  case probeEdge a =>
    refine State.steady.keeps (State.steady_of rfl rfl rfl rfl fun h => ?_)
    obtain ⟨clock, store, probes⟩ := h
    refine ⟨clock, store, fun b => ?_⟩
    dsimp only
    rw [Table.get_modify]
    split
    · exact probes b
    · exact probes b

/-- The invariants of lines and arms, of claims, and of the ranges run along every step. -/
theorem State.keeps_along : Along State.keeps where
  refl := State.keeps_refl
  trans := State.keeps.trans
  queue _ _ _ := State.steady.keeps (State.steady_of rfl rfl rfl rfl id)
  port _ s p := (s.steady_modifyPort p _).keeps
  request := State.keeps_request
  event := State.keeps_event
  elapse s := s.steady_elapse.keeps

end Sys2Proof.Machine
end

section
namespace Sys2Proof.Proofs
open Sys2Proof Sys2Proof.Machine

/-- Settles O54: lines and arms, and permits and claims, by what each request, event, reception and millisecond keeps
(`State.keeps_along`). -/
theorem linesAndArmsAgree : Obligations.LinesAndArmsAgree := by
  unfold Obligations.LinesAndArmsAgree
  intro s t h
  have keeps := State.keeps_along.step h
  exact ⟨keeps.lines, keeps.claims⟩

/-- Settles O59: the ranges, by the same passage along every step. -/
theorem rangesAreKept : Obligations.RangesAreKept := by
  unfold Obligations.RangesAreKept
  intro s t h ranged
  exact (State.keeps_along.step h).ranged ranged

end Sys2Proof.Proofs
end

section
/-!
START LINE (R81 to R83): what its checks say, the boundary sample, and the line's start as one state.
-/

namespace Sys2Proof.Machine

/-! ### The injector that serves a line (R81, check 12; R130) -/

theorem State.serves_iff (s : State) (i : Fin 8) (additive : Nat) : s.serves i additive = true ↔
    (s.injectorStore i).failed = false ∧ (s.injectorStore i).additive = additive := by
  simp [State.serves]

theorem State.positionServing_eq (s : State) (a : Fin 6) (additive : Nat) :
    s.positionServing a additive =
      ((((s.arm a).setup.positions.get 0).bind (fun i => if s.serves i additive then some (0, i) else none)).or
        (((s.arm a).setup.positions.get 1).bind (fun i => if s.serves i additive then some (1, i) else none))) := by
  unfold State.positionServing positionList
  simp only [List.findSome?_cons, List.findSome?_nil]
  cases ((s.arm a).setup.positions.get 0).bind (fun i => if s.serves i additive then some ((0 : Fin 2), i) else none) <;>
    cases ((s.arm a).setup.positions.get 1).bind (fun i => if s.serves i additive then some ((1 : Fin 2), i) else none) <;> rfl

/-- The position found is the lower-numbered one that serves. -/
theorem State.positionServing_of {s : State} {a : Fin 6} {additive : Nat} {p : Fin 2} {i : Fin 8}
    (h : s.servedBy a additive p i) : s.positionServing a additive = some (p, i) := by
  obtain ⟨hp, hfailed, hadditive, lower⟩ := h
  have serves : s.serves i additive = true := (s.serves_iff i additive).mpr ⟨hfailed, hadditive⟩
  rw [State.positionServing_eq]
  match p with
  | 0 => simp [hp, serves]
  | 1 =>
    have passed : ((s.arm a).setup.positions.get 0).bind (fun i => if s.serves i additive then some ((0 : Fin 2), i) else none) =
        none := by
      cases hq : (s.arm a).setup.positions.get 0 with
      | none => rfl
      | some j =>
        have idle : s.serves j additive = false := by
          rw [← Bool.not_eq_true, State.serves_iff]
          rcases lower 0 j (by decide) hq with h | h
          · simp [h]
          · exact fun c => h c.2
        simp [idle]
    simp [passed, hp, serves]

theorem State.positionServing_none_iff (s : State) (a : Fin 6) (additive : Nat) : s.positionServing a additive = none ↔
    ¬ ∃ p i, (s.arm a).setup.positions.get p = some i ∧ (s.injectorStore i).failed = false ∧
      (s.injectorStore i).additive = additive := by
  have position : ∀ p : Fin 2, ((s.arm a).setup.positions.get p).bind
      (fun i => if s.serves i additive then some (p, i) else none) = none ↔
        ¬ ∃ i, (s.arm a).setup.positions.get p = some i ∧ s.serves i additive = true := by
    intro p
    cases (s.arm a).setup.positions.get p with
    | none => simp
    | some j => by_cases hj : s.serves j additive = true <;> simp [hj]
  rw [State.positionServing_eq, Option.or_eq_none_iff, position 0, position 1]
  simp only [← State.serves_iff, Fin.exists_fin_two]
  exact not_or.symm

theorem State.injectorMissing_iff (s : State) (a : Fin 6) (l : Line) : s.injectorMissing a l = true ↔
    ∃ m, l.recipe = some m ∧ ¬ ∃ x p i, s.recipes.get m = some x ∧ (s.arm a).setup.positions.get p = some i ∧
      (s.injectorStore i).failed = false ∧ (s.injectorStore i).additive = x.additive := by
  unfold State.injectorMissing
  cases l.recipe with
  | none => simp
  | some m =>
    cases hx : s.recipes.get m with
    | none => simp [hx]
    | some x =>
      simp only [Option.isNone_iff_eq_none, State.positionServing_none_iff, Option.some.injEq, exists_eq_left', hx]
      simp

/-! ### The claiming permit (R6, R11) -/

/-- What is asked of an order's claiming permit is asked of the permit held under its number, where one entry at most holds it. -/
theorem State.claimingPermit_asked {s : State} {o : Order} (unique : ∀ e f p q, s.permits.get e = some p →
    s.permits.get f = some q → o.claimPermit = some p.number → o.claimPermit = some q.number → e = f) (asked : Permit → Bool) :
    ((s.claimingPermit o).map asked).getD false = true ↔
      ∃ e q, s.permits.get e = some q ∧ o.claimPermit = some q.number ∧ asked q = true := by
  unfold State.claimingPermit State.permitNumbered
  cases hc : o.claimPermit with
  | none => simp
  | some num =>
    rw [hc] at unique
    cases hf : s.findPermit num with
    | none =>
      have absent : ∀ e q, s.permits.get e = some q → q.number ≠ num := State.permit_absent (by rw [hf]; rfl)
      simp only [Option.bind_some, hf, Option.bind_none, Option.map_none, Option.getD_none, Bool.false_eq_true, false_iff]
      rintro ⟨e, q, hq, hn, -⟩
      exact absent e q hq (Option.some.inj hn).symm
    | some e =>
      obtain ⟨p, hp, hn⟩ := State.findPermit_some hf
      simp only [Option.bind_some, hf, hp, Option.map_some, Option.getD_some]
      constructor
      · exact fun h => ⟨e, p, hp, congrArg some hn.symm, h⟩
      · rintro ⟨f, q, hq, hqn, h⟩
        obtain rfl : e = f := unique e f p q hp hq (congrArg some hn.symm) hqn
        rw [hp] at hq
        cases hq
        exact h

/-! ### The checks (R81) -/

theorem Bay.permits_iff (b : Bay) : (!b.permits) = true ↔
    b.ground.recognized = .lost ∨ b.overfill.recognized = .lost ∨ b.stop.active = true := by
  unfold Bay.permits
  cases b.ground.recognized <;> cases b.overfill.recognized <;> cases b.stop.active <;> simp

/-- The checks of START LINE are those of R81, in their order. -/
theorem State.startChecks_same {s : State} {o : Order} (unique : ∀ e f p q, s.permits.get e = some p →
    s.permits.get f = some q → o.claimPermit = some p.number → o.claimPermit = some q.number → e = f) (a : Fin 6) (l : Line) :
    List.Forall₂ (fun p b => (b.1 = true ↔ p.1) ∧ b.2 = p.2) (s.startChecked a o l) (s.startChecks a o l false) := by
  unfold State.startChecked State.startChecks
  refine .cons ⟨by simp [Line.isWaiting], rfl⟩ (.cons ⟨s.bay.permits_iff, rfl⟩ (.cons ⟨by simp, rfl⟩ (.cons ⟨?_, rfl⟩
    (.cons ⟨by simp, rfl⟩ (.cons ⟨by simp, rfl⟩ (.cons ⟨by simp, rfl⟩ (.cons ⟨?_, rfl⟩ (.cons ⟨?_, rfl⟩
      (.cons ⟨s.injectorMissing_iff a l, rfl⟩ .nil)))))))))
  · simp [Option.isSome_iff_ne_none, imp_iff_not_or]
  · rw [State.claimingPermit_asked unique]
    simp
  · rw [State.claimingPermit_asked unique]
    simp [Permit.expired]

theorem State.startTarget_of {s : State} {num k : Nat} {slot : Fin 24} {o : Order} {l : Line} (ho : s.onlyOrder num slot o)
    (hl : o.line? k = some l) : s.startTarget num k = some (slot, o, l) := by
  simp [State.startTarget, State.findOrder_eq ho, ho.1, hl]

theorem Order.line?_pos {o : Order} {k : Nat} {l : Line} (h : o.line? k = some l) : 1 ≤ k := by
  unfold Order.line? at h
  split at h
  · cases h
  · omega

/-- START LINE on an arm, an order and a line that are there: its checks, then its start or its queueing. -/
theorem startLine_checked {s : State} {slot : Fin 24} {o : Order} (ho : s.onlyOrder o.number slot o) {k : Nat} {l : Line}
    (hl : o.line? k = some l) (hk : k ≤ 9) (a : Fin 6) :
    startLine (number a) o.number k s = s.checked (s.startChecks a o l false)
      (if (s.arm a).state = .idle then ((s.sample a).beginLine a slot k).ok []
       else (s.modifyArm a (fun x => { x with queued := some ⟨o.number, k⟩ }), [ReplyCode.queued.byte])) := by
  have within : (!within 1 9 k) = false := by simp [Machine.within, hk, Order.line?_pos hl]
  simp only [startLine, number, indexOf_number, within, Bool.false_eq_true, if_false, State.startTarget_of ho hl]

theorem startLine_absent {s : State} {num k : Nat} (h1 : 1 ≤ k) (h9 : k ≤ 9)
    (h : (∀ slot o, s.order slot = some o → o.number ≠ num) ∨ ∃ slot o, s.onlyOrder num slot o ∧ o.line? k = none) (a : Fin 6) :
    startLine (number a) num k s = s.refuse .noSuch := by
  have within : (!within 1 9 k) = false := by simp [Machine.within, h1, h9]
  have target : s.startTarget num k = none := by
    rcases h with h | ⟨slot, o, ho, hl⟩
    · simp [State.startTarget, State.findOrder_none h]
    · simp [State.startTarget, State.findOrder_eq ho, ho.1, hl]
  simp only [startLine, number, indexOf_number, within, Bool.false_eq_true, if_false, target]

theorem startLine_outOfRange {arm k : Nat} (h : arm = 0 ∨ 6 < arm ∨ k = 0 ∨ 9 < k) (num : Nat) (s : State) :
    startLine arm num k s = s.refuse .badField := by
  unfold startLine
  split
  · rfl
  · next a ha =>
    have within : (!within 1 9 k) = true := by
      have hlt := a.isLt
      have hval := indexOf_eq_some.mp ha
      simp only [Machine.within, Bool.not_eq_true', Bool.and_eq_false_iff, decide_eq_false_iff_not]
      omega
    rw [if_pos within]

/-! ### The boundary sample (R52) -/

/-- A stray sample but for its notice: the arm and its totalizers have taken it (R51, R55, R98). -/
def State.strayed (s : State) (a : Fin 6) : State :=
  ((((s.modifyArm a (fun x => { x with
      decoder := { x.decoder with sampleCount := 0 }
      sampleTimer := Config.samplePeriod
      flowRate := (s.sampleOf a).flow
      strayCarries := (s.sampleOf a).carries })).modifyMeterStore a (fun m => { m with
        gross := m.gross.advance (s.sampleOf a).gross, standard := m.standard.advance (s.sampleOf a).standard })).modifyArm a
          (fun x => x.countSample (s.arm a).decoder.sampleCount 0)).modifyArm a
            (fun x => { x with stray := min Config.maxCount32 ((s.arm a).stray + (s.sampleOf a).gross) }))

/-- The stray accumulator crosses a whole multiple of 5,000 mL at the sample (R98). -/
def State.straysOver (s : State) (a : Fin 6) : Bool :=
  decide ((s.arm a).stray / 5000 < min Config.maxCount32 ((s.arm a).stray + (s.sampleOf a).gross) / 5000)

/-- A stray sample as one state (R52, R55, R98). -/
theorem State.sample_stray {s : State} {a : Fin 6} (hn : (s.arm a).active = none) :
    s.sample a = (s.strayed a).raiseIf (s.straysOver a) .strayFlow (number a) := by
  have arm : ∀ f g, (((s.modifyArm a f).modifyMeterStore a g).arm a) = f (s.arm a) := by
    intro f g
    rw [State.arm_congr (State.modifyMeterStore_arms _ _ _), State.arm_modifyArm, if_pos rfl]
  have counted : ∀ f g h, ((((s.modifyArm a f).modifyMeterStore a g).modifyArm a h).arm a).stray = (h (f (s.arm a))).stray := by
    intro f g h
    rw [State.arm_modifyArm, if_pos rfl, arm]
  unfold State.sample
  rw [if_neg (by simp [hn])]
  unfold State.meterSample
  rw [State.modifyActiveLine_free (by rw [arm]; exact hn)]
  simp only [hn, Option.isSome_none, Bool.false_eq_true, if_false, State.straySample, State.addStray, counted, State.raiseIf,
    State.straysOver, decide_eq_true_eq]
  rfl

/-- The sample and a frame heard on a port do not meet. -/
theorem State.sample_heard {s : State} {a : Fin 6} (hn : (s.arm a).active = none) (p : PortId) :
    (s.heard p).sample a = (s.sample a).heard p := by
  have heard : (s.heard p).strayed a = (s.strayed a).heard p ∧ (s.heard p).straysOver a = s.straysOver a ∧
      ((s.heard p).arm a).active = (s.arm a).active := by
    cases p <;> exact ⟨rfl, rfl, rfl⟩
  obtain ⟨strayed, crosses, active⟩ := heard
  rw [State.sample_stray hn, State.sample_stray (active.trans hn), strayed, crosses]
  cases s.straysOver a
  · rfl
  · exact (State.raise_heard _ _ _ _).symm

/-- The sample and the model's own record of the expiries that wait do not meet. -/
theorem State.sample_due {s : State} {a : Fin 6} (hn : (s.arm a).active = none) (due : List Instr) :
    ({ ({ s with due := due } : State).sample a with due := s.due } : State) = s.sample a := by
  have same : ({ s with due := due } : State).strayed a = { s.strayed a with due := due } ∧
      ({ s with due := due } : State).straysOver a = s.straysOver a := ⟨rfl, rfl⟩
  rw [State.sample_stray hn, State.sample_stray (s := { s with due := due }) hn, same.1, same.2]
  cases s.straysOver a <;> rfl

/-! ### The line's start (R31, R82, R130) -/

theorem Table.modify_modify {n : Nat} {α : Type} (t : Table n α) (i : Fin n) (f g : α → α) :
    (t.modify i f).modify i g = t.modify i (fun x => g (f x)) := by
  rw [Table.modify_eq_set, Table.modify_eq_set, Table.modify_eq_set, Table.get_set_self, Table.set_set]

/-- The order as its line starts. -/
theorem Order.startLine_eq {o : Order} {k : Nat} {l : Line} (hl : o.line? k = some l)
    (hs : o.state = .claimed ∨ o.state = .loading) (a : Fin 6) (record : LineRecord) (flags : LineFlags) :
    o.startLine k a record flags = { o with
      state := .loading
      claimTimer := none
      idleTimer := none
      lines := o.lines.set (k - 1) { l with state := .active a, record := record, flags := flags } } := by
  have hget : o.lines[k - 1]? = some l := by
    unfold Order.line? at hl
    split at hl
    · cases hl
    · exact hl
  have hstate : (if o.state = .claimed then .loading else o.state) = OrderState.loading := by
    rcases hs with h | h <;> simp [h]
  have hlines : o.lines.modify (k - 1) (fun l => { l with state := .active a, record := record, flags := flags }) =
      o.lines.set (k - 1) { l with state := .active a, record := record, flags := flags } := by
    rw [List.modify_eq_set_getElem?, hget]
    rfl
  simp only [Order.startLine, hstate, hlines]

/-- What a line's start opens of dosing, as one change of its arm. -/
theorem State.openDosing_eq {s : State} {a : Fin 6} {x : Recipe} {p : Fin 2} {i : Fin 8} (h : s.servedBy a x.additive p i)
    {recipe : Option (Fin 16)} (hr : recipe.bind s.recipes.get = some x) : s.openDosing a recipe =
      s.modifyArm a (fun y => { y with dosing := some (DosingRecord.opened x p i (s.injectorStore i)) }) := by
  simp only [State.openDosing, hr, State.positionServing_of h]
  rfl

/-- Changing one order is writing its slot. -/
theorem State.modifyOrder_eq {s : State} {slot : Fin 24} {o : Order} (ho : s.order slot = some o) (f : Order → Order) :
    s.modifyOrder slot f = { s with orders := s.orders.set slot (some (f o)) } := by
  have ho : s.orders.get slot = some o := ho
  simp [State.modifyOrder, Table.modify_eq_set, ho]

theorem State.modifyArm_congr (s : State) (a : Fin 6) {f g : Arm → Arm} (h : f (s.arm a) = g (s.arm a)) :
    s.modifyArm a f = s.modifyArm a g := by
  have h : f (s.arms.get a) = g (s.arms.get a) := h
  simp only [State.modifyArm, Table.modify_eq_set, h]

theorem State.modifyArm_modifyArm (s : State) (a : Fin 6) (f g : Arm → Arm) :
    (s.modifyArm a f).modifyArm a g = s.modifyArm a (fun x => g (f x)) := by
  simp only [State.modifyArm, Table.modify_modify]

/-- The line's start before its dosing opens. -/
def State.startBound (s : State) (a : Fin 6) (slot : Fin 24) (k : Nat) : State :=
  ((s.modifyOrder slot (fun o => o.startLine k a (s.firstRecord a) (s.firstFlags a))).modifyMeterStore a
    (fun m => { m with pendingTrial := none })).modifyArm a (fun x => x.startLine ⟨slot, k⟩ (s.meterStore a).pendingTrial)

theorem State.beginLine_of {s : State} {slot : Fin 24} {o : Order} (ho : s.order slot = some o) {k : Nat} {l : Line}
    (hl : o.line? k = some l) (a : Fin 6) :
    s.beginLine a slot k = ((s.startBound a slot k).openDosing a l.recipe).restartDeadman := by
  have place : s.lineAt ⟨slot, k⟩ = some l := (s.lineAt_iff ⟨slot, k⟩ l).mpr ⟨o, ho, hl⟩
  simp only [State.beginLine, place, Option.bind_some]
  rfl

/-- The line's start with its dosing record, as one state. -/
theorem State.startBound_opened {s : State} {slot : Fin 24} {o : Order} (ho : s.order slot = some o) {k : Nat} {l : Line}
    (hl : o.line? k = some l) (hs : o.state = .claimed ∨ o.state = .loading) (a : Fin 6) (d : Option DosingRecord) :
    ((s.startBound a slot k).modifyArm a (fun y => { y with dosing := d })).restartDeadman = s.lineStarted a slot o k l d := by
  unfold State.startBound
  rw [State.modifyArm_modifyArm, State.modifyOrder_eq ho, Order.startLine_eq hl hs]
  rfl

/-- A line that names no recipe starts on an arm without a dosing record. -/
theorem State.beginLine_plain {s : State} {slot : Fin 24} {o : Order} (ho : s.order slot = some o) {k : Nat} {l : Line}
    (hl : o.line? k = some l) (hs : o.state = .claimed ∨ o.state = .loading) {a : Fin 6} (hd : (s.arm a).dosing = none)
    (hr : l.recipe = none) : s.beginLine a slot k = s.lineStarted a slot o k l none := by
  have kept : (s.startBound a slot k).modifyArm a (fun y => { y with dosing := none }) = s.startBound a slot k := by
    unfold State.startBound
    rw [State.modifyArm_modifyArm]
    exact State.modifyArm_congr _ a (congrArg (fun d => { (s.arm a).startLine ⟨slot, k⟩ (s.meterStore a).pendingTrial with dosing := d }) hd.symm)
  rw [State.beginLine_of ho hl, hr, ← State.startBound_opened ho hl hs a none, kept]
  rfl

/-- A line that names a recipe starts with the record of the injector that serves it. -/
theorem State.beginLine_dosed {s : State} {slot : Fin 24} {o : Order} (ho : s.order slot = some o) {k : Nat} {l : Line}
    (hl : o.line? k = some l) (hs : o.state = .claimed ∨ o.state = .loading) {a : Fin 6} {m : Fin 16} {x : Recipe}
    (hr : l.recipe = some m) (hx : s.recipes.get m = some x) {p : Fin 2} {i : Fin 8} (hi : s.servedBy a x.additive p i) :
    s.beginLine a slot k = s.lineStarted a slot o k l (some (DosingRecord.opened x p i (s.injectorStore i))) := by
  have served : (s.startBound a slot k).servedBy a x.additive p i := by
    have setup : ((s.startBound a slot k).arm a).setup = (s.arm a).setup := by
      unfold State.startBound
      rw [State.arm_modifyArm, if_pos rfl]
      rfl
    unfold State.servedBy
    rw [setup]
    exact hi
  rw [State.beginLine_of ho hl, ← State.startBound_opened ho hl hs a, State.openDosing_eq served]
  · rfl
  · rw [hr]
    exact hx

end Sys2Proof.Machine
end

section
namespace Sys2Proof.Machine

/-- What a stray sample leaves of its arm and of the tables. -/
theorem State.sample_stray_keeps {s : State} {a : Fin 6} (hn : (s.arm a).active = none) :
    (s.sample a).recipes = s.recipes ∧ (s.sample a).store.injectors = s.store.injectors ∧
      ((s.sample a).arm a).setup = (s.arm a).setup ∧ ((s.sample a).arm a).dosing = (s.arm a).dosing := by
  have arm : ((s.strayed a).arm a).setup = (s.arm a).setup ∧ ((s.strayed a).arm a).dosing = (s.arm a).dosing := by
    unfold State.strayed
    rw [State.arm_modifyArm, if_pos rfl, State.arm_modifyArm, if_pos rfl,
      State.arm_congr (State.modifyMeterStore_arms _ _ _), State.arm_modifyArm, if_pos rfl]
    exact ⟨rfl, rfl⟩
  rw [State.sample_stray hn]
  cases s.straysOver a
  · exact ⟨rfl, rfl, arm⟩
  · exact ⟨rfl, rfl, arm⟩

/-- No other entry holds the claiming permit of a line that may start. -/
theorem State.startable_unique {s : State} {o : Order} (h : ∃ e q, o.claimPermit = some q.number ∧ s.onlyPermit q.number e q) :
    ∀ e f p q, s.permits.get e = some p → s.permits.get f = some q → o.claimPermit = some p.number →
      o.claimPermit = some q.number → e = f := by
  obtain ⟨g, r, hc, -, -, only⟩ := h
  intro e f p q hp hq hpn hqn
  rw [hc] at hpn hqn
  rw [only e p hp (Option.some.inj hpn).symm, only f q hq (Option.some.inj hqn).symm]

/-- The checks pass where a line may start, its arm is IDLE or closes for a line end, and its injector serves. -/
theorem State.startable_passes {s : State} {a : Fin 6} {slot : Fin 24} {o : Order} {k : Nat} {l : Line}
    (h : s.startable a slot o k l)
    (harm : (s.arm a).state = .idle ∨ (s.arm a).state = .closing ∧ (s.arm a).reason = some .lineEnd)
    (hq : (s.arm a).queued = none)
    (hr : ∀ m, l.recipe = some m → ∃ x p i, s.recipes.get m = some x ∧ s.servedBy a x.additive p i) (act : Answer) :
    s.checked (s.startChecks a o l false) act = act := by
  obtain ⟨-, hstate, -, -, hw, hground, hoverfill, hstop, hproduct, hprobe, hk, hcurve, e, q, hc, hperm, hactive, hday⟩ := h
  refine State.checked_passed s act (State.startChecks_same (State.startable_unique ⟨e, q, hc, hperm⟩) a l) fun p hp => ?_
  have claiming : ∀ f r, s.permits.get f = some r → o.claimPermit = some r.number → r = q := by
    intro f r hf hn
    obtain rfl : f = e := State.startable_unique ⟨e, q, hc, hperm⟩ f e r q hf hperm.1 hn hc
    rw [hperm.1] at hf
    exact (Option.some.inj hf).symm
  simp only [State.startChecked, List.mem_cons, List.not_mem_nil, or_false] at hp
  rcases hp with rfl | rfl | rfl | rfl | rfl | rfl | rfl | rfl | rfl | rfl
  · rcases hstate with hs | hs <;> simp [hs, hw]
  · simp [hground, hoverfill, hstop]
  · rcases harm with hs | hs <;> simp [hs]
  · rcases harm with hs | hs <;> simp [hs, hq]
  · simp [hproduct]
  · rcases hprobe with hs | hs <;> simp [hs]
  · simp [hk, hcurve]
  · rintro ⟨f, r, hf, hn, hbarred⟩
    rw [claiming f r hf hn, hactive] at hbarred
    cases hbarred
  · rintro ⟨f, r, hf, hn, hexpired⟩
    rw [claiming f r hf hn] at hexpired
    exact absurd hday (by omega)
  · rintro ⟨m, hm, hmissing⟩
    obtain ⟨x, p, i, hx, hp, hfailed, hadditive, -⟩ := hr m hm
    exact hmissing ⟨x, p, i, hx, hp, hfailed, hadditive⟩

/-- START LINE on an IDLE arm: the boundary sample, and the line's start. -/
theorem startLine_starts {s : State} {a : Fin 6} {slot : Fin 24} {o : Order} {k : Nat} {l : Line}
    (h : s.startable a slot o k l) (hidle : (s.arm a).state = .idle) (hq : (s.arm a).queued = none)
    (hr : ∀ m, l.recipe = some m → ∃ x p i, s.recipes.get m = some x ∧ s.servedBy a x.additive p i) :
    startLine (number a) o.number k s = ((s.sample a).beginLine a slot k).ok [] := by
  have passes := State.startable_passes h (.inl hidle) hq hr
  obtain ⟨ho, -, hl, hk, -⟩ := h
  rw [startLine_checked ho hl hk a, passes, if_pos hidle]

/-- START LINE on an arm that closes for a line end: the start is queued. -/
theorem startLine_queues {s : State} {a : Fin 6} {slot : Fin 24} {o : Order} {k : Nat} {l : Line}
    (h : s.startable a slot o k l) (hs : (s.arm a).state = .closing) (hreason : (s.arm a).reason = some .lineEnd)
    (hq : (s.arm a).queued = none)
    (hr : ∀ m, l.recipe = some m → ∃ x p i, s.recipes.get m = some x ∧ s.servedBy a x.additive p i) :
    startLine (number a) o.number k s =
      (s.modifyArm a (fun x => { x with queued := some ⟨o.number, k⟩ }), [ReplyCode.queued.byte]) := by
  have passes := State.startable_passes h (.inr ⟨hs, hreason⟩) hq hr
  obtain ⟨ho, -, hl, hk, -⟩ := h
  rw [startLine_checked ho hl hk a, passes, if_neg (by simp [hs])]

end Sys2Proof.Machine
end

section
namespace Sys2Proof.Proofs
open Sys2Proof Sys2Proof.Machine

/-- Settles O35: START LINE by its ranges, by what its tables hold, by its checks, and by the state of its arm. -/
theorem startLine : Obligations.StartLine := by
  unfold Obligations.StartLine
  intro tag s h
  refine ⟨fun arm num k hrange => ?_, fun a => ⟨fun num k h1 h9 habsent => ?_, fun slot o k l => ⟨?_, ?_, ?_⟩⟩⟩
  · exact congrArg Host.Outcome.next (State.frame_refused h rfl (startLine_outOfRange hrange num _))
  · exact congrArg Host.Outcome.next (State.frame_refused h rfl (startLine_absent (s := s.heard .console) h1 h9 habsent a))
  · intro c ho hl hk differ refused
    refine congrArg Host.Outcome.next (State.frame_refused h rfl ?_)
    rw [startLine_checked (s := s.heard .console) ho hl hk a]
    exact State.checked_refusedBy _ _ (State.startChecks_same (s := s.heard .console)
      (fun e f p q hp hq hpn hqn => differ e f p q hp hq (Option.some.inj (hpn.symm.trans hqn))) a l) refused
  · intro b startable hidle hq hn hd hb
    have sampled : exec (.meteringSample a) { s with due := [] } = .next (({ s with due := [] } : State).sample a) :=
      congrArg Host.Outcome.next (State.expiry_own (by simp) _)
    rw [sampled] at hb
    cases hb
    dsimp only
    rw [State.sample_due hn]
    obtain ⟨recipes, injectors, setup, dosing⟩ := State.sample_stray_keeps hn
    have ho : (s.sample a).order slot = some o := by
      rw [State.order_congr (State.sample_stray_orders hn)]
      exact startable.1.1
    have hs := startable.2.1
    have hl := startable.2.2.1
    refine ⟨fun hr => ?_, fun m x p i hr hx hi => ?_⟩
    · refine congrArg Host.Outcome.next (State.frame_answered h rfl ?_)
      rw [startLine_starts (s := s.heard .console) startable hidle hq (by simp [hr]), State.sample_heard hn,
        State.beginLine_plain (s := (s.sample a).heard .console) ho hl hs (dosing.trans hd) hr]
      rfl
    · refine congrArg Host.Outcome.next (State.frame_answered h rfl ?_)
      have served : ((s.sample a).heard .console).servedBy a x.additive p i := by
        have cal : ∀ j, ((s.sample a).heard .console).injectorStore j = s.injectorStore j := fun j =>
          congrArg (fun t => Table.get t j) injectors
        have positions : (((s.sample a).heard .console).arm a).setup = (s.arm a).setup := setup
        simpa only [State.servedBy, cal, positions] using hi
      have recipe : ((s.sample a).heard .console).recipes.get m = some x := (congrArg (fun t => Table.get t m) recipes).trans hx
      have cal : (s.sample a).injectorStore i = s.injectorStore i := congrArg (fun t => Table.get t i) injectors
      rw [startLine_starts (s := s.heard .console) startable hidle hq (fun m' hm' => ?_), State.sample_heard hn,
        State.beginLine_dosed (s := (s.sample a).heard .console) ho hl hs hr recipe served, ← cal]
      · rfl
      · rw [hr] at hm'
        cases hm'
        exact ⟨x, p, i, hx, hi⟩
  · intro startable hs hreason hq hr
    have queued := startLine_queues (s := s.heard .console) startable hs hreason hq hr
    refine congrArg Host.Outcome.next ((State.frame_ready h rfl _ _ _).trans ?_)
    rw [queued]
    rfl

end Sys2Proof.Proofs
end

section
/-!
The fields of a reply (11), their lengths and the numbers they spell, and what the model's reports are item by item.
-/

namespace Sys2Proof.Machine

/-! ### Fields -/

theorem bigEndian_length : ∀ width n : Nat, (bigEndian width n).length = width
  | 0, _ => rfl
  | width + 1, n => congrArg (· + 1) (bigEndian_length width n)

@[simp] theorem field_length (width n : Nat) : (field width n).length = width := bigEndian_length width _

@[simp] theorem signedField_length (width : Nat) (v : Int) : (signedField width v).length = width := by
  unfold signedField
  split <;> exact bigEndian_length width _

@[simp] theorem yesNo_length (b : Bool) : (yesNo b).length = 1 := rfl

/-- An optional group is its presence byte and its width. -/
@[simp] theorem optionalField_length {α : Type} {width : Nat} {content : α → List Byte}
    (h : ∀ x, (content x).length = width) (o : Option α) : (optionalField width content o).length = width + 1 := by
  cases o with
  | none => simp [optionalField]
  | some x => simp [optionalField, h]

@[simp] theorem timerField_length (t : Option Nat) : (timerField t).length = 3 := by simp [timerField]

/-- The bytes of a number, read onward from what stands before them. -/
theorem foldl_bigEndian (n : Nat) : ∀ width before : Nat,
    (bigEndian width n).foldl (fun acc (b : Byte) => acc * 256 + b.toNat) before = before * 256 ^ width + n % 256 ^ width
  | 0, before => by simp [bigEndian, Nat.mod_one]
  | width + 1, before => by
    rw [bigEndian, List.foldl_cons, foldl_bigEndian n width, Nat.mod_pow_succ, BitVec.toNat_ofNat, Nat.pow_succ]
    ring

theorem readBigEndian_bigEndian (width n : Nat) : readBigEndian (bigEndian width n) = n % 256 ^ width := by
  exact (foldl_bigEndian n width 0).trans (by rw [Nat.zero_mul, Nat.zero_add])

/-- A number that fits its field is the number the field spells. -/
theorem readBigEndian_field {width n : Nat} (h : n < 256 ^ width) : readBigEndian (field width n) = n := by
  rw [field, if_pos h, readBigEndian_bigEndian, Nat.mod_eq_of_lt h]

/-! ### The average temperature of a line (R77) -/

/-- The quotient nearest to a sum that is not negative, halves upward. -/
theorem nearest_unique {d t q : Int} (hd : 0 < d) (ht : 0 ≤ t) (near : 2 * |d * q - t| ≤ d)
    (tie : 2 * |d * q - t| = d → |t| ≤ d * |q|) : (2 * t + d) / (2 * d) = q := by
  obtain ⟨low, high⟩ := abs_le.mp (show |2 * (d * q - t)| ≤ d by rwa [abs_mul, abs_two])
  rw [Int.ediv_eq_iff_of_pos (by omega)]
  have commuted : q * (2 * d) = 2 * (d * q) := by ring
  rw [commuted]
  refine ⟨by omega, ?_⟩
  by_contra hhalf
  have half : 2 * t = 2 * (d * q) + d := by omega
  have nonneg : 0 ≤ q := by
    by_contra hq
    have below : d * q ≤ d * (-1) := Int.mul_le_mul_of_nonneg_left (by omega) (by omega)
    omega
  have tied := tie (by rw [abs_of_nonpos (by omega)]; omega)
  rw [abs_of_nonneg ht, abs_of_nonneg nonneg] at tied
  omega

/-- The average said in R77 is the one the record gives. -/
theorem LineRecord.average_unique {r : LineRecord} {average : Option Int} (h : r.averages average) : average = r.average := by
  obtain ⟨absent, nearest⟩ := h
  unfold LineRecord.average
  split
  · next h0 => exact absent h0
  · next h0 =>
    obtain ⟨q, rfl, near, tie⟩ := nearest h0
    have volume : 0 < r.gv := Nat.pos_of_ne_zero h0
    have pos : (0 : Int) < 10 * r.gv := by positivity
    have den : ((r.gv * 10 : Nat) : Int) = 10 * r.gv := by push_cast; ring
    refine congrArg Option.some ?_
    unfold roundHalfAway
    rw [den]
    split
    · next ht => exact (nearest_unique pos ht near tie).symm
    · next ht =>
      have flipped : |10 * (r.gv : Int) * -q - -r.tsum| = |10 * r.gv * q - r.tsum| := by
        rw [← abs_neg]
        congr 1
        ring
      rw [nearest_unique (q := -q) pos (by omega) (by rwa [flipped]) (by rwa [flipped, abs_neg, abs_neg]), neg_neg]

end Sys2Proof.Machine
end

section
/-!
What each read answers is the report of its rule, item by item; and each report has one length.
-/

namespace Sys2Proof.Machine

/-! ### Codes and standings -/

theorem switchCode_eq (x : SwitchPosition) : switchCode x = if x = .amend then 1 else 2 := by cases x <;> rfl

theorem Recognized.code_eq (x : Recognized) : x.code = if x = .present then 1 else 2 := by cases x <;> rfl

theorem DecoderMode.code_eq (x : DecoderMode) : x.code = if x = .line then 1 else 2 := by cases x <;> rfl

theorem armList_eq_finRange : armList = List.finRange 6 := by decide

theorem Line.stateCode_eq (l : Line) : l.stateCode =
    if l.isWaiting = true then 1 else if l.isRunning = true then 2 else if l.isEnding = true then 3 else 4 := by
  unfold Line.stateCode Line.isRunning Line.isEnding Line.isWaiting Line.isActive
  cases l.state <;> cases l.result <;> rfl

/-- The first of two timers that run. -/
theorem or_eq_ite (x y : Option Nat) : x.or y = if x.isSome then x else y := by cases x <;> rfl

/-! ### READ BAY and READ PERMIT (R13, R119) -/

theorem readBay_eq (s : State) : readBay s = s.ok s.bayReport := by
  simp only [readBay, State.bayReport, permissiveContent, holdsContent, bayTimeField, State.now, secondsDown, switchCode_eq,
    Recognized.code_eq, armList_eq_finRange, List.append_assoc]

theorem State.bayReport_length (s : State) : s.bayReport.length = 55 := by
  simp [State.bayReport, List.length_flatMap]

theorem readPermit_eq {s : State} {num : Nat} {e : Fin 200} {q : Permit} (h : s.onlyPermit num e q) :
    readPermit num s = s.ok (s.permitReport e q) := by
  simp only [readPermit, State.permitFound h]
  rfl

theorem State.permitReport_length (s : State) (e : Fin 200) (q : Permit) : (s.permitReport e q).length = 25 := by
  simp [State.permitReport]

/-! ### READ ORDER (R39) -/

theorem orderContent_eq (slot : Fin 24) (o : Order) : orderContent slot o = o.report slot := by
  simp only [orderContent, Order.report, or_eq_ite]
  rfl

theorem Order.report_length (o : Order) (slot : Fin 24) : (o.report slot).length = 37 := by
  simp [Order.report]

theorem State.lineContent_eq (s : State) {l : Line} {average : Option Int} (h : l.record.averages average) :
    s.lineContent l = l.report average (s.additiveAsItStands l).1 (s.additiveAsItStands l).2 := by
  simp only [State.lineContent, Line.report, Line.stateCode_eq, LineRecord.average_unique h]
  rfl

theorem Line.report_length (l : Line) (average : Option Int) (dosed required : Nat) :
    (l.report average dosed required).length = 33 := by
  simp [Line.report]

/-- READ ORDER of the order or the line that an order number or a slot names. -/
theorem readOrder_named {s : State} {num slot part : Nat} {k : Fin 24} {o : Order}
    (named : (num = 0 ∧ indexOf 24 slot = some k) ∨ (num ≠ 0 ∧ s.findOrder num = some k)) (ho : s.order k = some o) :
    (readOrder num slot 0 s = s.ok (orderContent k o)) ∧
      (part ≤ 9 → ∀ l, o.line? part = some l → readOrder num slot part s = s.ok (s.lineContent l)) := by
  have found : ((if num = 0 then indexOf 24 slot else s.findOrder num).bind (fun k => (s.order k).map (fun o => (k, o)))) =
      some (k, o) := by
    rcases named with ⟨h, hk⟩ | ⟨h, hk⟩
    · simp [h, hk, ho]
    · simp [h, hk, ho]
  have inRange : ¬ (num = 0 ∧ (indexOf 24 slot).isNone = true) := by
    rcases named with ⟨h, hk⟩ | ⟨h, -⟩
    · simp [hk]
    · simp [h]
  refine ⟨?_, fun hpart l hl => ?_⟩
  · simp only [readOrder]
    rw [if_neg (by simpa using inRange), found]
    rfl
  · have pos := Order.line?_pos hl
    simp only [readOrder]
    rw [if_neg (by rintro (h | h); exacts [inRange h, by omega]), found]
    simp only [if_neg (show ¬ part = 0 by omega), hl]

/-! ### READ ARM and READ INJECTOR (R101, R144) -/

/-- A name's characters and the zero bytes after them are 16 bytes. -/
theorem paddedName_length (name : List Byte) : ((name ++ List.replicate 16 0#8).take 16).length = 16 := by
  rw [List.length_take, List.length_append, List.length_replicate]
  omega

theorem State.append_setupContent (s : State) (x : ArmSetup) (before : List Byte) : before ++ s.setupContent x =
    before ++ field 1 (numberOrZero x.product) ++ field 2 x.lowStart ++ field 2 x.restart ++ field 2 x.topOff
      ++ field 2 x.overrunLimit
      ++ optionalField 1 (fun (i : Fin 8) => field 1 (number i)) (x.positions.get 0)
      ++ optionalField 1 (fun (i : Fin 8) => field 1 (number i)) (x.positions.get 1)
      ++ optionalField 17 (fun (q : Product) => (q.name ++ List.replicate 16 0#8).take 16 ++ field 1 q.cls)
          (x.product.bind s.products.get) := by
  simp only [State.setupContent, nameField, positionList, List.flatMap_cons, List.flatMap_nil, List.append_nil,
    List.append_assoc]

theorem append_probeContent (p : Probe) (before : List Byte) : before ++ probeContent p =
    before ++ field 1 p.status.code ++ signedField 2 p.temperature ++ field 1 p.invalidRun
      ++ optionalField 2 (signedField 2) p.lastGate := by
  simp only [probeContent, List.append_assoc]

theorem readArm_eq (s : State) (a : Fin 6) : readArm (number a) s = s.ok (s.armReport a) := by
  simp only [readArm, number, indexOf_number]
  rw [append_probeContent, State.append_setupContent, or_eq_ite]
  rfl

theorem State.armReport_length (s : State) (a : Fin 6) : (s.armReport a).length = 103 := by
  unfold State.armReport
  dsimp only
  simp only [List.length_append, field_length, yesNo_length, timerField_length, signedField_length, optionalField_length,
    paddedName_length, implies_true]

theorem mem_positionList (q : Fin 2) : q ∈ positionList := by revert q; decide

/-- Where an injector is PRIMARY, and whose STANDBY it is, as the setups and the pairs say. -/
theorem State.positionOf_eq {s : State} {i : Fin 8} {place : Option (Fin 6 × Fin 2)}
    (h : ∀ a q, place = some (a, q) ↔ (s.arm a).setup.positions.get q = some i) : s.positionOf i = place := by
  have held : ∀ x, s.positionOf i = some x → place = some x := by
    intro ⟨a, q⟩ hx
    obtain ⟨b, -, hb⟩ := List.exists_of_findSome?_eq_some hx
    obtain ⟨q', hq, heq⟩ := Option.map_eq_some_iff.mp hb
    cases heq
    exact (h a q).mpr (by simpa using List.find?_some hq)
  cases hp : s.positionOf i with
  | some x => exact (held x hp).symm
  | none =>
    cases place with
    | none => rfl
    | some x =>
      obtain ⟨a, q⟩ := x
      have empty := List.findSome?_eq_none_iff.mp hp a (mem_armList a)
      have passed := List.find?_eq_none.mp (Option.map_eq_none_iff.mp empty) q (mem_positionList q)
      simp [(h a q).mp rfl] at passed

theorem State.primaryOf_eq {s : State} {i : Fin 8} {primary : Option (Fin 8)}
    (h : ∀ j, primary = some j ↔ (s.injector j).standby = some i) : s.primaryOf i = primary := by
  cases hp : s.primaryOf i with
  | some j => exact ((h j).mpr (by simpa using List.find?_some hp)).symm
  | none =>
    cases primary with
    | none => rfl
    | some j =>
      have passed := List.find?_eq_none.mp hp j (mem_injectorList j)
      simp [(h j).mp rfl] at passed

theorem State.engagedBy_eq {s : State} {i : Fin 8} {engaging : Option (Fin 6)}
    (h : ∀ a, engaging = some a ↔ (s.arm a).engaged = some i) : s.engagedBy i = engaging := by
  cases hp : s.engagedBy i with
  | some a => exact ((h a).mpr (by simpa using List.find?_some hp)).symm
  | none =>
    cases engaging with
    | none => rfl
    | some a =>
      have passed := List.find?_eq_none.mp hp a (mem_armList a)
      simp [(h a).mp rfl] at passed

theorem readInjector_eq {s : State} {i : Fin 8} {place : Option (Fin 6 × Fin 2)} {primary : Option (Fin 8)}
    {engaging : Option (Fin 6)} (hplace : ∀ a q, place = some (a, q) ↔ (s.arm a).setup.positions.get q = some i)
    (hprimary : ∀ j, primary = some j ↔ (s.injector j).standby = some i) (one : place = none ∨ primary = none)
    (hengaging : ∀ a, engaging = some a ↔ (s.arm a).engaged = some i) :
    readInjector (number i) s = s.ok (s.injectorReport i place primary engaging) := by
  have shots : ∀ record : Option (Fin 6 × DosingRecord),
      optionalField 5 (fun (x : DosingRecord × Shot) => field 2 x.2.feedback ++ field 2 x.1.target ++ yesNo x.2.retry)
        (record.bind (fun x => x.2.shot.map (fun shot => (x.2, shot)))) =
      optionalField 5 (fun (x : Nat × Shot) => field 2 x.2.feedback ++ field 2 x.1 ++ yesNo x.2.retry)
        (record.bind (fun x => x.2.shot.map (fun shot => (x.2.target, shot)))) := by
    intro record
    cases record with
    | none => rfl
    | some x =>
      obtain ⟨a, r⟩ := x
      cases hshot : r.shot <;> simp [hshot, optionalField]
  simp only [readInjector, number, indexOf_number, State.injectorReport, State.role, State.positionOf_eq hplace,
    State.primaryOf_eq hprimary, State.engagedBy_eq hengaging, shots, State.engagedContent, State.activeOrderNumber]
  rcases one with rfl | rfl
  · cases primary <;> rfl
  · cases place <;> rfl

theorem State.injectorReport_length (s : State) (i : Fin 8) (place : Option (Fin 6 × Fin 2)) (primary : Option (Fin 8))
    (engaging : Option (Fin 6)) : (s.injectorReport i place primary engaging).length = 68 := by
  simp [State.injectorReport]

end Sys2Proof.Machine
end

section
namespace Sys2Proof.Machine

/-! ### READ NOTE and LIST NOTES (R169, R170, R192) -/

/-- The note of a sequence number, found in its one slot. -/
theorem Journal.findNote_eq {j : Journal} {k : Fin 48} {n : Note} (hn : (j.slots.get k).note? = some n)
    (only : ∀ i m, (j.slots.get i).note? = some m → m.sequenceNumber = n.sequenceNumber → i = k) :
    j.findNote n.sequenceNumber = some k := by
  unfold Journal.findNote
  rw [Table.find?_eq_some]
  refine ⟨by simp [hn], fun i hi => ?_⟩
  cases hm : (j.slots.get i).note? with
  | none => rfl
  | some m =>
    by_cases hs : m.sequenceNumber = n.sequenceNumber
    · exact absurd (only i m hm hs) (Fin.ne_of_lt hi)
    · simpa using hs

theorem noteHeader_eq (n : Note) (slot : Fin 48) (collected : Bool) : noteHeader n slot collected = n.report slot collected := by
  have flag : yesNo n.clockUnset = field 1 (if n.clockUnset = true then 1 else 0) := by cases n.clockUnset <;> rfl
  simp only [noteHeader, Note.report, bayTimeField, flag, List.append_assoc]

theorem Note.report_length (n : Note) (slot : Fin 48) (collected : Bool) : (n.report slot collected).length = 36 := by
  simp [Note.report]

/-- The readings of a started line: present together, or not at all. -/
theorem readingsGroup_eq {x : NoteLine} {readings : Option (Readings × Readings × Nat)}
    (h : ∀ b e c, readings = some (b, e, c) ↔ x.atStart = some b ∧ x.atEnd = some e ∧ x.counter = some c) :
    readingsGroup x = readings := by
  unfold readingsGroup
  split
  · next b e c hb he hc => exact ((h b e c).mpr ⟨hb, he, hc⟩).symm
  · next absent =>
    cases readings with
    | none => rfl
    | some y =>
      obtain ⟨b, e, c⟩ := y
      obtain ⟨hb, he, hc⟩ := (h b e c).mp rfl
      exact (absent b e c hb he hc).elim

theorem noteLineContent_eq (n : Note) (part : Nat) {x : NoteLine} {readings : Option (Readings × Readings × Nat)}
    (h : ∀ b e c, readings = some (b, e, c) ↔ x.atStart = some b ∧ x.atEnd = some e ∧ x.counter = some c) :
    noteLineContent n part x = x.report n.sequenceNumber part readings := by
  simp only [noteLineContent, NoteLine.report, readingsGroup_eq h, totalizerField, List.append_assoc]

theorem NoteLine.report_length (x : NoteLine) (seq part : Nat) (readings : Option (Readings × Readings × Nat)) :
    (x.report seq part readings).length = 61 := by
  simp [NoteLine.report]

/-- READ NOTE of a note that the journal holds. -/
theorem readNote_held {s : State} {k : Fin 48} {n : Note} (hn : (s.journal.slots.get k).note? = some n)
    (only : ∀ i m, (s.journal.slots.get i).note? = some m → m.sequenceNumber = n.sequenceNumber → i = k)
    (h1 : 1 ≤ n.sequenceNumber) (h2 : n.sequenceNumber ≤ 999999) :
    readNote n.sequenceNumber 0 s = s.ok (noteHeader n k (s.journal.slots.get k).isCollected) ∧
      ∀ part x, part ≤ 9 → 1 ≤ part → n.lines[part - 1]? = some x →
        readNote n.sequenceNumber part s = s.ok (noteLineContent n part x) := by
  have found := Journal.findNote_eq hn only
  have inRange : badSequence n.sequenceNumber = false := by simp [badSequence, within, h1, h2]
  refine ⟨?_, fun part x h9 hpos hx => ?_⟩
  · simp only [readNote, found, Option.bind_some, hn]
    exact State.checked_ok _ _ _ (by simp [inRange])
  · obtain ⟨hlt, -⟩ := List.getElem?_eq_some_iff.mp hx
    simp only [readNote, found, Option.bind_some, hn]
    rw [State.checked_ok]
    · simp only [if_neg (show ¬ part = 0 by omega), hx]
    · simp [inRange]
      omega

theorem Order.reserves_eq (o : Order) : o.reserves = (o.state != .posted) := by
  unfold Order.reserves
  cases o.state <;> rfl

theorem State.reservations_eq (s : State) :
    s.reservations = s.orders.entries.countP (fun e => e.any (fun o => o.state != .posted)) := by
  unfold State.reservations Table.count
  congr 1
  funext e
  cases e with
  | none => rfl
  | some o => exact o.reserves_eq

/-- The numbers of the STORED notes, however their choice from a slot is written. -/
theorem Journal.storedNumbers_eq {j : Journal} {chosen : Fin 48 → Option Nat}
    (h : ∀ k, chosen k = if (j.slots.get k).isStored then (j.slots.get k).note?.map Note.sequenceNumber else none) :
    j.composition.filterMap chosen = j.storedNumbers := by
  unfold Journal.storedNumbers
  congr 1
  funext k
  rw [h]
  cases j.slots.get k <;> rfl

theorem listNotes_eq (s : State) : listNotes s = s.ok (field 1 s.journal.storedNumbers.length
    ++ s.journal.storedNumbers.flatMap (field 4) ++ field 1 (s.journal.slots.count JournalSlot.isStored)
    ++ field 1 (s.journal.slots.count JournalSlot.isCollected) ++ field 1 (s.journal.slots.count JournalSlot.isEmpty)
    ++ field 1 (s.orders.entries.countP (fun e => e.any (fun o => o.state != .posted))) ++ field 4 s.journal.lastSequence) := by
  simp only [listNotes, State.reservations_eq, State.storedCount]

/-! ### READ TOTALS (R158) -/

theorem meterTotals_eq (m : MeterStore) : meterTotals m = m.report := by
  simp only [meterTotals, MeterStore.report, totalizerField, List.append_assoc]

theorem MeterStore.report_length (m : MeterStore) : m.report.length = 24 + 6 * m.curve.length := by
  have points : (m.curve.flatMap (fun x => field 2 x.flow ++ field 4 x.factor)).length = 6 * m.curve.length := by
    induction m.curve with
    | nil => rfl
    | cons x rest ih =>
      rw [List.flatMap_cons, List.length_append, ih]
      simp
      omega
  simp only [MeterStore.report, List.length_append, points, field_length, signedField_length, optionalField_length, implies_true]
  omega

theorem InjectorStore.report_length (x : InjectorStore) : x.report.length = 16 := by
  simp [InjectorStore.report]

theorem readTotals_bay (s : State) : readTotals 0 s = s.ok (field 2 s.store.counter ++ field 1 s.store.sealLevel.code
    ++ field 1 (if s.bay.switch = .amend then 1 else 2)) := by
  simp only [readTotals, if_true, switchCode_eq]

theorem readTotals_meter (s : State) (a : Fin 6) : readTotals (number a) s = s.ok (s.meterStore a).report := by
  simp only [readTotals, number, indexOf_number, if_neg (Nat.succ_ne_zero a.val), meterTotals_eq]

theorem readTotals_injector (s : State) (i : Fin 8) : readTotals (6 + number i) s = s.ok (s.injectorStore i).report := by
  have meter : indexOf 6 (6 + number i) = none := indexOf_eq_none.mpr (.inr (by simp only [number]; omega))
  have injector : indexOf 8 (6 + number i - 6) = some i := indexOf_eq_some.mpr (by simp only [number]; omega)
  have named : ¬ 6 + number i = 0 := by omega
  simp only [readTotals, if_neg named, meter, injector]
  rfl

/-! ### READ STATISTICS, READ AND CLEAR STATISTICS (R58, R59) -/

theorem Decoder.report_eq (d : Decoder) : d.report = d.statisticsReport := by
  simp only [Decoder.report, Decoder.statisticsReport, Decoder.reportedAllowance, Decoder.allowance, DecoderMode.code_eq]

@[simp] theorem Decoder.statisticsReport_length (d : Decoder) : d.statisticsReport.length = 23 := by
  simp [Decoder.statisticsReport]

theorem Table.entries_eq {n : Nat} {α : Type} (t : Table n α) : t.entries = (List.finRange n).map t.get := by
  apply List.ext_getElem
  · rw [t.size, List.length_map, List.length_finRange]
  · intro i h1 h2
    simp [Table.get]

theorem State.statisticsReport_all (s : State) :
    s.statisticsReport armList = field 1 6 ++ s.arms.entries.flatMap (fun x => x.decoder.statisticsReport) := by
  simp only [State.statisticsReport, Decoder.report_eq, Table.entries_eq, armList_eq_finRange, List.flatMap_map]
  rfl

theorem State.statisticsReport_one (s : State) (a : Fin 6) :
    s.statisticsReport [a] = field 1 1 ++ (s.arm a).decoder.statisticsReport := by
  simp [State.statisticsReport, Decoder.report_eq]

theorem State.statisticsAll_length (s : State) :
    (field 1 6 ++ s.arms.entries.flatMap (fun x => x.decoder.statisticsReport)).length = 139 := by
  rw [Table.entries_eq, List.flatMap_map]
  simp [List.length_flatMap]

/-- The six meters' statistics cleared one after another are the table of arms cleared. -/
theorem State.clearStatistics_all (s : State) :
    s.forArms (fun a t => t.modifyDecoder a (fun d => { d with stats := ⟨0, 0, 0, 0⟩ })) =
      { s with arms := s.arms.map (fun x => { x with decoder := { x.decoder with stats := ⟨0, 0, 0, 0⟩ } }) } := by
  have cleared := fun b => State.arm_forArms (s := s)
    (f := fun a t => t.modifyDecoder a (fun d => { d with stats := ⟨0, 0, 0, 0⟩ }))
    (g := fun _ x => { x with decoder := { x.decoder with stats := ⟨0, 0, 0, 0⟩ } })
    (fun a t b => by
      show (t.modifyArm a _).arm b = _
      rw [State.arm_modifyArm]
      split
      · next h => rw [h]
      · rfl) b
  have arms : (s.forArms (fun a t => t.modifyDecoder a (fun d => { d with stats := ⟨0, 0, 0, 0⟩ }))).arms =
      s.arms.map (fun x => { x with decoder := { x.decoder with stats := ⟨0, 0, 0, 0⟩ } }) :=
    Table.ext_get fun b => (cleared b).trans (Table.get_map s.arms
      (fun x => { x with decoder := { x.decoder with stats := ⟨0, 0, 0, 0⟩ } }) b).symm
  rw [← arms]
  rfl

end Sys2Proof.Machine
end

section
namespace Sys2Proof.Machine

/-! ### Reports on a port -/

/-- A read on a ready port is answered with its content, and leaves the rest of the state. -/
theorem State.read_answered {s : State} {p : PortId} (h : s.ready p) (tag code : Byte) {judge : State → Answer}
    {content : List Byte} (hj : judge (s.heard p) = (s.heard p).ok content) :
    (Host.Outcome.next (s.frame p tag code .either judge) : Outcome) = .next (s.answered p tag code content) :=
  congrArg Host.Outcome.next (State.frame_answered h (by cases p <;> rfl) hj)

/-- What the two forms of READ ORDER name: an order by its number, or by its slot. -/
theorem readOrder_answered {s : State} {p : PortId} (h : s.ready p) (tag : Byte) {num raw : Nat} {k : Fin 24} {o : Order}
    (named : (num = 0 ∧ indexOf 24 raw = some k) ∨ (num ≠ 0 ∧ s.findOrder num = some k)) (ho : s.order k = some o) :
    exec (.readOrder p tag num raw 0) s = .next (s.answered p tag 0x03#8 (o.report k)) ∧
      ∀ part l average, part ≤ 9 → o.line? part = some l → l.record.averages average →
        exec (.readOrder p tag num raw part) s = .next (s.answered p tag 0x03#8
          (l.report average (s.additiveAsItStands l).1 (s.additiveAsItStands l).2)) := by
  have heard : ((num = 0 ∧ indexOf 24 raw = some k) ∨ (num ≠ 0 ∧ (s.heard p).findOrder num = some k)) ∧
      (s.heard p).order k = some o := by
    cases p <;> exact ⟨named, ho⟩
  refine ⟨?_, fun part l average h9 hl haverage => ?_⟩
  · refine State.read_answered h tag _ ?_
    rw [(readOrder_named (part := 0) heard.1 heard.2).1, orderContent_eq]
  · refine State.read_answered h tag _ ?_
    rw [(readOrder_named heard.1 heard.2).2 h9 l hl, State.lineContent_eq _ haverage]
    cases p <;> rfl

/-! The additive totals that READ ORDER reports of a line (R39, R142; notes/assumptions/24.md). -/

theorem State.additiveAsItStands_fixed (s : State) {l : Line} {x : AdditiveTotals} (h : l.record.additive = some x) :
    s.additiveAsItStands l = (x.dosed, x.required) := by
  simp only [State.additiveAsItStands, h]

theorem State.additiveAsItStands_open {s : State} {l : Line} {r : DosingRecord} (h : l.record.additive = none)
    (hr : l.arm.bind (fun a => (s.arm a).dosing) = some r) :
    s.additiveAsItStands l = ((r.fixed l.record.gv).dosed, (r.fixed l.record.gv).required) := by
  simp only [State.additiveAsItStands, h, hr]
  rfl

theorem State.additiveAsItStands_absent {s : State} {l : Line} (h : l.record.additive = none)
    (hr : l.arm.bind (fun a => (s.arm a).dosing) = none) : s.additiveAsItStands l = (0, 0) := by
  simp only [State.additiveAsItStands, h, hr]

theorem readStatistics_eq {s : State} {arm : Nat} {arms : List (Fin 6)} (h : metersNamed arm = some arms) :
    readStatistics arm s = s.ok (s.statisticsReport arms) := by
  simp only [readStatistics, h]

theorem readAndClearStatistics_eq {s : State} {arm : Nat} {arms : List (Fin 6)} (h : metersNamed arm = some arms) :
    readAndClearStatistics arm s = (arms.foldl (fun t a => t.modifyDecoder a (fun d => { d with
      stats := ⟨0, 0, 0, 0⟩ })) s).ok (s.statisticsReport arms) := by
  simp only [readAndClearStatistics, h]

theorem metersNamed_one (a : Fin 6) : metersNamed (number a) = some [a] := by
  simp [metersNamed, number]

/-- READ STATISTICS and READ AND CLEAR STATISTICS of one meter. -/
theorem statistics_one {s : State} {p : PortId} (h : s.ready p) (tag : Byte) (a : Fin 6) :
    let c := field 1 1 ++ (s.arm a).decoder.statisticsReport
    c.length = 24 ∧ exec (.readStatistics p tag (number a)) s = .next (s.answered p tag 0x09#8 c) ∧
      (p = .terminal → exec (.readAndClearStatistics p tag (number a)) s = .next ((s.modifyArm a (fun x =>
        { x with decoder := { x.decoder with stats := ⟨0, 0, 0, 0⟩ } })).answered p tag 0x36#8 c)) := by
  refine ⟨by simp, ?_, ?_⟩
  · refine State.read_answered h tag _ ?_
    rw [readStatistics_eq (metersNamed_one a), State.statisticsReport_one]
    cases p <;> rfl
  · rintro rfl
    refine congrArg Host.Outcome.next (State.frame_answered h rfl ?_)
    rw [readAndClearStatistics_eq (metersNamed_one a), State.statisticsReport_one]
    rfl

/-- READ STATISTICS and READ AND CLEAR STATISTICS of the six meters. -/
theorem statistics_all {s : State} {p : PortId} (h : s.ready p) (tag : Byte) :
    let c := field 1 6 ++ s.arms.entries.flatMap (fun x => x.decoder.statisticsReport)
    c.length = 139 ∧ exec (.readStatistics p tag 0) s = .next (s.answered p tag 0x09#8 c) ∧
      (p = .terminal → exec (.readAndClearStatistics p tag 0) s = .next (({ s with
        arms := s.arms.map (fun x => { x with decoder := { x.decoder with stats := ⟨0, 0, 0, 0⟩ } }) } : State).answered p
          tag 0x36#8 c)) := by
  refine ⟨s.statisticsAll_length, ?_, ?_⟩
  · refine State.read_answered h tag _ ?_
    rw [readStatistics_eq (arms := armList) rfl, State.statisticsReport_all]
    cases p <;> rfl
  · rintro rfl
    refine congrArg Host.Outcome.next (State.frame_answered h rfl ?_)
    have cleared := (s.heard .terminal).clearStatistics_all
    rw [readAndClearStatistics_eq (arms := armList) rfl, State.statisticsReport_all]
    exact congrArg (fun t : State => t.ok _) cleared

/-- READ NOTE of a note's header and of its lines. -/
theorem readNote_answered {s : State} {p : PortId} (h : s.ready p) (tag : Byte) {k : Fin 48} {n : Note}
    (hn : (s.journal.slots.get k).note? = some n)
    (only : ∀ j m, (s.journal.slots.get j).note? = some m → m.sequenceNumber = n.sequenceNumber → j = k)
    (h1 : 1 ≤ n.sequenceNumber) (h2 : n.sequenceNumber ≤ 999999) :
    exec (.readNote p tag n.sequenceNumber 0) s =
      .next (s.answered p tag 0x06#8 (n.report k (s.journal.slots.get k).isCollected)) ∧
    ∀ part x readings, part ≤ 9 → 1 ≤ part → n.lines[part - 1]? = some x →
      (∀ b e c, readings = some (b, e, c) ↔ x.atStart = some b ∧ x.atEnd = some e ∧ x.counter = some c) →
      exec (.readNote p tag n.sequenceNumber part) s = .next (s.answered p tag 0x06#8 (x.report n.sequenceNumber part readings)) := by
  have heard : (s.heard p).journal = s.journal := by cases p <;> rfl
  obtain ⟨header, line⟩ := readNote_held (s := s.heard p) (by rw [heard]; exact hn) (by rw [heard]; exact only) h1 h2
  refine ⟨State.read_answered h tag _ ?_, fun part x readings h9 hpos hx hreadings => State.read_answered h tag _ ?_⟩
  · rw [header, noteHeader_eq, heard]
  · rw [line part x h9 hpos hx, noteLineContent_eq n part hreadings]

end Sys2Proof.Machine
end

section
namespace Sys2Proof.Proofs
open Sys2Proof Sys2Proof.Machine

/-- Settles O24: each read's content is its report, item by item, and each report has one length. -/
theorem reportsChangeNothing : Obligations.ReportsChangeNothing := by
  unfold Obligations.ReportsChangeNothing
  refine ⟨fun width n => ⟨field_length width n, readBigEndian_field⟩, fun p tag s h => ⟨?_, s.bayReport_length, ?_, ?_, ?_, ?_,
    ?_, ?_, ?_, ?_, ?_, ?_, ?_, statistics_one h tag, statistics_all h tag⟩⟩
  · refine State.read_answered h tag _ ((readBay_eq _).trans ?_)
    cases p <;> rfl
  · intro num e q hq
    have held : (s.heard p).onlyPermit num e q := by cases p <;> exact hq
    refine ⟨s.permitReport_length e q, State.read_answered h tag _ ((readPermit_eq held).trans ?_)⟩
    cases p <;> rfl
  · intro o slot raw hnum ho
    exact ⟨o.report_length slot, (readOrder_answered h tag (.inr ⟨hnum, State.findOrder_eq ho⟩) ho.1).1⟩
  · intro o slot ho
    exact (readOrder_answered h tag (.inl ⟨rfl, indexOf_number slot⟩) ho).1
  · intro slot o k l average ho hl h9 haverage totals c
    have standing : totals = s.additiveAsItStands l := by
      dsimp only [totals]
      split
      · next hx => exact (s.additiveAsItStands_fixed hx).symm
      · next hx hr => exact (State.additiveAsItStands_open hx hr).symm
      · next hx hr => exact (State.additiveAsItStands_absent hx hr).symm
    have content : c = l.report average (s.additiveAsItStands l).1 (s.additiveAsItStands l).2 := by rw [← standing]
    rw [content]
    exact ⟨Line.report_length _ _ _ _,
      (readOrder_answered h tag (.inl ⟨rfl, indexOf_number slot⟩) ho).2 k l average h9 hl haverage, fun hnum only raw =>
        (readOrder_answered h tag (.inr ⟨hnum, State.findOrder_eq only⟩) ho).2 k l average h9 hl haverage⟩
  · intro a
    refine ⟨s.armReport_length a, State.read_answered h tag _ ((readArm_eq _ a).trans ?_)⟩
    cases p <;> rfl
  · intro i place primary engaging hplace hprimary one hengaging
    refine ⟨s.injectorReport_length i place primary engaging, State.read_answered h tag _ ?_⟩
    have arms : (s.heard p).arms = s.arms ∧ (s.heard p).injectors = s.injectors := by cases p <;> exact ⟨rfl, rfl⟩
    refine (readInjector_eq (s := s.heard p) (engaging := engaging) (fun a q => ?_) (fun j => ?_) one (fun a => ?_)).trans ?_
    · rw [State.arm_congr arms.1]
      exact hplace a q
    · simp only [State.injector, arms.2]
      exact hprimary j
    · rw [State.arm_congr arms.1]
      exact hengaging a
    · cases p <;> rfl
  · intro k n hn only h1 h2
    obtain ⟨header, line⟩ := readNote_answered h tag hn only h1 h2
    exact ⟨⟨n.report_length k _, header⟩, fun part x readings h9 hpos hx hreadings =>
      ⟨x.report_length _ _ _, line part x readings h9 hpos hx hreadings⟩⟩
  · intro numbers
    have stored : numbers = s.journal.storedNumbers :=
      Journal.storedNumbers_eq fun k => by cases s.journal.slots.get k <;> rfl
    rw [stored]
    refine State.read_answered h tag _ ((listNotes_eq _).trans ?_)
    cases p <;> rfl
  · refine State.read_answered h tag _ ((readTotals_bay _).trans ?_)
    cases p <;> rfl
  · intro a
    refine ⟨(s.meterStore a).report_length, State.read_answered h tag _ ((readTotals_meter _ a).trans ?_)⟩
    cases p <;> rfl
  · intro i
    refine ⟨(s.injectorStore i).report_length, State.read_answered h tag _ ((readTotals_injector _ i).trans ?_)⟩
    cases p <;> rfl

end Sys2Proof.Proofs
end

section
/-!
The product table, the recipes and the arm setups: when a slot is in use, and what a write does (R18, R20, R122).
-/

namespace Sys2Proof.Machine

/-! ### Slots in use (R18, R122) -/

theorem State.anyActiveLine_iff (s : State) (p : Line → Bool) : s.anyActiveLine p = true ↔
    ∃ slot o l, s.order slot = some o ∧ l ∈ o.lines ∧ l.isActive = true ∧ p l = true := by
  simp only [State.anyActiveLine, List.any_eq_true, Table.mem_entries]
  constructor
  · rintro ⟨e, ⟨slot, rfl⟩, h⟩
    split at h
    · next o ho =>
      obtain ⟨l, hl, hp⟩ := List.any_eq_true.mp h
      exact ⟨slot, o, l, ho, hl, by simpa using hp⟩
    · cases h
  · rintro ⟨slot, o, l, ho, hl, hp⟩
    have ho : s.orders.get slot = some o := ho
    exact ⟨_, ⟨slot, rfl⟩, by rw [ho]; exact List.any_eq_true.mpr ⟨l, hl, by simpa using hp⟩⟩

theorem State.productInUse_iff (s : State) (k : Fin 16) : s.productInUse k = true ↔
    (∃ a, (s.arm a).setup.product = some k) ∨
      ∃ slot o l, s.order slot = some o ∧ l ∈ o.lines ∧ l.isActive = true ∧ l.product = k := by
  simp only [State.productInUse, Bool.or_eq_true, List.any_eq_true, Table.mem_entries, State.anyActiveLine_iff,
    beq_iff_eq]
  refine or_congr_left ⟨?_, fun ⟨a, h⟩ => ⟨_, ⟨a, rfl⟩, h⟩⟩
  rintro ⟨x, ⟨a, rfl⟩, h⟩
  exact ⟨a, h⟩

theorem State.recipeInUse_iff (s : State) (k : Fin 16) : s.recipeInUse k = true ↔
    ∃ slot o l, s.order slot = some o ∧ l ∈ o.lines ∧ l.isActive = true ∧ l.recipe = some k := by
  simp only [State.recipeInUse, State.anyActiveLine_iff, beq_iff_eq]

/-! ### The writes, by what stands in their slot -/

/-- WRITE PRODUCT with fields in range is judged by the product that the slot holds, and by its use. -/
theorem writeProduct_inRange {k : Fin 16} {nameLength cls coefA coefB : Nat} {name : List Byte} (hn : nameLength ≤ 16)
    (hp : ∀ b ∈ name.take nameLength, 0x20 ≤ b.toNat ∧ b.toNat ≤ 0x7E) (h1 : 1 ≤ cls) (h8 : cls ≤ 8) (hA : coefA ≤ 1500)
    (hB : coefB ≤ 9999) (s : State) :
    writeProduct (number k) nameLength name cls coefA coefB s =
      if (∃ q, s.products.get k = some q ∧ ¬ (q.cls = cls ∧ q.coefA = coefA ∧ q.coefB = coefB)) ∧ s.productInUse k = true
        then s.refuse .inUse
        else ({ s with products := s.products.set k (some ⟨name.take nameLength, cls, coefA, coefB⟩) } : State).ok [] := by
  have names : (name.take nameLength).all printable = true :=
    List.all_eq_true.mpr fun b hb => by simpa [printable] using hp b hb
  simp only [writeProduct, number, indexOf_number]
  cases hq : s.products.get k with
  | none => simp [State.checked, names, within, hn, h1, h8, hA, hB]
  | some q =>
    cases hu : s.productInUse k
    · simp [State.checked, names, within, hn, h1, h8, hA, hB]
    · by_cases same : q.cls = cls ∧ q.coefA = coefA ∧ q.coefB = coefB
      · simp [State.checked, names, within, hn, h1, h8, hA, hB, same]
      · have differ : (q.cls != cls || q.coefA != coefA || q.coefB != coefB) = true := by
          simp only [Bool.or_eq_true, bne_iff_ne, ne_eq]
          tauto
        simp [State.checked, names, within, hn, h1, h8, hA, hB, same, differ]

/-- WRITE RECIPE with fields in range is judged by the recipe that the slot holds, and by its use. -/
theorem writeRecipe_inRange {k : Fin 16} {additive rate tolerance : Nat} (h1 : 1 ≤ additive) (h255 : additive ≤ 255)
    (h10 : 10 ≤ rate) (h2500 : rate ≤ 2500) (ht1 : 1 ≤ tolerance) (ht25 : tolerance ≤ 25) (s : State) :
    writeRecipe (number k) additive rate tolerance s =
      if (∃ r, s.recipes.get k = some r ∧ r ≠ ⟨additive, rate, tolerance⟩) ∧ s.recipeInUse k = true
        then s.refuse .inUse
        else ({ s with recipes := s.recipes.set k (some ⟨additive, rate, tolerance⟩) } : State).ok [] := by
  simp only [writeRecipe, number, indexOf_number]
  cases hr : s.recipes.get k with
  | none => simp [State.checked, within, h1, h255, h10, h2500, ht1, ht25]
  | some r =>
    cases hu : s.recipeInUse k
    · simp [State.checked, within, h1, h255, h10, h2500, ht1, ht25]
    · by_cases same : r = ⟨additive, rate, tolerance⟩
      · simp [State.checked, within, h1, h255, h10, h2500, ht1, ht25, same]
      · simp [State.checked, within, h1, h255, h10, h2500, ht1, ht25, same]

theorem indexOf_numberOrZero {n : Nat} (x : Option (Fin n)) : indexOf n (numberOrZero x) = x := by
  cases x with
  | none => exact indexOf_eq_none.mpr (.inl rfl)
  | some i => exact indexOf_number i

/-- WRITE ARM SETUP with fields in range, for a defined product or none, is judged by its arm's state. -/
theorem writeArmSetup_inRange {a : Fin 6} {product : Option (Fin 16)} {low re top limit : Nat} (h1 : 100 ≤ low)
    (h2 : low ≤ 1000) (h3 : 50 ≤ re) (h4 : re ≤ 500) (h5 : 50 ≤ top) (h6 : top ≤ 2000) (h7 : 10 ≤ limit) (h8 : limit ≤ 200)
    (s : State) (hp : ∀ k, product = some k → s.products.get k ≠ none) :
    writeArmSetup (number a) (numberOrZero product) low re top limit s =
      if (s.arm a).state = .idle
        then (s.modifyArm a (fun x => { x with setup := ⟨product, low, re, top, limit, x.setup.positions⟩ })).ok []
        else s.refuse .armBusy := by
  have numbered : ¬ 16 < numberOrZero product := by
    cases product with
    | none => simp [numberOrZero]
    | some k => exact Nat.not_lt.mpr k.isLt
  have defined : ((product.map (fun k => (s.products.get k).isNone)).getD false) = false := by
    cases product with
    | none => rfl
    | some k => simpa using Option.isSome_iff_ne_none.mpr (hp k rfl)
  simp only [writeArmSetup, number, indexOf_number, indexOf_numberOrZero]
  by_cases hidle : (s.arm a).state = .idle <;>
    simp [State.checked, within, numbered, defined, h1, h2, h3, h4, h5, h6, h7, h8, hidle]

end Sys2Proof.Machine
end

section
namespace Sys2Proof.Proofs
open Sys2Proof Sys2Proof.Machine

/-- Settles O23: each write by what its slot holds, by its use, and by its arm's state. -/
theorem tableWrites : Obligations.TableWrites := by
  unfold Obligations.TableWrites
  intro tag s h
  refine ⟨fun k nameLength name cls coefA coefB hn hp h1 h8 hA hB => ?_,
    fun a product low re top limit h1 h2 h3 h4 h5 h6 h7 h8 hp => ?_,
    fun k additive rate tolerance h1 h255 h10 h2500 ht1 ht25 => ?_⟩
  · intro run used same
    have judged := writeProduct_inRange hn hp h1 h8 hA hB (k := k) (s.heard .terminal)
    have inUse : (s.heard .terminal).productInUse k = true ↔ used := State.productInUse_iff (s.heard .terminal) k
    refine ⟨fun hu hs => ?_, fun hus => ?_⟩
    · refine congrArg Host.Outcome.next (State.frame_refused h rfl (judged.trans (if_pos ⟨?_, inUse.mpr hu⟩)))
      obtain ⟨held, differ⟩ := not_forall.mp hs
      exact ⟨held, Classical.not_imp.mp differ⟩
    · refine congrArg Host.Outcome.next (State.frame_answered (t := { s with products := _ }) h rfl
        (judged.trans (if_neg ?_)))
      rintro ⟨⟨q, hq, differ⟩, hu⟩
      rcases hus with hus | hus
      · exact hus (inUse.mp hu)
      · exact differ (hus q hq)
  · intro run
    have judged := writeArmSetup_inRange h1 h2 h3 h4 h5 h6 h7 h8 (a := a) (s.heard .terminal) hp
    refine ⟨fun hs => ?_, fun hs => ?_⟩
    · exact congrArg Host.Outcome.next (State.frame_refused h rfl (judged.trans (if_neg hs)))
    · exact congrArg Host.Outcome.next (State.frame_answered (t := s.modifyArm a _) h rfl (judged.trans (if_pos hs)))
  · intro run used same
    have judged := writeRecipe_inRange h1 h255 h10 h2500 ht1 ht25 (k := k) (s.heard .terminal)
    have inUse : (s.heard .terminal).recipeInUse k = true ↔ used := State.recipeInUse_iff (s.heard .terminal) k
    refine ⟨fun hu hs => ?_, fun hus => ?_⟩
    · refine congrArg Host.Outcome.next (State.frame_refused h rfl (judged.trans (if_pos ⟨?_, inUse.mpr hu⟩)))
      obtain ⟨held, differ⟩ := not_forall.mp hs
      exact ⟨held, Classical.not_imp.mp differ⟩
    · refine congrArg Host.Outcome.next (State.frame_answered (t := { s with recipes := _ }) h rfl
        (judged.trans (if_neg ?_)))
      rintro ⟨⟨r, hr, differ⟩, hu⟩
      rcases hus with hus | hus
      · exact hus (inUse.mp hu)
      · exact differ (hus r hr)

end Sys2Proof.Proofs
end

section
/-!
Posting and amending orders, the end of a claim, and the queued starts of an order that are dropped (R24, R25, R29, R30, R83).
-/

namespace Sys2Proof.Machine

/-! ### Order lines that may be posted (R24) -/

theorem distinct_iff : ∀ xs : List Nat, distinct xs = true ↔ xs.Nodup
  | [] => by simp [distinct]
  | x :: rest => by simp [distinct, distinct_iff rest]

/-- Entries that may be posted pass the BAD_FIELD test. -/
theorem State.acceptable.fields {s : State} {specs : List LineSpec} (h : s.acceptable specs) : badLines specs = false := by
  obtain ⟨h1, h9, hd, hl⟩ := h
  have each : (specs.any fun l => !within 1 9 l.compartment || !within 1 16 l.product || !within 100 40000 l.preset
      || (basisOf l.basis).isNone || decide (16 < l.recipe)) = false := by
    rw [List.any_eq_false]
    intro l hmem
    obtain ⟨hc1, hc9, hp1, hp2, hb, ⟨k, hk, -⟩, hr⟩ := hl l hmem
    have product := k.isLt
    have recipe : l.recipe ≤ 16 := by
      rcases hr with hr | ⟨m, hm, -⟩
      · omega
      · have := m.isLt; omega
    have basis : (basisOf l.basis).isNone = false := by rcases hb with hb | hb <;> simp [hb, basisOf]
    simp only [within, basis, Bool.or_eq_true, Bool.not_eq_true', Bool.and_eq_false_iff, decide_eq_false_iff_not,
      decide_eq_true_eq, Bool.false_eq_true, or_false]
    omega
  rw [badLines, each, (distinct_iff _).mpr hd]
  simp [within, h1, h9]

/-- Entries that may be posted name defined products and recipes. -/
theorem State.acceptable.defined {s : State} {specs : List LineSpec} (h : s.acceptable specs) :
    s.undefinedIn specs = false := by
  obtain ⟨-, -, -, hl⟩ := h
  rw [State.undefinedIn, List.any_eq_false]
  intro l hmem
  obtain ⟨-, -, -, -, -, ⟨k, hk, hdef⟩, hr⟩ := hl l hmem
  have product : indexOf 16 l.product = some k := indexOf_eq_some.mpr hk
  have recipe : ((indexOf 16 l.recipe).map (fun k => (s.recipes.get k).isNone)).getD false = false := by
    rcases hr with hr | ⟨m, hm, hmdef⟩
    · simp [indexOf_eq_none.mpr (.inl hr)]
    · simpa [indexOf_eq_some.mpr hm] using hmdef
  simp [product, recipe, Option.isSome_iff_ne_none.mp hdef]

/-- A new line is its entry posted. -/
theorem newLine_posted {x : LineSpec} {k : Fin 16} (hp : x.product = k.val + 1) (hb : x.basis = 1 ∨ x.basis = 2)
    (hr : x.recipe = 0 ∨ ∃ m : Fin 16, x.recipe = m.val + 1) : LineSpec.posted x (newLine x) := by
  have basis : ((basisOf x.basis).getD .gross).code = x.basis := by rcases hb with hb | hb <;> simp [hb, basisOf, Basis.code]
  have recipe : numberOrZero (indexOf 16 x.recipe) = x.recipe := by
    rcases hr with hr | ⟨m, hm⟩
    · rw [indexOf_eq_none.mpr (.inl hr), hr]; rfl
    · rw [indexOf_eq_some.mpr hm, hm]; rfl
  refine ⟨rfl, ?_, rfl, basis, recipe, rfl, rfl, rfl, rfl⟩
  rw [hp]
  simp [newLine, indexOf_eq_some.mpr hp]

theorem State.acceptable.posted {s : State} {specs : List LineSpec} (h : s.acceptable specs) :
    postedLines specs (specs.map newLine) := by
  obtain ⟨-, -, -, hl⟩ := h
  refine ⟨List.length_map _, fun k x l hx hm => ?_⟩
  rw [List.getElem?_map, hx, Option.map_some, Option.some.injEq] at hm
  obtain ⟨-, -, -, -, hb, ⟨p, hp, -⟩, hr⟩ := hl x (List.mem_of_getElem? hx)
  exact hm ▸ newLine_posted hp hb (hr.imp_right fun ⟨m, hm, _⟩ => ⟨m, hm⟩)

/-! ### POST ORDER (R24) -/

theorem postOrder_full {s : State} (h : ∀ k, s.order k ≠ none) (num permit carrier tanker : Nat) (specs : List LineSpec) :
    postOrder num permit carrier tanker specs s = s.refuse .tableFull := by
  have full : s.orders.find? Option.isNone = none :=
    (Table.find?_eq_none _ _).mpr fun k => Option.isNone_eq_false_iff.mpr (Option.isSome_iff_ne_none.mpr (h k))
  simp [postOrder, full, State.checked]

theorem postOrder_inUse {s : State} {j k : Fin 24} {o : Order} (hj : s.order j = none) (ho : s.order k = some o)
    (permit carrier tanker : Nat) (specs : List LineSpec) :
    postOrder o.number permit carrier tanker specs s = s.refuse .inUse := by
  have free : (s.orders.find? Option.isNone).isNone = false := by
    cases hf : s.orders.find? Option.isNone with
    | none => simpa [show s.orders.get j = none from hj] using (Table.find?_eq_none _ _).mp hf j
    | some _ => rfl
  have taken : (s.findOrder o.number).isSome = true := by
    cases hf : s.findOrder o.number with
    | none => simpa [show s.orders.get k = some o from ho] using (Table.find?_eq_none _ _).mp hf k
    | some _ => rfl
  simp [postOrder, free, taken, State.checked]

theorem postOrder_posts {s : State} {slot : Fin 24} {num permit carrier tanker : Nat} {specs : List LineSpec}
    (free : s.order slot = none) (lowest : ∀ k < slot, s.order k ≠ none) (absent : ∀ k o, s.order k = some o → o.number ≠ num)
    (h1 : 1 ≤ num) (h2 : num ≤ 99999999) (h3 : permit ≤ 99999999) (h4 : 1 ≤ carrier) (h5 : carrier ≤ 65535)
    (h6 : tanker ≤ 999999) (lines : s.acceptable specs) :
    postOrder num permit carrier tanker specs s =
      (s.setOrder slot (some (newOrder num permit carrier tanker specs))).ok (field 1 (number slot)) := by
  simp only [postOrder, Table.freeEntry free lowest, State.findOrder_none absent]
  refine State.checked_ok _ _ _ ?_
  simp [within, lines.fields, lines.defined]
  omega

end Sys2Proof.Machine
end

section
namespace Sys2Proof.Proofs
open Sys2Proof Sys2Proof.Machine

/-- Settles O17: a full table, a number in use, and the lowest FREE slot. -/
theorem postOrder : Obligations.PostOrder := by
  unfold Obligations.PostOrder
  intro tag num permit carrier tanker specs s h
  refine ⟨fun full => ?_, fun ⟨j, hj⟩ ⟨k, o, ho, hn⟩ => ?_,
    fun slot free lowest absent h1 h2 h3 h4 h5 h6 lines => ⟨specs.map newLine, lines.posted, ?_⟩⟩
  · exact congrArg Host.Outcome.next (State.frame_refused h rfl
      (postOrder_full (s := s.heard .terminal) full num permit carrier tanker specs))
  · subst hn
    exact congrArg Host.Outcome.next (State.frame_refused h rfl
      (postOrder_inUse (s := s.heard .terminal) hj ho permit carrier tanker specs))
  · exact congrArg Host.Outcome.next (State.frame_answered (t := s.setOrder slot _) h rfl
      (postOrder_posts (s := s.heard .terminal) free lowest absent h1 h2 h3 h4 h5 h6 lines))

/-- Settles O20: both ends of a claim withdraw it on both sides. -/
theorem claimsEnd : Obligations.ClaimsEnd := by
  unfold Obligations.ClaimsEnd
  intro s slot o e q ho hs hc hq t
  refine ⟨fun tag h only => ?_, fun ms due timer => ?_⟩
  · refine congrArg Host.Outcome.next (State.frame_answered (t := t) h rfl ?_)
    simp only [releaseClaim, State.orderFound (s := s.heard .console) only, State.checked, hs]
    rw [State.withdrawClaim_eq (s := s.heard .console) ho hc hq]
    rfl
  · refine congrArg Host.Outcome.next ((State.expiry_own due _).trans ?_)
    simp only [ho, hs, timer, Option.isSome_some, and_self, if_true]
    rw [State.withdrawClaim_eq ho hc hq]
    rfl

end Sys2Proof.Proofs
end

section
namespace Sys2Proof.Machine

/-! ### The queued starts of an order are dropped (R83) -/

/-- An arm rid of a queued start of this order. -/
def Arm.undropped (x : Arm) (num : Nat) : Arm :=
  if x.queued.map QueuedStart.order = some num then { x with queued := none } else x

/-- The queued start of one arm is dropped where it names this order. -/
def State.dropStart (s : State) (num : Nat) (a : Fin 6) : State :=
  if (s.arm a).queued.map QueuedStart.order = some num
    then (s.modifyArm a (fun x => { x with queued := none })).raise .startDropped (number a) else s

theorem State.dropQueuedOf_eq (s : State) (num : Nat) : s.dropQueuedOf num = s.forArms (fun a t => t.dropStart num a) := by
  unfold State.dropQueuedOf
  congr 1
  funext a t
  unfold State.dropStart
  cases hq : (t.arm a).queued with
  | none => simp
  | some q => simp [State.dropQueued, hq]

theorem Arm.undropped_undropped (x : Arm) (num : Nat) : (x.undropped num).undropped num = x.undropped num := by
  unfold Arm.undropped
  by_cases h : x.queued.map QueuedStart.order = some num <;> simp [h]

theorem State.arm_dropStart (s : State) (num : Nat) (a b : Fin 6) :
    (s.dropStart num a).arm b = if b = a then (s.arm b).undropped num else s.arm b := by
  unfold State.dropStart Arm.undropped
  by_cases h : (s.arm a).queued.map QueuedStart.order = some num
  · rw [if_pos h, State.arm_congr (State.raise_arms _ _ _), State.arm_modifyArm]
    by_cases hb : b = a
    · subst hb; simp [h]
    · simp [hb]
  · rw [if_neg h]
    by_cases hb : b = a
    · subst hb; simp [h]
    · simp [hb]

/-- Dropping a start moves the arms and the ports alone. -/
theorem State.dropStart_frame (s : State) (num : Nat) (a : Fin 6) : s.dropStart num a = { s with
    arms := (s.dropStart num a).arms, terminal := (s.dropStart num a).terminal, console := (s.dropStart num a).console } := by
  unfold State.dropStart
  split <;> rfl

/-- What is raised is raised from any state of the same ports and bay time. -/
theorem State.raisesOnly_from {s u t : State} {raised : NoticeKind → Nat → Prop} (h : u.raisesOnly t raised)
    (terminal : u.terminal = s.terminal := by rfl) (console : u.console = s.console := by rfl)
    (now : u.now = s.now := by rfl) : s.raisesOnly t raised := by
  intro p
  rw [← State.port_congr terminal console p, ← now]
  exact h p

theorem State.raisesOnly_dropStart (s : State) (num : Nat) (a : Fin 6) :
    s.raisesOnly (s.dropStart num a) (s.dropsStart num) := by
  unfold State.dropStart
  split
  · next h =>
    obtain ⟨q, hq, hn⟩ := Option.map_eq_some_iff.mp h
    refine State.raisesOnly_mono (State.raisesOnly_from (State.raisesOnly_raise _ _ _)) ?_
    rintro k subject ⟨rfl, rfl⟩
    exact ⟨rfl, a, q, hq, hn, rfl⟩
  · exact s.raisesOnly_refl _

/-- A start dropped takes no notice back. -/
theorem State.announced_dropStart {s : State} {k : NoticeKind} {subject : Nat} (h : s.announced k subject) (num : Nat)
    (a : Fin 6) : (s.dropStart num a).announced k subject := by
  unfold State.dropStart
  split
  · exact State.announced_raise_of (s := s.modifyArm a _) h _ _
  · exact h

/-- One change of arms and ports alone after another. -/
theorem State.armsPorts_trans {s t u : State}
    (h : t = { s with arms := t.arms, terminal := t.terminal, console := t.console })
    (g : u = { t with arms := u.arms, terminal := u.terminal, console := u.console }) :
    u = { s with arms := u.arms, terminal := u.terminal, console := u.console } :=
  g.trans (by rw [h])

/-- What dropping the starts of an order on these arms leaves. -/
theorem State.dropStarts_spec (num : Nat) : ∀ (arms : List (Fin 6)) (s : State),
    let t := arms.foldl (fun t a => t.dropStart num a) s
    t = { s with arms := t.arms, terminal := t.terminal, console := t.console } ∧
      (∀ b, t.arm b = if b ∈ arms then (s.arm b).undropped num else s.arm b) ∧
      s.raisesOnly t (s.dropsStart num) ∧
      (∀ k subject, s.announced k subject → t.announced k subject) ∧
      ∀ a ∈ arms, ∀ q, (s.arm a).queued = some q → q.order = num → t.announced .startDropped (number a)
  | [], s => ⟨rfl, fun b => by simp, s.raisesOnly_refl _, fun _ _ h => h, by simp⟩
  | a :: rest, s => by
    intro t
    obtain ⟨frame, arms, raises, keeps, drops⟩ := State.dropStarts_spec num rest (s.dropStart num a)
    have now : (s.dropStart num a).now = s.now := by rw [s.dropStart_frame num a]; rfl
    have less : ∀ b q, ((s.dropStart num a).arm b).queued = some q → (s.arm b).queued = some q := by
      intro b q hq
      rw [State.arm_dropStart] at hq
      unfold Arm.undropped at hq
      split at hq
      · split at hq
        · cases hq
        · exact hq
      · exact hq
    refine ⟨State.armsPorts_trans (s.dropStart_frame num a) frame, fun b => ?_, ?_, fun k subject h => ?_,
      fun b hb q hq hn => ?_⟩
    · rw [show t.arm b = _ from arms b, State.arm_dropStart]
      by_cases hb : b = a
      · subst hb; simp [Arm.undropped_undropped]
      · simp [hb]
    · refine State.raisesOnly_trans now (s.raisesOnly_dropStart num a) (State.raisesOnly_mono raises ?_)
      rintro k subject ⟨hk, b, q, hq, hn, hs⟩
      exact ⟨hk, b, q, less b q hq, hn, hs⟩
    · exact keeps k subject (State.announced_dropStart h num a)
    · by_cases hba : b = a
      · subst hba
        refine keeps _ _ ?_
        rw [State.dropStart, if_pos (by simp [hq, hn])]
        exact State.announced_raise _ _ _
      · have same : (s.dropStart num a).arm b = s.arm b := by rw [State.arm_dropStart, if_neg hba]
        exact drops b ((List.mem_cons.mp hb).resolve_left hba) q (same ▸ hq) hn

/-- Dropping the queued starts of an order moves the arms and the ports alone. -/
theorem State.dropQueuedOf_frame (s : State) (num : Nat) : s.dropQueuedOf num = { s with
    arms := (s.dropQueuedOf num).arms, terminal := (s.dropQueuedOf num).terminal,
    console := (s.dropQueuedOf num).console } := by
  rw [State.dropQueuedOf_eq]
  exact (State.dropStarts_spec num armList s).1

theorem State.arm_dropQueuedOf (s : State) (num : Nat) (a : Fin 6) :
    (s.dropQueuedOf num).arm a = (s.arm a).undropped num := by
  rw [State.dropQueuedOf_eq]
  obtain ⟨-, arms, -⟩ := State.dropStarts_spec num armList s
  exact (arms a).trans (if_pos (mem_armList a))

theorem State.raisesOnly_dropQueuedOf (s : State) (num : Nat) :
    s.raisesOnly (s.dropQueuedOf num) (s.dropsStart num) := by
  rw [State.dropQueuedOf_eq]
  obtain ⟨-, -, raises, -⟩ := State.dropStarts_spec num armList s
  exact raises

theorem State.announced_dropQueuedOf {s : State} {num : Nat} {a : Fin 6} {q : QueuedStart} (hq : (s.arm a).queued = some q)
    (hn : q.order = num) : (s.dropQueuedOf num).announced .startDropped (number a) := by
  rw [State.dropQueuedOf_eq]
  obtain ⟨-, -, -, -, drops⟩ := State.dropStarts_spec num armList s
  exact drops a (mem_armList a) q hq hn

theorem State.startsDropped_dropQueuedOf (s : State) (num : Nat) : s.startsDropped (s.dropQueuedOf num) num :=
  ⟨s.arm_dropQueuedOf num, fun _ _ hq hn => State.announced_dropQueuedOf hq hn, s.raisesOnly_dropQueuedOf num⟩

/-- A change that keeps the queued starts and the ports' notices apart may be made before or after starts are dropped. -/
theorem State.dropQueuedOf_comm {h : State → State} (queued : ∀ t a, ((h t).arm a).queued = (t.arm a).queued)
    (arm : ∀ (t : State) a, (h t).modifyArm a (fun x => { x with queued := none }) =
      h (t.modifyArm a (fun x => { x with queued := none })))
    (raise : ∀ (t : State) k subject, (h t).raise k subject = h (t.raise k subject)) (s : State) (num : Nat) :
    (h s).dropQueuedOf num = h (s.dropQueuedOf num) := by
  have one : ∀ a t, (h t).dropStart num a = h (t.dropStart num a) := by
    intro a t
    unfold State.dropStart
    rw [queued, arm, raise]
    split <;> rfl
  simp only [State.dropQueuedOf_eq, State.forArms_eq, one]

end Sys2Proof.Machine
end

section
/-! A frame heard on a port meets no operation: what is done before the port hunts again may as well be done after. -/

namespace Sys2Proof.Machine

theorem State.arm_heard (s : State) (p : PortId) (a : Fin 6) : (s.heard p).arm a = s.arm a := by cases p <;> rfl

theorem State.order_heard (s : State) (p : PortId) (k : Fin 24) : (s.heard p).order k = s.order k := by cases p <;> rfl

theorem State.modifyArm_heard (s : State) (p : PortId) (a : Fin 6) (f : Arm → Arm) :
    (s.heard p).modifyArm a f = (s.modifyArm a f).heard p := by cases p <;> rfl

theorem State.setOrder_heard (s : State) (p : PortId) (k : Fin 24) (o : Option Order) :
    (s.heard p).setOrder k o = (s.setOrder k o).heard p := by cases p <;> rfl

theorem State.dropQueuedOf_heard (s : State) (p : PortId) (num : Nat) :
    (s.heard p).dropQueuedOf num = (s.dropQueuedOf num).heard p :=
  State.dropQueuedOf_comm (h := fun t => t.heard p) (fun t a => by rw [State.arm_heard])
    (fun t a => t.modifyArm_heard p a _) (fun t k subject => (t.raise_heard k subject p).symm) s num

end Sys2Proof.Machine
end

section
namespace Sys2Proof.Machine

/-! ### AMEND ORDER (R25) -/

theorem amendOrder_inUse {s : State} {num : Nat} {slot : Fin 24} {o : Order} (ho : s.onlyOrder num slot o)
    (hs : o.state ≠ .posted) (permit tanker : Nat) (specs : List LineSpec) :
    amendOrder num permit tanker specs s = s.refuse .inUse := by
  simp [amendOrder, State.orderFound ho, State.checked, hs]

theorem amendOrder_replaces {s : State} {num permit tanker : Nat} {slot : Fin 24} {o : Order} {specs : List LineSpec}
    (ho : s.onlyOrder num slot o) (hs : o.state = .posted) (h1 : 1 ≤ num) (h2 : num ≤ 99999999) (h3 : permit ≤ 99999999)
    (h4 : tanker ≤ 999999) (lines : s.acceptable specs) :
    amendOrder num permit tanker specs s = ((s.setOrder slot (some { o with
      permit := permit, tanker := tanker, lines := specs.map newLine })).dropQueuedOf num).ok [] := by
  simp only [amendOrder, State.orderFound ho]
  refine State.checked_ok _ _ _ ?_
  simp [hs, within, lines.fields, lines.defined]
  omega

end Sys2Proof.Machine
end

section
namespace Sys2Proof.Proofs
open Sys2Proof Sys2Proof.Machine

/-- Settles O18: an order past POSTED is refused; a POSTED one is written anew, and its queued starts are dropped. -/
theorem amendOrder : Obligations.AmendOrder := by
  unfold Obligations.AmendOrder
  intro tag num permit tanker specs s slot o h ho
  refine ⟨fun hs => ?_, fun hs h1 h2 h3 h4 lines => ?_⟩
  · exact congrArg Host.Outcome.next (State.frame_refused h rfl
      (amendOrder_inUse (s := s.heard .terminal) ho hs permit tanker specs))
  · have replaced := amendOrder_replaces (s := s.heard .terminal) ho hs h1 h2 h3 h4 lines
    rw [State.setOrder_heard, State.dropQueuedOf_heard] at replaced
    exact ⟨specs.map newLine, _, lines.posted, congrArg Host.Outcome.next (State.frame_answered h rfl replaced),
      State.dropQueuedOf_frame _ num, State.startsDropped_dropQueuedOf (s.setOrder slot _) num⟩

end Sys2Proof.Proofs
end

section
/-! The close of an order: the note it leaves and everything else it does (R32 to R37, R77, R162 to R165). -/

namespace Sys2Proof.Machine

/-! ### The average temperature of a note's line (R77) -/

/-- The rounded quotient of a sum that is not negative is a nearest one, halves away from zero. -/
theorem nearest_spec {d t : Int} (hd : 0 < d) (ht : 0 ≤ t) :
    2 * |d * ((2 * t + d) / (2 * d)) - t| ≤ d ∧
      (2 * |d * ((2 * t + d) / (2 * d)) - t| = d → |t| ≤ d * |(2 * t + d) / (2 * d)|) := by
  obtain ⟨q, hq⟩ : ∃ q, (2 * t + d) / (2 * d) = q := ⟨_, rfl⟩
  rw [hq]
  obtain ⟨low, high⟩ := (Int.ediv_eq_iff_of_pos (by omega)).mp hq
  have commuted : q * (2 * d) = 2 * (d * q) := by ring
  rw [commuted] at low high
  have nonneg : 0 ≤ q := hq ▸ Int.ediv_nonneg (by omega) (by omega)
  rcases abs_cases (d * q - t) with ⟨habs, -⟩ | ⟨habs, -⟩
  · refine ⟨by omega, fun _ => ?_⟩
    rw [abs_of_nonneg ht, abs_of_nonneg nonneg]
    omega
  · exact ⟨by omega, fun tie => by omega⟩

/-- The average a record gives is the one R77 states. -/
theorem LineRecord.averages_average (r : LineRecord) : r.averages r.average := by
  refine ⟨fun h0 => by simp [LineRecord.average, h0], fun h0 => ?_⟩
  have volume : 0 < r.gv := Nat.pos_of_ne_zero h0
  have pos : (0 : Int) < 10 * r.gv := by positivity
  have den : ((r.gv * 10 : Nat) : Int) = 10 * r.gv := by push_cast; ring
  refine ⟨roundHalfAway r.tsum (r.gv * 10), by rw [LineRecord.average, if_neg h0], ?_⟩
  unfold roundHalfAway
  rw [den]
  split
  · next ht => exact nearest_spec pos ht
  · next ht =>
    have spec := nearest_spec pos (t := -r.tsum) (by omega)
    have flipped : ∀ q : Int, |10 * (r.gv : Int) * q - -r.tsum| = |10 * r.gv * -q - r.tsum| := by
      intro q
      rw [← abs_neg]
      congr 1
      ring
    rwa [flipped, abs_neg, ← abs_neg ((2 * -r.tsum + 10 * (r.gv : Int)) / (2 * (10 * r.gv)))] at spec

/-! ### The note of an order (R162, R163) -/

/-- The line record of a line that has started holds it. -/
theorem noteLine_records {l : Line} (h : l.isWaiting = false) : (noteLine l).records l :=
  ⟨rfl, rfl, rfl, rfl, by rw [h]; rfl, rfl, rfl, rfl, l.record.averages_average, rfl, rfl, rfl, rfl⟩

/-- A line that never started is recorded as NOT_LOADED, any other as it stands. -/
theorem noteLine_neverStarted_records (l : Line) : (noteLine l.neverStarted).records l := by
  unfold Line.neverStarted
  split
  · next h => exact ⟨rfl, rfl, rfl, rfl, by rw [if_pos h]; rfl, rfl, rfl, rfl, l.record.averages_average, rfl, rfl, rfl, rfl⟩
  · next h => exact noteLine_records (Bool.not_eq_true _ ▸ h)

/-- The order under another life: its number, carrier and claim are those of the order, and its lines are changed one by one. -/
theorem noteOf_records {o x : Order} {g : Line → Line} (number : x.number = o.number) (carrier : x.carrier = o.carrier)
    (permit : x.claimPermit = o.claimPermit) (tanker : x.claimTanker = o.claimTanker) (time : x.claimTime = o.claimTime)
    (lines : x.lines = o.lines.map g) (each : ∀ l ∈ o.lines, (noteLine (g l)).records l) (cause : CloseCause) (seq : Nat)
    (clock : Clock) : (noteOf x cause seq clock).records o cause clock := by
  refine ⟨number, fun p hp => ?_, carrier, fun k hk => ?_, fun y hy => ?_, rfl, rfl, rfl, rfl, ?_, fun i l n hl hn => ?_⟩
  · simp [noteOf, permit, hp]
  · simp [noteOf, tanker, hk]
  · simp [noteOf, time, hy]
  · simp [noteOf, lines]
  · simp only [noteOf, lines, List.getElem?_map, hl, Option.map_some, Option.some.injEq] at hn
    exact hn ▸ each l (List.mem_of_getElem? hl)

/-! ### The close (R37) -/

/-- The ports and the clock are not in the close's first steps. -/
theorem State.compose_frame (s : State) (o : Order) (cause : CloseCause) :
    s.compose o cause = { s with journal := (s.compose o cause).journal } := by
  unfold State.compose
  split <;> rfl

/-- The close of an order does what `State.closedAs` says of an order that its note records. -/
theorem State.closeOrder_closedAs {s : State} {slot : Fin 24} {o x : Order} {k : Fin 48} (hx : s.order slot = some x)
    (hk : s.journal.nextSlot k) (hnumber : x.number = o.number) (permit : x.claimPermit = o.claimPermit) {cause : CloseCause}
    (records : (noteOf (x.closed cause) cause s.journal.nextSequence s.clock).records o cause s.clock) :
    s.closedAs (s.closeOrder slot cause) slot o k cause := by
  rw [State.closeOrder_eq hx]
  obtain ⟨c, hc⟩ : ∃ c, c = (s.compose (x.closed cause) cause).endClaim x.claimPermit := ⟨_, rfl⟩
  have frame : c = { s with journal := (s.compose (x.closed cause) cause).journal, permits := c.permits } := by
    rw [hc, s.compose_frame (x.closed cause) cause]
    rfl
  obtain ⟨d, hd⟩ : ∃ d, d = c.dropQueuedOf x.number := ⟨_, rfl⟩
  have dropped : d = { c with arms := d.arms, terminal := d.terminal, console := d.console } :=
    hd ▸ c.dropQueuedOf_frame x.number
  have now : d.now = s.now := by rw [dropped, frame]; rfl
  have arms : ∀ a, c.arm a = s.arm a := fun a => by rw [frame]; rfl
  have starts : ∀ k subject, c.dropsStart x.number k subject → s.dropsStart o.number k subject := by
    intro k subject h
    simpa only [State.dropsStart, arms, hnumber] using h
  obtain ⟨e, he⟩ : ∃ e, e = d.setOrder slot none := ⟨_, rfl⟩
  change s.closedAs ((((((s.compose (x.closed cause) cause).endClaim x.claimPermit).dropQueuedOf x.number).setOrder slot
    none).raise .orderClosed (number slot)).raise .noteStored 0) slot o k cause
  rw [← hc, ← hd, ← he]
  refine ⟨?_, ?_, fun f => ?_, fun a => ?_, ?_, ?_, State.announced_raise _ _ _, fun a q hq hn => ?_⟩
  · rw [he, dropped, frame]
    rfl
  · have journal : ((e.raise .orderClosed (number slot)).raise .noteStored 0).journal =
        (s.compose (x.closed cause) cause).journal := by
      rw [he, dropped, frame]
      rfl
    rw [journal]
    exact State.compose_gainsAt hk _ _ records
  · have permits : ((e.raise .orderClosed (number slot)).raise .noteStored 0).permits = c.permits := by
      rw [he, dropped]
      rfl
    rw [permits, hc, State.endClaim_get, s.compose_frame, permit]
    rfl
  · have arm : ((e.raise .orderClosed (number slot)).raise .noteStored 0).arm a = d.arm a := by rw [he]; rfl
    rw [arm, hd, State.arm_dropQueuedOf, arms, hnumber]
    rfl
  · refine State.raisesOnly_trans (t := d) now ?_ (State.raisesOnly_trans (t := e.raise .orderClosed (number slot)) ?_ ?_ ?_)
    · refine State.raisesOnly_mono (State.raisesOnly_from (u := c) (hd ▸ c.raisesOnly_dropQueuedOf x.number) ?_ ?_ ?_)
        fun k subject h => .inl (starts k subject h)
      all_goals rw [frame]
      rfl
    · rw [he]; rfl
    · exact State.raisesOnly_mono (State.raisesOnly_from (u := e) (e.raisesOnly_raise _ _) (he ▸ rfl) (he ▸ rfl) (he ▸ rfl))
        fun k subject h => .inr (.inl h)
    · exact State.raisesOnly_mono (State.raisesOnly_raise _ _ _) fun k subject h => .inr (.inr h)
  · exact State.announced_raise_of (State.announced_raise _ _ _) _ _
  · refine State.announced_raise_of (State.announced_raise_of ?_ _ _) _ _
    have drops : d.announced .startDropped (number a) :=
      hd ▸ State.announced_dropQueuedOf ((arms a).symm ▸ hq) (hn.trans hnumber.symm)
    rw [he]
    exact drops

/-- The close of an order whose slot has been rewritten is the close from the state before. -/
theorem State.closedAs_modifyOrder {s t : State} {slot : Fin 24} {f : Order → Order} {o : Order} {k : Fin 48}
    {cause : CloseCause} (h : (s.modifyOrder slot f).closedAs t slot o k cause) : s.closedAs t slot o k cause := by
  obtain ⟨frame, rest⟩ := h
  refine ⟨frame.trans ?_, rest⟩
  simp [State.modifyOrder, Table.modify_eq_set, Table.set_set]

/-- An order closes with its WAITING lines ENDED as NOT_LOADED. -/
theorem State.closeEndWaiting_closedAs {s : State} {slot : Fin 24} {o : Order} {k : Fin 48} (ho : s.order slot = some o)
    (hk : s.journal.nextSlot k) (cause : CloseCause) :
    s.closedAs ((s.modifyOrder slot Order.endWaiting).closeOrder slot cause) slot o k cause := by
  refine State.closedAs_modifyOrder (f := Order.endWaiting) (State.closeOrder_closedAs
    (s := s.modifyOrder slot Order.endWaiting) (o := o) (x := o.endWaiting) ?_ hk rfl rfl ?_)
  · rw [State.order_modifyOrder, if_pos rfl, ho]
    rfl
  · exact noteOf_records (o := o) (x := o.endWaiting.closed cause) (g := Line.neverStarted) rfl rfl rfl rfl rfl rfl
      (fun l _ => noteLine_neverStarted_records l) _ _ _

end Sys2Proof.Machine
end

section
namespace Sys2Proof.Machine

/-! ### The close of an order, and a frame heard on a port -/

theorem State.modifyOrder_heard (s : State) (p : PortId) (k : Fin 24) (f : Order → Order) :
    (s.heard p).modifyOrder k f = (s.modifyOrder k f).heard p := by cases p <;> rfl

theorem State.compose_heard (s : State) (p : PortId) (o : Order) (cause : CloseCause) :
    (s.heard p).compose o cause = (s.compose o cause).heard p := by
  have journal : (s.heard p).journal = s.journal := by cases p <;> rfl
  unfold State.compose
  rw [journal]
  split
  · cases p <;> rfl
  · rfl

theorem State.endClaim_heard (s : State) (p : PortId) (num : Option Nat) :
    (s.heard p).endClaim num = (s.endClaim num).heard p := by cases p <;> rfl

theorem State.closeOrder_heard (s : State) (p : PortId) (slot : Fin 24) (cause : CloseCause) :
    (s.heard p).closeOrder slot cause = (s.closeOrder slot cause).heard p := by
  cases ho : s.order slot with
  | none => simp [State.closeOrder, State.order_heard, ho]
  | some o =>
    rw [State.closeOrder_eq ho, State.closeOrder_eq ((s.order_heard p slot).trans ho)]
    simp only [State.compose_heard, State.endClaim_heard, State.dropQueuedOf_heard, State.setOrder_heard, State.raise_heard]

/-! ### FINISH ORDER, the idle timeout, and CANCEL ORDER without an ACTIVE line (R33, R34, R35) -/

theorem finishOrder_closes {s : State} {slot : Fin 24} {o : Order} (ho : s.onlyOrder o.number slot o)
    (hs : o.state = .loading) (idle : o.lines.any Line.isActive = false) :
    finishOrder o.number s = ((s.modifyOrder slot Order.endWaiting).closeOrder slot .finished).ok [] := by
  simp [finishOrder, State.orderFound ho, State.checked, hs, idle]

theorem cancelOrder_closes {s : State} {slot : Fin 24} {o : Order} (ho : s.onlyOrder o.number slot o)
    (hs : o.state = .loading) (idle : o.lines.any Line.isActive = false) :
    cancelOrder o.number s = ((s.modifyOrder slot Order.endWaiting).closeOrder slot .cancelled).ok [] := by
  simp [cancelOrder, State.orderFound ho, hs, idle]

end Sys2Proof.Machine
end

section
namespace Sys2Proof.Proofs
open Sys2Proof Sys2Proof.Machine

/-- Settles O21: the three closes are one close, by its cause. -/
theorem ordersCloseWithTheirNote : Obligations.OrdersCloseWithTheirNote := by
  unfold Obligations.OrdersCloseWithTheirNote
  intro s slot o k ho hs noneActive _ _ _ hk
  have idle : o.lines.any Line.isActive = false := List.any_eq_false.mpr fun l hl => by simp [noneActive l hl]
  refine ⟨fun tag h only => ⟨_, ?_, State.closeEndWaiting_closedAs ho hk .finished⟩,
    fun tag h only => ⟨_, ?_, State.closeEndWaiting_closedAs ho hk .cancelled⟩,
    fun ms due timer => ⟨_, ?_, State.closeEndWaiting_closedAs ho hk .timedOut⟩⟩
  · have closed := finishOrder_closes (s := s.heard .console) only hs idle
    rw [State.modifyOrder_heard, State.closeOrder_heard] at closed
    exact congrArg Host.Outcome.next (State.frame_answered h rfl closed)
  · have closed := cancelOrder_closes (s := s.heard .terminal) only hs idle
    rw [State.modifyOrder_heard, State.closeOrder_heard] at closed
    exact congrArg Host.Outcome.next (State.frame_answered h rfl closed)
  · refine congrArg Host.Outcome.next ((State.expiry_own due _).trans ?_)
    simp only [ho, hs, timer, Option.isSome_some, and_self, if_true]

end Sys2Proof.Proofs
end

section
/-! The end of a line: the changes of one line, its record fixed, its arm freed, its order judged (R32, R92, R93, R141, R142). -/

namespace Sys2Proof.Machine

/-! ### Changing one line -/

theorem State.lineAt_of {s : State} {ref : LineRef} {o : Order} {l : Line} (ho : s.order ref.slot = some o)
    (hl : o.line? ref.line = some l) : s.lineAt ref = some l := (s.lineAt_iff ref l).mpr ⟨o, ho, hl⟩

theorem Order.line?_some {o : Order} {k : Nat} {l : Line} (h : o.line? k = some l) : o.lines[k - 1]? = some l := by
  unfold Order.line? at h
  split at h
  · cases h
  · exact h

theorem Order.line?_succ (o : Order) (k : Nat) : o.line? (k + 1) = o.lines[k]? := rfl

/-- The line as it stands after it changes. -/
theorem State.lineAt_modifyLine {s : State} {ref : LineRef} {l : Line} (h : s.lineAt ref = some l) (f : Line → Line) :
    (s.modifyLine ref f).lineAt ref = some (f l) := by
  obtain ⟨o, ho, hl⟩ := (s.lineAt_iff ref l).mp h
  refine State.lineAt_of (o := { o with lines := o.lines.modify (ref.line - 1) f }) ?_ ?_
  · rw [State.modifyLine, State.order_modifyOrder, if_pos rfl, ho]
    rfl
  · have pos := Order.line?_pos hl
    rw [Order.line?_modify, if_pos (by omega), hl]
    rfl

theorem State.modifyOrder_modifyOrder (s : State) (slot : Fin 24) (f g : Order → Order) :
    (s.modifyOrder slot f).modifyOrder slot g = s.modifyOrder slot (fun o => g (f o)) := by
  simp only [State.modifyOrder, Table.modify_modify, Option.map_map, Function.comp_def]

theorem State.modifyLine_modifyLine (s : State) (ref : LineRef) (f g : Line → Line) :
    (s.modifyLine ref f).modifyLine ref g = s.modifyLine ref (fun l => g (f l)) := by
  simp only [State.modifyLine, State.modifyOrder_modifyOrder, List.modify_modify_eq, Function.comp_def]

/-- Writing one line of one order. -/
theorem State.modifyLine_set {s : State} {ref : LineRef} {o : Order} {l : Line} (ho : s.order ref.slot = some o)
    (hl : o.line? ref.line = some l) (f : Line → Line) : s.modifyLine ref f =
      { s with orders := s.orders.set ref.slot (some { o with lines := o.lines.set (ref.line - 1) (f l) }) } := by
  rw [State.modifyLine, State.modifyOrder_eq ho, List.modify_eq_set_getElem?, Order.line?_some hl]
  rfl

/-- Two changes that agree on the line as it stands. -/
theorem State.modifyLine_congr {s : State} {ref : LineRef} {l : Line} (h : s.lineAt ref = some l) {f g : Line → Line}
    (same : f l = g l) : s.modifyLine ref f = s.modifyLine ref g := by
  obtain ⟨o, ho, hl⟩ := (s.lineAt_iff ref l).mp h
  rw [State.modifyLine_set ho hl, State.modifyLine_set ho hl, same]

theorem State.modifyLine_self {s : State} {ref : LineRef} {l : Line} (h : s.lineAt ref = some l) {f : Line → Line}
    (same : f l = l) : s.modifyLine ref f = s := by
  obtain ⟨o, ho, hl⟩ := (s.lineAt_iff ref l).mp h
  have ho' : s.orders.get ref.slot = some o := ho
  have lines : o.lines.set (ref.line - 1) l = o.lines := by
    obtain ⟨hlt, hget⟩ := List.getElem?_eq_some_iff.mp (Order.line?_some hl)
    rw [← hget, List.set_getElem_self]
  rw [State.modifyLine_set ho hl, same, lines]
  rw [← ho', Table.set_get_self]

theorem State.modifyArm_self {s : State} {a : Fin 6} {f : Arm → Arm} (same : f (s.arm a) = s.arm a) :
    s.modifyArm a f = s := by
  have same : f (s.arms.get a) = s.arms.get a := same
  rw [State.modifyArm, Table.modify_eq_set, same, Table.set_get_self]

/-- The line active on an arm, changed through its arm. -/
theorem State.modifyActiveLine_of {s : State} {a : Fin 6} {ref : LineRef} (h : (s.arm a).active = some ref)
    (f : Line → Line) : s.modifyActiveLine a f = s.modifyLine ref f := by simp only [State.modifyActiveLine, h]

theorem State.activeLine_of {s : State} {a : Fin 6} {ref : LineRef} (h : (s.arm a).active = some ref) :
    s.activeLine a = s.lineAt ref := by simp [State.activeLine, h]

/-! ### The record of a line is fixed (R93, R141, R142, R157) -/

/-- The distance of a dose from the required one, counted with natural numbers and with whole ones. -/
theorem outsideTolerance_eq (tolerance required dosed : Nat) :
    (decide (0 < required) && decide (tolerance * required < ((dosed : Int) - required).natAbs * 100)) =
      decide (0 < required ∧ (tolerance * required : Int) < |(dosed : Int) - required| * 100) := by
  rw [← Bool.decide_and, decide_eq_decide, Int.abs_eq_natAbs]
  exact and_congr_right fun _ => by exact_mod_cast Iff.rfl

/-- The dose check of a record is that of R142. -/
theorem DosingRecord.deviates_eq (r : DosingRecord) (gv : Nat) : r.deviates gv = r.strays gv :=
  (outsideTolerance_eq r.tolerance (r.fixed gv).required (r.fixed gv).dosed :)

theorem DosingRecord.totals_eq (r : DosingRecord) (gv : Nat) : r.totals gv = r.fixed gv := rfl

/-- The injector that an arm's record engages is IDLE. -/
def State.idleEngaged (s : State) (a : Fin 6) : State :=
  { s with
    injectors := match (s.arm a).engaged with
      | some i => s.injectors.modify i (fun x => { x with window := none })
      | none => s.injectors }

theorem State.idleEngaged_none {s : State} {a : Fin 6} (h : (s.arm a).dosing = none) : s.idleEngaged a = s := by
  simp [State.idleEngaged, Arm.engaged, h]

/-- The arm whose dosing record has been discarded (R133, R142). -/
def Arm.undosed (x : Arm) : Arm :=
  { x with dosing := none, reducedFlow := if x.dosing.isSome = true then false else x.reducedFlow }

/-- A line's additive quantities as its arm's record fixes them (R142). -/
def Line.doseFixed (l : Line) (x : Arm) : Line :=
  { l with
    flags := { l.flags with doseDeviation := l.flags.doseDeviation || x.strays l.record.gv }
    record := { l.record with additive := (x.dosing.map (fun r => r.fixed l.record.gv)).or l.record.additive } }

theorem State.fixDosing_of {s : State} {a : Fin 6} {r : DosingRecord} (hd : (s.arm a).dosing = some r) (quiet : Bool) :
    s.fixDosing a quiet =
      let gv := ((s.activeLine a).map (fun l => l.record.gv)).getD 0
      (((s.idleEngaged a).modifyActiveLine a (fun l => { l with
        flags := { l.flags with doseDeviation := l.flags.doseDeviation || r.deviates gv }
        record := { l.record with additive := some (r.totals gv) } })).modifyArm a (fun x =>
          { x with dosing := none, reducedFlow := false })).raiseIf (r.deviates gv && !quiet) .doseDeviation (number a) := by
  unfold State.fixDosing State.idleEngaged
  rw [hd]
  cases (s.arm a).engaged <;> rfl

/-- The additive quantities of a line are fixed and its record is discarded, as one state (R142). -/
theorem State.fixDosing_eq {s : State} {a : Fin 6} {ref : LineRef} {l : Line} (h : (s.arm a).active = some ref)
    (hl : s.lineAt ref = some l) (quiet : Bool) : s.fixDosing a quiet =
      (((s.idleEngaged a).modifyLine ref (fun x => x.doseFixed (s.arm a))).modifyArm a Arm.undosed).raiseIf
        ((s.arm a).strays l.record.gv && !quiet) .doseDeviation (number a) := by
  cases hd : (s.arm a).dosing with
  | none =>
    have undosed : (s.arm a).undosed = s.arm a := by
      generalize s.arm a = x at hd
      cases x
      cases hd
      rfl
    have strays : (s.arm a).strays l.record.gv = false := by simp [Arm.strays, hd]
    rw [State.idleEngaged_none hd, State.modifyLine_self hl (by simp [Line.doseFixed, Arm.strays, hd]),
      State.modifyArm_self undosed, strays, Bool.false_and, State.raiseIf_false, State.fixDosing, hd]
  | some r =>
    have gv : ((s.activeLine a).map (fun l => l.record.gv)).getD 0 = l.record.gv := by
      simp [State.activeLine_of h, hl]
    have strays : (s.arm a).strays l.record.gv = r.deviates l.record.gv := by
      rw [DosingRecord.deviates_eq, Arm.strays, hd, Option.map_some, Option.getD_some]
    have active : ((s.idleEngaged a).arm a).active = some ref := h
    have line : (s.idleEngaged a).lineAt ref = some l := hl
    rw [State.fixDosing_of hd]
    dsimp only
    rw [gv, strays, State.modifyActiveLine_of active, State.modifyLine_congr line
      (g := fun x => x.doseFixed (s.arm a)), State.modifyArm_congr _ a (g := Arm.undosed)]
    · have arm : ((s.idleEngaged a).modifyLine ref (fun x => x.doseFixed (s.arm a))).arm a = s.arm a := rfl
      rw [arm]
      simp [Arm.undosed, hd]
    · simp [Line.doseFixed, hd, strays, DosingRecord.totals_eq]

theorem Line.overrun_eq (l : Line) : l.overrun = (l.delivered + 500) / 1000 - l.preset := rfl

/-- The overrun of a line is decided (R93). -/
theorem State.decideOverrun_eq {s : State} {a : Fin 6} {ref : LineRef} {l : Line} (h : (s.arm a).active = some ref)
    (hl : s.lineAt ref = some l) : s.decideOverrun a =
      (s.modifyLine ref (fun x => { x with flags := { x.flags with
        overrun := x.flags.overrun || decide ((s.arm a).setup.overrunLimit < l.overrun) } })).modifyArm a
          (fun x => { x with lastOverrun := l.overrun }) := by
  simp only [State.decideOverrun, State.activeLine_of h, hl, State.modifyActiveLine_of h]

theorem State.raiseIf_modifyLine (s : State) (c : Bool) (k : NoticeKind) (subject : Nat) (ref : LineRef) (f : Line → Line) :
    (s.raiseIf c k subject).modifyLine ref f = (s.modifyLine ref f).raiseIf c k subject := by cases c <;> rfl

theorem State.raiseIf_modifyArm (s : State) (c : Bool) (k : NoticeKind) (subject : Nat) (a : Fin 6) (f : Arm → Arm) :
    (s.raiseIf c k subject).modifyArm a f = (s.modifyArm a f).raiseIf c k subject := by cases c <;> rfl

theorem State.arm_raiseIf (s : State) (c : Bool) (k : NoticeKind) (subject : Nat) (a : Fin 6) :
    (s.raiseIf c k subject).arm a = s.arm a := by cases c <;> rfl

theorem State.lineAt_raiseIf (s : State) (c : Bool) (k : NoticeKind) (subject : Nat) (ref : LineRef) :
    (s.raiseIf c k subject).lineAt ref = s.lineAt ref := by cases c <;> rfl

/-- The arm whose line's record is fixed: it has no dosing record, and its last overrun is the line's (R93, R142). -/
def Arm.lineFixed (x : Arm) (l : Line) : Arm := { x.undosed with lastOverrun := l.overrun }

/-- Steps 1 and 2 of finishing a line, as one state (R92). -/
theorem State.fixLine_eq {s : State} {a : Fin 6} {ref : LineRef} {l : Line} (h : (s.arm a).active = some ref)
    (hl : s.lineAt ref = some l) (quiet : Bool) : s.fixLine a quiet =
      (((s.idleEngaged a).modifyLine ref (fun _ => s.fixed a l)).modifyArm a (fun x => x.lineFixed l)).raiseIf
        ((s.arm a).strays l.record.gv && !quiet) .doseDeviation (number a) := by
  obtain ⟨atEnd, hend⟩ : ∃ f : Line → Line, f = fun l => { l with record := { l.record with atEnd := some (s.readings a) } } :=
    ⟨_, rfl⟩
  have gv : (atEnd l).record.gv = l.record.gv := by rw [hend]
  obtain ⟨dosed, hdosed⟩ : ∃ m, m = (atEnd l).doseFixed (s.arm a) := ⟨_, rfl⟩
  have delivered : dosed.overrun = l.overrun := by rw [hdosed, hend]; rfl
  have read : s.fixLine a quiet = ((s.modifyLine ref atEnd).fixDosing a quiet).decideOverrun a := by
    rw [State.fixLine, State.modifyActiveLine_of h, hend]
  have fixed : (s.modifyLine ref atEnd).fixDosing a quiet =
      ((((s.idleEngaged a).modifyLine ref (fun _ => dosed))).modifyArm a Arm.undosed).raiseIf
        ((s.arm a).strays l.record.gv && !quiet) .doseDeviation (number a) := by
    rw [State.fixDosing_eq (s := s.modifyLine ref atEnd) h (State.lineAt_modifyLine hl atEnd), gv]
    have line : (s.idleEngaged a).lineAt ref = some l := hl
    have idle : ((s.modifyLine ref atEnd).idleEngaged a) = (s.idleEngaged a).modifyLine ref atEnd := rfl
    have arm : (s.modifyLine ref atEnd).arm a = s.arm a := rfl
    rw [idle, State.modifyLine_modifyLine, State.modifyLine_congr line (g := fun _ => dosed) (by rw [hdosed, arm]), arm]
  obtain ⟨u, hu⟩ : ∃ u, u = ((((s.idleEngaged a).modifyLine ref (fun _ => dosed))).modifyArm a Arm.undosed).raiseIf
        ((s.arm a).strays l.record.gv && !quiet) .doseDeviation (number a) := ⟨_, rfl⟩
  have arm : u.arm a = (s.arm a).undosed := by
    rw [hu, State.arm_raiseIf, State.arm_modifyArm, if_pos rfl]
    rfl
  have line : u.lineAt ref = some dosed := by
    rw [hu, State.lineAt_raiseIf]
    exact State.lineAt_modifyLine (s := s.idleEngaged a) hl _
  rw [read, fixed, ← hu, State.decideOverrun_eq (by rw [arm]; exact h) line, arm, delivered, hu, State.raiseIf_modifyLine,
    State.raiseIf_modifyArm]
  refine congrArg (fun t : State => t.raiseIf _ _ _) ?_
  have commute : ∀ (t : State) f g, (t.modifyArm a f).modifyLine ref g = (t.modifyLine ref g).modifyArm a f := fun _ _ _ => rfl
  rw [commute, State.modifyArm_modifyArm, State.modifyLine_modifyLine, hdosed, hend]
  rfl

/-- The arm whose record's owed shots and shot in flight are abandoned (R141). -/
def Arm.abandoned (x : Arm) : Arm := { x with dosing := x.dosing.map (fun r => { r with owed := 0, shot := none }) }

theorem Arm.abandoned_engaged (x : Arm) : x.abandoned.engaged = x.engaged := by
  unfold Arm.abandoned Arm.engaged
  cases x.dosing <;> rfl

theorem Arm.abandoned_strays (x : Arm) (gv : Nat) : x.abandoned.strays gv = x.strays gv := by
  unfold Arm.abandoned Arm.strays
  cases x.dosing <;> rfl

theorem Arm.abandoned_fixed (x : Arm) (gv : Nat) :
    x.abandoned.dosing.map (fun r => r.fixed gv) = x.dosing.map (fun r => r.fixed gv) := by
  unfold Arm.abandoned
  cases x.dosing <;> rfl

theorem Arm.abandoned_lineFixed (x : Arm) (l : Line) : x.abandoned.lineFixed l = x.lineFixed l := by
  unfold Arm.abandoned Arm.lineFixed Arm.undosed
  simp only [Option.isSome_map]

theorem Arm.abandoned_self {x : Arm} (h : x.dosing = none) : x.abandoned = x := by
  cases x
  cases h
  rfl

/-- A record's shots are abandoned, as one state (R141). -/
theorem State.abandonDosing_eq (s : State) (a : Fin 6) :
    s.abandonDosing a = (s.idleEngaged a).modifyArm a Arm.abandoned := by
  cases hd : (s.arm a).dosing with
  | none => rw [State.abandonDosing, hd, State.idleEngaged_none hd, State.modifyArm_self (Arm.abandoned_self hd)]
  | some r =>
    have abandoned : s.abandonDosing a = (s.idleEngaged a).modifyDosing a (fun _ => { r with owed := 0, shot := none }) := by
      unfold State.abandonDosing State.idleEngaged
      rw [hd]
      cases (s.arm a).engaged <;> rfl
    rw [abandoned]
    refine State.modifyArm_congr _ a ?_
    have arm : (s.idleEngaged a).arm a = s.arm a := rfl
    rw [arm, Arm.abandoned, hd]
    rfl

/-- A second stop of a window does nothing. -/
theorem State.idleEngaged_idleEngaged (s : State) (a : Fin 6) : (s.idleEngaged a).idleEngaged a = s.idleEngaged a := by
  have arm : (s.idleEngaged a).arm a = s.arm a := rfl
  unfold State.idleEngaged at arm ⊢
  rw [arm]
  cases (s.arm a).engaged with
  | none => rfl
  | some i => simp only [Table.modify_modify]

/-- A record whose shots are abandoned fixes its line as it would have (R141). -/
theorem State.fixLine_abandonDosing {s : State} {a : Fin 6} {ref : LineRef} {l : Line} (h : (s.arm a).active = some ref)
    (hl : s.lineAt ref = some l) (quiet : Bool) : (s.abandonDosing a).fixLine a quiet = s.fixLine a quiet := by
  obtain ⟨u, hu⟩ : ∃ u, u = (s.idleEngaged a).modifyArm a Arm.abandoned := ⟨_, rfl⟩
  have arm : u.arm a = (s.arm a).abandoned := by
    rw [hu, State.arm_modifyArm, if_pos rfl]
    rfl
  have fixed : u.fixed a l = s.fixed a l := by
    have store : u.store = s.store := by rw [hu]; rfl
    have limit : (s.arm a).abandoned.setup = (s.arm a).setup := rfl
    simp only [State.fixed, State.meterStore, store, arm, Arm.abandoned_strays, Arm.abandoned_fixed, limit]
  have idle : u.idleEngaged a = (s.idleEngaged a).modifyArm a Arm.abandoned := by
    have same : u.idleEngaged a = ((s.idleEngaged a).idleEngaged a).modifyArm a Arm.abandoned := by
      have engaged : (u.arm a).engaged = ((s.idleEngaged a).arm a).engaged := by
        rw [arm, Arm.abandoned_engaged]
        rfl
      unfold State.idleEngaged at engaged ⊢
      rw [engaged, hu]
      rfl
    rw [same, State.idleEngaged_idleEngaged]
  rw [State.abandonDosing_eq, ← hu, State.fixLine_eq (by rw [arm]; exact h) (by rw [hu]; exact hl), State.fixLine_eq h hl, arm,
    Arm.abandoned_strays, fixed, idle]
  refine congrArg (fun t : State => t.raiseIf _ _ _) ?_
  have commute : ∀ (t : State) f g, (t.modifyArm a f).modifyLine ref g = (t.modifyLine ref g).modifyArm a f := fun _ _ _ => rfl
  rw [commute, State.modifyArm_modifyArm]
  simp only [Arm.abandoned_lineFixed]

end Sys2Proof.Machine
end

section
/-! The passage of a line to ENDED and the judgement of its order (R32, R92). -/

namespace Sys2Proof.Machine

/-! ### A change of one arm and the close of an order -/

/-- A change of an arm that neither reads nor moves its queued start. -/
def keepsStart (f : Arm → Arm) : Prop :=
  ∀ x : Arm, (f x).queued = x.queued ∧ f { x with queued := none } = { f x with queued := none }

theorem State.dropQueuedOf_modifyArm {f : Arm → Arm} (h : keepsStart f) (s : State) (a : Fin 6) (num : Nat) :
    (s.modifyArm a f).dropQueuedOf num = (s.dropQueuedOf num).modifyArm a f := by
  refine State.dropQueuedOf_comm (h := fun t => t.modifyArm a f) (fun t b => ?_) (fun t b => ?_) (fun t k subject => rfl) s num
  · rw [State.arm_modifyArm]
    split
    · exact (h _).1
    · rfl
  · by_cases hb : b = a
    · subst hb
      rw [State.modifyArm_modifyArm, State.modifyArm_modifyArm]
      exact State.modifyArm_congr _ _ (h _).2.symm
    · simp only [State.modifyArm]
      congr 1
      refine Table.ext_get fun c => ?_
      simp only [Table.get_modify]
      by_cases h1 : c = b
      · subst h1; simp [hb]
      · simp [h1]

theorem State.compose_modifyArm (s : State) (a : Fin 6) (f : Arm → Arm) (o : Order) (cause : CloseCause) :
    (s.modifyArm a f).compose o cause = (s.compose o cause).modifyArm a f := by
  unfold State.compose
  rw [State.modifyArm_journal]
  cases s.journal.freeSlot <;> rfl

theorem State.closeOrder_modifyArm {f : Arm → Arm} (h : keepsStart f) (s : State) (a : Fin 6) (slot : Fin 24)
    (cause : CloseCause) : (s.modifyArm a f).closeOrder slot cause = (s.closeOrder slot cause).modifyArm a f := by
  cases ho : s.order slot with
  | none =>
    have ho' : (s.modifyArm a f).order slot = none := ho
    simp [State.closeOrder, ho, ho']
  | some o =>
    rw [State.closeOrder_eq ho, State.closeOrder_eq (s := s.modifyArm a f) ho, State.compose_modifyArm]
    have claim : ∀ (t : State) num, (t.modifyArm a f).endClaim num = (t.endClaim num).modifyArm a f := fun _ _ => rfl
    have slots : ∀ (t : State) x, (t.modifyArm a f).setOrder slot x = (t.setOrder slot x).modifyArm a f := fun _ _ => rfl
    have raises : ∀ (t : State) k n, (t.modifyArm a f).raise k n = (t.raise k n).modifyArm a f := fun _ _ _ => rfl
    rw [claim, State.dropQueuedOf_modifyArm h, slots, raises, raises]

theorem State.judgeOrder_modifyArm {f : Arm → Arm} (h : keepsStart f) (s : State) (a : Fin 6) (slot : Fin 24) :
    (s.modifyArm a f).judgeOrder slot = (s.judgeOrder slot).modifyArm a f := by
  have order : (s.modifyArm a f).order slot = s.order slot := rfl
  unfold State.judgeOrder
  rw [order]
  split
  · rfl
  · split
    · split
      · exact State.closeOrder_modifyArm h s a slot _
      · exact State.closeOrder_modifyArm h s a slot _
      · rfl
      · rfl
    · split
      · rfl
      · split <;> rfl

end Sys2Proof.Machine
end

section
namespace Sys2Proof.Machine

/-! ### An order that one line of has ended (R32) -/

/-- The lines but one are all ENDED, and that one is, where the order does not go on. -/
theorem Order.allEnded_iff {o : Order} {k : Nat} {l x : Line} (hl : o.line? k = some l) (hx : x.state = .ended) :
    (o.lines.set (k - 1) x).all Line.isEnded = true ↔ ¬ o.goesOn k := by
  have pos := Order.line?_pos hl
  have ended : ∀ y : Line, y.isEnded = true ↔ y.state = .ended := fun y => beq_iff_eq
  simp only [List.all_eq_true, Order.goesOn, not_exists, not_and, not_not, ended]
  constructor
  · intro h j y hj hy
    have hget := Order.line?_some hy
    have posj := Order.line?_pos hy
    refine h y (List.mem_iff_getElem?.mpr ⟨j - 1, ?_⟩)
    rw [List.getElem?_set_ne (by omega), hget]
  · intro h y hy
    obtain ⟨i, hi⟩ := List.mem_iff_getElem?.mp hy
    by_cases hik : i = k - 1
    · subst hik
      rw [List.getElem?_set_self (List.getElem?_eq_some_iff.mp (Order.line?_some hl)).1] at hi
      exact Option.some.inj hi ▸ hx
    · rw [List.getElem?_set_ne (fun e => hik e.symm)] at hi
      exact h (i + 1) y (by omega) hi

/-- A line that has ended is not among the ACTIVE ones. -/
theorem Order.anyActive_set {o : Order} {k : Nat} {l x : Line} (hl : o.line? k = some l) (hx : x.state = .ended) :
    (o.lines.set (k - 1) x).any Line.isActive = (o.lines.eraseIdx (k - 1)).any Line.isActive := by
  have hlt := (List.getElem?_eq_some_iff.mp (Order.line?_some hl)).1
  have idle : x.isActive = false := by simp [Line.isActive, hx]
  rw [List.set_eq_take_append_cons_drop, if_pos hlt, List.eraseIdx_eq_take_drop_succ, List.any_append, List.any_append,
    List.any_cons, idle, Bool.false_or]

/-- The judgement of an order that goes on: its idle timer starts where it is LOADING and carries no ACTIVE line. -/
theorem State.judgeOrder_goesOn {t : State} {slot : Fin 24} {o : Order} {k : Nat} {l x : Line}
    (ht : t.order slot = some { o with lines := o.lines.set (k - 1) x }) (hl : o.line? k = some l) (hx : x.state = .ended)
    (on : o.goesOn k) : t.judgeOrder slot = { t with
      orders := t.orders.set slot (some { o with
        lines := o.lines.set (k - 1) x
        idleTimer := if o.state ≠ .loading ∨ (o.lines.eraseIdx (k - 1)).any Line.isActive = true then o.idleTimer
          else some 1800000 }) } := by
  have unended : ¬ (o.lines.set (k - 1) x).all Line.isEnded = true := fun h => (Order.allEnded_iff hl hx).mp h on
  have active := Order.anyActive_set hl hx
  have stays : t = { t with orders := t.orders.set slot (some { o with lines := o.lines.set (k - 1) x }) } := by
    rw [← ht]
    exact congrArg (fun z => { t with orders := z }) (Table.set_get_self _ _).symm
  simp only [State.judgeOrder, ht, if_neg unended, active]
  by_cases ha : (o.lines.eraseIdx (k - 1)).any Line.isActive = true
  · rw [if_pos ha, if_pos (.inr ha)]
    exact stays
  · rw [if_neg ha]
    by_cases hs : o.state = .loading
    · rw [if_pos hs, if_neg (by simp [hs, ha]), State.modifyOrder_eq ht]
    · rw [if_neg hs, if_pos (.inl hs)]
      exact stays

/-- The judgement of an order whose last line has ended: it closes. -/
theorem State.judgeOrder_closes {t : State} {slot : Fin 24} {o : Order} {k : Nat} {l x : Line}
    (ht : t.order slot = some { o with lines := o.lines.set (k - 1) x }) (hl : o.line? k = some l) (hx : x.state = .ended)
    (hs : o.state = .loading ∨ o.state = .closing) (last : ¬ o.goesOn k) :
    t.judgeOrder slot = t.closeOrder slot (if o.state = .loading then .finished else .cancelled) := by
  simp only [State.judgeOrder, ht, if_pos ((Order.allEnded_iff hl hx).mpr last)]
  rcases hs with hs | hs <;> simp [hs]

/-- The note of an order whose lines have all ended records it. -/
theorem State.closeEnded_closedAs {t : State} {slot : Fin 24} {o : Order} {k : Fin 48} (ht : t.order slot = some o)
    (ended : o.lines.all Line.isEnded = true) (hk : t.journal.nextSlot k) (cause : CloseCause) :
    t.closedAs (t.closeOrder slot cause) slot o k cause := by
  refine State.closeOrder_closedAs ht hk rfl rfl (noteOf_records (o := o) (x := o.closed cause) (g := id) rfl rfl rfl rfl rfl
    (List.map_id _).symm (fun l hl => noteLine_records ?_) _ _ _)
  have he : l.state = .ended := by simpa [Line.isEnded] using List.all_eq_true.mp ended l hl
  simp [Line.isWaiting, he]

/-! ### The passage of a line to ENDED (R92) -/

/-- An arm whose line has ended goes to this state, its closing reason absent and its timers stopped. -/
def Arm.settled (st : ArmState) (x : Arm) : Arm :=
  { x with state := st, reason := none, noFlowTimer := none, suspendTimer := none }

theorem Arm.settled_keepsStart (st : ArmState) : keepsStart (Arm.settled st) := fun _ => ⟨rfl, rfl⟩

theorem Arm.freed_eq (x : Arm) (l : Line) (st : ArmState) : ((x.lineFixed l).releaseLine).settled st = x.freed l st := by
  rw [Arm.freed, ← Line.overrun_eq]
  rfl

/-- Steps 1 to 4 of finishing a line do what `State.lineEndedAs` says, the arm going to its next state. -/
theorem State.finishLine_lineEndedAs {s : State} {a : Fin 6} {ref : LineRef} {o : Order} {l m : Line}
    (h : (s.arm a).active = some ref) (ho : s.order ref.slot = some o) (hm : o.line? ref.line = some m)
    (hs : o.state = .loading ∨ o.state = .closing) (st : ArmState) :
    s.lineEndedAs (((s.modifyLine ref (fun _ => l)).finishLine a).modifyArm a (Arm.settled st)) a ref o l st := by
  have line : s.lineAt ref = some m := State.lineAt_of ho hm
  obtain ⟨u, hu⟩ : ∃ u, u = s.modifyLine ref (fun _ => l) := ⟨_, rfl⟩
  have active : (u.arm a).active = some ref := by rw [hu]; exact h
  have ended : u.finishLine a = (((((u.fixLine a false).modifyLine ref (fun l => { l with state := .ended })).modifyArm a
      Arm.releaseLine).raise .lineEnded (number a)).judgeOrder ref.slot) := by
    rw [State.finishLine, active]
  have fixed : ((u.fixLine a false).modifyLine ref (fun l => { l with state := .ended })).modifyArm a Arm.releaseLine =
      (((s.modifyLine ref (fun _ => { s.fixed a l with state := .ended })).idleEngaged a).modifyArm a
        (fun x => (x.lineFixed l).releaseLine)).raiseIf ((s.arm a).strays l.record.gv) .doseDeviation (number a) := by
    rw [State.fixLine_eq active (by rw [hu]; exact State.lineAt_modifyLine line _), hu, Bool.not_false, Bool.and_true,
      State.raiseIf_modifyLine, State.raiseIf_modifyArm]
    refine congrArg (fun t : State => t.raiseIf _ _ _) ?_
    have commute : ∀ (t : State) f g, (t.modifyArm a f).modifyLine ref g = (t.modifyLine ref g).modifyArm a f :=
      fun _ _ _ => rfl
    have idle : (s.modifyLine ref (fun _ => l)).idleEngaged a = (s.idleEngaged a).modifyLine ref (fun _ => l) := rfl
    rw [commute, State.modifyArm_modifyArm, idle, State.modifyLine_modifyLine, State.modifyLine_modifyLine]
    rfl
  obtain ⟨t1, ht1⟩ : ∃ t1, t1 = (({ s with
      orders := s.orders.set ref.slot (some { o with
        lines := o.lines.set (ref.line - 1) { s.fixed a l with state := .ended } })
      arms := s.arms.modify a (fun x => x.freed l st)
      injectors := (s.idleEngaged a).injectors } : State).raiseIf ((s.arm a).strays l.record.gv) .doseDeviation
        (number a)).raise .lineEnded (number a) := ⟨_, rfl⟩
  have judged : (u.finishLine a).modifyArm a (Arm.settled st) = t1.judgeOrder ref.slot := by
    have raises : ∀ (t : State) k n, (t.raise k n).modifyArm a (Arm.settled st) = (t.modifyArm a (Arm.settled st)).raise k n :=
      fun _ _ _ => rfl
    rw [ended, fixed, ← State.judgeOrder_modifyArm (Arm.settled_keepsStart st), raises, State.raiseIf_modifyArm,
      State.modifyArm_modifyArm, State.modifyLine_set ho hm, ht1]
    simp only [Arm.freed_eq]
    rfl
  have order : t1.order ref.slot = some { o with lines := o.lines.set (ref.line - 1) { s.fixed a l with state := .ended } } := by
    rw [ht1, State.order_congr (State.raise_orders _ _ _)]
    cases (s.arm a).strays l.record.gv <;> exact Table.get_set_self _ _ _
  have orders : ∀ x, t1.orders.set ref.slot x = s.orders.set ref.slot x := by
    intro x
    rw [ht1, State.raise_orders]
    cases (s.arm a).strays l.record.gv <;> exact Table.set_set _ _ _ _
  rw [← hu, judged]
  refine ⟨fun on => ?_, fun last k hk => ?_⟩
  · rw [State.judgeOrder_goesOn order hm rfl on, orders, ht1]
    rfl
  · rw [State.judgeOrder_closes order hm rfl hs last]
    have journal : t1.journal = s.journal := by
      rw [ht1, State.raise_journal]
      cases (s.arm a).strays l.record.gv <;> rfl
    have closed := State.closeEnded_closedAs order ((Order.allEnded_iff hm rfl).mpr last) (journal.symm ▸ hk)
      (if o.state = .loading then .finished else .cancelled)
    rw [ht1] at closed ⊢
    exact closed

end Sys2Proof.Machine
end

section
/-!
What stands beside the dosing unit and the order table: a frame heard on a port, and an arm's timers. An operation and such a
change may be taken in either order.
-/

namespace Sys2Proof.Machine

/-! ### Changes beside the dosing unit -/

/-- The arm with its no-flow and suspend timers stopped. -/
def Arm.stopTimers (x : Arm) : Arm := { x with noFlowTimer := none, suspendTimer := none }

/-- A change that the dosing unit neither reads nor moves, an arm's two timers at most. -/
structure Beside (h : State → State) : Prop where
  arm : ∀ t a, ((h t).arm a).stopTimers = (t.arm a).stopTimers
  orders : ∀ t, (h t).orders = t.orders
  injectors : ∀ t, (h t).injectors = t.injectors
  store : ∀ t, (h t).store = t.store
  modifyArm : ∀ t a g, (∀ x : Arm, g x.stopTimers = (g x).stopTimers) → (h t).modifyArm a g = h (t.modifyArm a g)
  modifyInjector : ∀ t i g, (h t).modifyInjector i g = h (t.modifyInjector i g)
  modifyDeadman : ∀ t g, (h t).modifyDeadman g = h (t.modifyDeadman g)
  raise : ∀ t k subject, (h t).raise k subject = h (t.raise k subject)

theorem beside_heard (p : PortId) : Beside (fun t => t.heard p) where
  arm := fun t a => by rw [State.arm_heard]
  orders := by cases p <;> exact fun _ => rfl
  injectors := by cases p <;> exact fun _ => rfl
  store := by cases p <;> exact fun _ => rfl
  modifyArm := by cases p <;> exact fun _ _ _ _ => rfl
  modifyInjector := by cases p <;> exact fun _ _ _ => rfl
  modifyDeadman := by cases p <;> exact fun _ _ => rfl
  raise := fun t k subject => (t.raise_heard k subject p).symm

/-- Changes of one table's entries that commute on every entry commute on the table. -/
theorem State.modifyArm_comm (s : State) (a b : Fin 6) {f g : Arm → Arm} (h : ∀ x, g (f x) = f (g x)) :
    (s.modifyArm b f).modifyArm a g = (s.modifyArm a g).modifyArm b f := by
  by_cases hb : a = b
  · subst hb
    rw [State.modifyArm_modifyArm, State.modifyArm_modifyArm]
    exact State.modifyArm_congr _ _ (h _)
  · simp only [State.modifyArm]
    congr 1
    refine Table.ext_get fun c => ?_
    simp only [Table.get_modify]
    by_cases h1 : c = a
    · subst h1; simp [hb]
    · simp [h1]

theorem beside_stopTimers (b : Fin 6) : Beside (fun t => t.modifyArm b Arm.stopTimers) where
  arm := fun t a => by
    rw [State.arm_modifyArm]
    split <;> rfl
  orders := fun _ => rfl
  injectors := fun _ => rfl
  store := fun _ => rfl
  modifyArm := fun t a _ hg => t.modifyArm_comm a b hg
  modifyInjector := fun _ _ _ => rfl
  modifyDeadman := fun _ _ => rfl
  raise := fun _ _ _ => rfl

namespace Beside

variable {h : State → State} (b : Beside h)
include b

/-- What an arm's timers do not bear on reads the same beside the change. -/
theorem reads {α : Type} (f : Arm → α) (hf : ∀ x : Arm, f x.stopTimers = f x) (t : State) (a : Fin 6) :
    f ((h t).arm a) = f (t.arm a) := by rw [← hf, b.arm, hf]

theorem dosing (t : State) (a : Fin 6) : ((h t).arm a).dosing = (t.arm a).dosing :=
  b.reads Arm.dosing (fun _ => rfl) t a
theorem engaged (t : State) (a : Fin 6) : ((h t).arm a).engaged = (t.arm a).engaged :=
  b.reads Arm.engaged (fun _ => rfl) t a
theorem holds (t : State) (a : Fin 6) : ((h t).arm a).holds = (t.arm a).holds :=
  b.reads Arm.holds (fun _ => rfl) t a
theorem active (t : State) (a : Fin 6) : ((h t).arm a).active = (t.arm a).active :=
  b.reads Arm.active (fun _ => rfl) t a
theorem state (t : State) (a : Fin 6) : ((h t).arm a).state = (t.arm a).state :=
  b.reads Arm.state (fun _ => rfl) t a
theorem reducedFlow (t : State) (a : Fin 6) : ((h t).arm a).reducedFlow = (t.arm a).reducedFlow :=
  b.reads Arm.reducedFlow (fun _ => rfl) t a

theorem lineAt (t : State) (ref : LineRef) : (h t).lineAt ref = t.lineAt ref := by
  simp only [State.lineAt, State.order, b.orders]

theorem running (t : State) (a : Fin 6) : (h t).running a = t.running a := by
  have line : (h t).activeLine a = t.activeLine a := by
    rw [State.activeLine, State.activeLine, b.active]
    exact congrArg _ (funext fun ref => b.lineAt t ref)
  rw [State.running, State.running, line]

theorem injector (t : State) (i : Fin 8) : (h t).injector i = t.injector i := by
  rw [State.injector, b.injectors, State.injector]

theorem serves (t : State) (i : Fin 8) (additive : Nat) : (h t).serves i additive = t.serves i additive := by
  simp only [State.serves, State.injectorStore, b.store]

theorem modifyDosing (t : State) (a : Fin 6) (g : DosingRecord → DosingRecord) :
    (h t).modifyDosing a g = h (t.modifyDosing a g) := b.modifyArm t a _ fun _ => rfl

theorem settleDeadman (t : State) : (h t).settleDeadman = h t.settleDeadman := by
  have flowing : (h t).anyFlowing = t.anyFlowing := by
    rw [Bool.eq_iff_iff, State.anyFlowing_iff, State.anyFlowing_iff]
    simp only [b.state]
  unfold State.settleDeadman
  rw [flowing, b.modifyDeadman]
  split <;> rfl

theorem raiseHold (t : State) (a : Fin 6) (c : HoldCause) : (h t).raiseHold a c = h (t.raiseHold a c) := by
  simp only [State.raiseHold, b.active, b.holds, b.state]
  split
  · rfl
  · rw [b.modifyArm t a (fun x => { x with holds := x.holds.put true c }) fun _ => rfl,
      b.modifyArm _ a Arm.closeForHold fun _ => rfl]
    split
    · rw [b.settleDeadman]
    · rfl

theorem issueShot (t : State) (a : Fin 6) : (h t).issueShot a = h (t.issueShot a) := by
  simp only [State.issueShot, b.dosing, b.engaged, b.injector, b.modifyDosing, b.modifyInjector]
  split
  · split <;> rfl
  · rfl

theorem judgeOverspeed (t : State) (a : Fin 6) : (h t).judgeOverspeed a = h (t.judgeOverspeed a) := by
  simp only [State.judgeOverspeed, b.dosing, b.engaged, b.holds, b.modifyInjector]
  split
  · split
    · split <;> exact b.raiseHold _ a _
    · rfl
  · rfl

theorem judgeReducedFlow (t : State) (a : Fin 6) : (h t).judgeReducedFlow a = h (t.judgeReducedFlow a) := by
  simp only [State.judgeReducedFlow, b.dosing, b.running, b.reducedFlow]
  split
  · split
    · exact b.modifyArm t a _ fun _ => rfl
    · split
      · rw [b.modifyArm t a (fun x => { x with reducedFlow := true }) fun _ => rfl, b.raise]
      · rfl
  · rfl

theorem judgeAdditiveClear (t : State) (a : Fin 6) : (h t).judgeAdditiveClear a = h (t.judgeAdditiveClear a) := by
  simp only [State.judgeAdditiveClear, b.dosing, b.engaged, b.serves]
  split
  · split
    · exact b.modifyArm t a _ fun _ => rfl
    · rfl
  · rfl

theorem judgeDosing (t : State) (a : Fin 6) : (h t).judgeDosing a = h (t.judgeDosing a) := by
  simp only [State.judgeDosing, b.judgeOverspeed, b.judgeReducedFlow, b.judgeAdditiveClear]

theorem finishDosing (t : State) (a : Fin 6) : (h t).finishDosing a = h (t.finishDosing a) := by
  simp only [State.finishDosing, b.dosing]
  split
  · next r _ =>
    split
    · rw [b.modifyArm t a (fun x => { x with dosing := some r.finish, reducedFlow := false }) fun _ => rfl, b.issueShot,
        b.judgeDosing]
    · rfl
  · rfl

end Beside

end Sys2Proof.Machine
end

section
/-! A close command for a line end, and the end of a line by request or timeout (R88, R89, R95, R140). -/

namespace Sys2Proof.Machine

/-! ### What a dosing event leaves -/

/-- The record that a dosing event leaves, the engaged injector's window being `window` before it: an owed shot is issued
where the injector is IDLE (R132, R135). -/
def DosingRecord.issued (r : DosingRecord) (window : Option Nat) : DosingRecord :=
  if r.phase ≠ .disengaged ∧ 0 < r.owed ∧ window = none
  then DosingRecord.settled { r with owed := r.owed - 1, shot := some ⟨0, false⟩ } else r

theorem DosingRecord.issued_interval (r : DosingRecord) (window : Option Nat) : (r.issued window).interval = r.interval := by
  unfold DosingRecord.issued
  split <;> rfl

theorem DosingRecord.issued_phase (r : DosingRecord) (window : Option Nat) : (r.issued window).phase = r.phase := by
  unfold DosingRecord.issued
  split <;> rfl

theorem DosingRecord.issued_position (r : DosingRecord) (window : Option Nat) : (r.issued window).position = r.position := by
  unfold DosingRecord.issued
  split <;> rfl

/-- The arm `x` as the dosing unit leaves it, its record being `d`: its settings, its line, its queued start and what its sample
counted are those of before, and a flowing arm may have closed for a hold. -/
structure Arm.dosedTo (x y : Arm) (d : Option DosingRecord) : Prop where
  dosing : y.dosing = d
  setup : y.setup = x.setup
  active : y.active = x.active
  stageGross : y.stageGross = x.stageGross
  suspendTimer : y.suspendTimer = x.suspendTimer
  still : x.state.flowing = false →
    y.state = x.state ∧ y.reason = x.reason ∧ y.zeroRun = x.zeroRun ∧ y.closeCount = x.closeCount
  state : y.state = x.state ∨ y.state = .closing

theorem Arm.dosedTo_holding (x : Arm) (d : Option DosingRecord) (b : Bool) (holds : HoldSet) :
    x.dosedTo { x with dosing := d, reducedFlow := b, holds := holds } d :=
  ⟨rfl, rfl, rfl, rfl, rfl, fun _ => ⟨rfl, rfl, rfl, rfl⟩, .inl rfl⟩

theorem Arm.withCause_dosedTo (x : Arm) (c : HoldCause) (d : Option DosingRecord) (b : Bool) (holds : HoldSet) :
    x.dosedTo { x.withCause c with dosing := d, reducedFlow := b, holds := holds } d := by
  unfold Arm.withCause
  split
  · split
    · next flowing => exact ⟨rfl, rfl, rfl, rfl, rfl, fun hs => absurd (hs.symm.trans flowing) nofun, .inr rfl⟩
    · exact x.dosedTo_holding d b holds
  · exact x.dosedTo_holding d b holds

/-- A dosing event of an arm moves that arm, the injectors and the bay, and may raise FLOW_REDUCED. -/
theorem State.dosed_shape {s t : State} {a : Fin 6} {i : Fin 8} {r : DosingRecord} (h : s.dosed t a i r) :
    ∃ f injectors bay c, t = ({ s with arms := s.arms.modify a f, injectors := injectors, bay := bay } : State).raiseIf c
      .flowReduced (number a) ∧ ∀ x : Arm, x.dosedTo (f x) (some (r.issued (s.injector i).window)) := by
  refine ⟨_, _, _, _, h.1, fun x => ?_⟩
  dsimp only
  by_cases c : (r.issued (s.injector i).window).phase = .accruing ∧ (r.issued (s.injector i).window).owed = 3 ∧
    (r.issued (s.injector i).window).interval ≤ (r.issued (s.injector i).window).accumulator ∧ (s.arm a).holds.additive = false
  · unfold DosingRecord.issued at c ⊢
    rw [if_pos c]
    exact x.withCause_dosedTo .additive _ _ _
  · unfold DosingRecord.issued at c ⊢
    rw [if_neg c]
    exact x.dosedTo_holding _ _ _

/-- A dosing event of an arm moves no other arm and no order. -/
theorem State.dosed_frame {s t : State} {a : Fin 6} {i : Fin 8} {r : DosingRecord} (h : s.dosed t a i r) :
    (∀ b, b ≠ a → t.arm b = s.arm b) ∧ (s.arm a).dosedTo (t.arm a) (some (r.issued (s.injector i).window)) ∧
      t.orders = s.orders ∧ t.store = s.store ∧ t.journal = s.journal := by
  obtain ⟨f, injectors, bay, c, ht, hf⟩ := State.dosed_shape h
  have arm : ∀ b, t.arm b = if b = a then f (s.arm b) else s.arm b := fun b => by
    rw [ht, State.arm_raiseIf]
    exact State.arm_modifyArm s a b f
  refine ⟨fun b hb => by rw [arm, if_neg hb], by rw [arm, if_pos rfl]; exact hf _, ?_, ?_, ?_⟩ <;> rw [ht] <;> cases c <;> rfl

/-! ### The close command (R89, R140) -/

/-- The final-shot decision (R140), half an interval doubled on its left. -/
theorem DosingRecord.finish_eq (r : DosingRecord) : r.finish = { r with
    phase := .finishing
    accumulator := 0
    owed := if r.owed < 3 ∧ r.interval ≤ 2 * r.accumulator then r.owed + 1 else r.owed } := by
  rw [DosingRecord.finish, Nat.mul_comm]

/-- Told of a close command, the dosing unit does nothing to a record that accrues no more. -/
theorem State.finishDosing_self {s : State} {a : Fin 6} (h : ∀ r, (s.arm a).dosing = some r → r.phase ≠ .accruing) :
    s.finishDosing a = s := by
  unfold State.finishDosing
  cases hd : (s.arm a).dosing with
  | none => rfl
  | some r => exact if_neg (h r hd)

/-- An ACCRUING record enters FINISHING by one dosing event (R140). -/
theorem State.finishDosing_dosed {s : State} {a : Fin 6} {r : DosingRecord} {i : Fin 8} (hd : (s.arm a).dosing = some r)
    (hp : r.phase = .accruing) (he : (s.arm a).engaged = some i) (hi : 0 < r.interval) :
    (s.modifyArm a (fun x => { x with reducedFlow := false })).dosed (s.finishDosing a) a i r.finish := by
  obtain ⟨u, hu⟩ : ∃ u, u = s.modifyArm a (fun x => { x with reducedFlow := false }) := ⟨_, rfl⟩
  have told : s.finishDosing a = ((u.modifyArm a (fun x => { x with dosing := some r.finish })).issueShot a).judgeDosing a := by
    rw [hu, State.modifyArm_modifyArm]
    simp only [State.finishDosing, hd, if_pos hp]
  have engaged : (u.arm a).setup.positions.get r.finish.position = some i := by
    rw [hu, State.arm_modifyArm, if_pos rfl]
    rw [Arm.engaged, hd] at he
    exact he
  rw [← hu, told]
  exact State.dosed_judged u a i r.finish engaged hi

/-- An open record that accrues engages an injector, and its interval is not 0. -/
theorem Arm.doses.engaged {x : Arm} (h : x.doses) {r : DosingRecord} (hd : x.dosing = some r) (hp : r.phase = .accruing) :
    0 < r.interval ∧ ∃ i, x.engaged = some i := by
  obtain ⟨hi, idle⟩ := h r hd
  refine ⟨hi, Option.ne_none_iff_exists'.mp fun hn => ?_⟩
  rw [(idle hn).1] at hp
  cases hp

/-- The record that a close command leaves, the engaged injector's window being `window` before it (R140). -/
def DosingRecord.told (r : DosingRecord) (window : Option Nat) : DosingRecord :=
  if r.phase = .accruing then r.finish.issued window else r

/-- The dosing unit, told of a close command, moves no other arm and no order. -/
theorem State.finishDosing_frame {s : State} {a : Fin 6} (h : (s.arm a).doses) :
    (∀ b, b ≠ a → (s.finishDosing a).arm b = s.arm b) ∧ (s.finishDosing a).orders = s.orders ∧
      ∃ window, (s.arm a).dosedTo ((s.finishDosing a).arm a) ((s.arm a).dosing.map fun r => r.told window) := by
  by_cases accrues : ∃ r, (s.arm a).dosing = some r ∧ r.phase = .accruing
  · obtain ⟨r, hd, hp⟩ := accrues
    obtain ⟨hi, i, he⟩ := h.engaged hd hp
    obtain ⟨others, arm, orders, -⟩ := State.dosed_frame (State.finishDosing_dosed hd hp he hi)
    rw [State.arm_modifyArm, if_pos rfl] at arm
    refine ⟨fun b hb => ?_, orders, (s.injector i).window, ?_, arm.setup, arm.active, arm.stageGross, arm.suspendTimer,
      arm.still, arm.state⟩
    · rw [others b hb, State.arm_modifyArm, if_neg hb]
    · rw [hd, Option.map_some, DosingRecord.told, if_pos hp]
      exact arm.dosing
  · have ended : ∀ r, (s.arm a).dosing = some r → r.phase ≠ .accruing := fun r hd hp => accrues ⟨r, hd, hp⟩
    rw [State.finishDosing_self ended]
    refine ⟨fun _ _ => rfl, rfl, none, ?_, rfl, rfl, rfl, rfl, fun _ => ⟨rfl, rfl, rfl, rfl⟩, .inl rfl⟩
    cases hd : (s.arm a).dosing with
    | none => rfl
    | some r => rw [Option.map_some, DosingRecord.told, if_neg (ended r hd)]

theorem Arm.closeForLineEnd_closed {x : Arm} (idle : x.state ≠ .idle) (locked : x.state ≠ .locked) :
    x.stopTimers.closeForLineEnd = x.closedForLineEnd := by
  unfold Arm.closeForLineEnd Arm.closedForLineEnd Arm.stopTimers
  cases hs : x.state <;> simp_all

/-- The arm closes for the line end, its line's result being recorded: its timers stop, the dosing unit is told, and the deadman
timer follows (R89, R116, R140). -/
def State.closesArm (s : State) (a : Fin 6) : State :=
  (((s.modifyArm a Arm.stopTimers).finishDosing a).modifyArm a Arm.closeForLineEnd).settleDeadman

theorem State.closeForLineEnd_eq (s : State) (a : Fin 6) (r : LineResult) (f : LineFlags → LineFlags) :
    s.closeForLineEnd a r f =
      (s.modifyActiveLine a (fun l => { l with result := some r, flags := f l.flags })).closesArm a := rfl

/-- The timers may stop after the dosing unit is told. -/
theorem State.closesArm_eq (s : State) {a : Fin 6} (h : (s.arm a).doses) (idle : (s.arm a).state ≠ .idle)
    (locked : (s.arm a).state ≠ .locked) :
    s.closesArm a = ((s.finishDosing a).modifyArm a Arm.closedForLineEnd).settleDeadman := by
  have state : ((s.finishDosing a).arm a).state ≠ .idle ∧ ((s.finishDosing a).arm a).state ≠ .locked := by
    obtain ⟨-, -, window, told⟩ := State.finishDosing_frame h
    rcases told.state with same | closing
    · rw [same]
      exact ⟨idle, locked⟩
    · rw [closing]
      exact ⟨nofun, nofun⟩
  rw [State.closesArm, (beside_stopTimers a).finishDosing, State.modifyArm_modifyArm]
  exact congrArg State.settleDeadman (State.modifyArm_congr _ a (Arm.closeForLineEnd_closed state.1 state.2))

/-- A close command for a line end does what `State.closesForLineEnd` says. -/
theorem State.closesArm_closesForLineEnd {s : State} {a : Fin 6} (h : (s.arm a).doses) (idle : (s.arm a).state ≠ .idle)
    (locked : (s.arm a).state ≠ .locked) : s.closesForLineEnd (s.closesArm a) a := by
  have settled : ∀ u : State, (∃ b, (u.settleDeadman.arm b).state.flowing = true) ↔ ∃ b, (u.arm b).state.flowing = true := by
    intro u
    rw [State.settleDeadman_eq]
    rfl
  refine ⟨s.finishDosing a, State.finishDosing_self, fun r i hd hp he => ?_, ?_, ?_⟩
  · rw [← DosingRecord.finish_eq]
    exact State.finishDosing_dosed hd hp he (h.engaged hd hp).1
  · rw [s.closesArm_eq h idle locked, State.settleDeadman_eq]
    rfl
  · unfold State.bayFollows
    rw [s.closesArm_eq h idle locked]
    simp only [settled]
    rw [State.settleDeadman_eq]
    rfl

/-- A close command moves no other arm and no order, and its own arm closes. -/
theorem State.closesArm_frame {s : State} {a : Fin 6} (h : (s.arm a).doses) (idle : (s.arm a).state ≠ .idle)
    (locked : (s.arm a).state ≠ .locked) :
    (∀ b, b ≠ a → (s.closesArm a).arm b = s.arm b) ∧ (s.closesArm a).orders = s.orders ∧
      ∃ y window, (s.closesArm a).arm a = y.closedForLineEnd ∧
        (s.arm a).dosedTo y ((s.arm a).dosing.map fun r => r.told window) := by
  obtain ⟨others, orders, window, told⟩ := State.finishDosing_frame h
  have arm : ∀ b, (s.closesArm a).arm b =
      if b = a then ((s.finishDosing a).arm b).closedForLineEnd else (s.finishDosing a).arm b := fun b => by
    rw [s.closesArm_eq h idle locked, State.settleDeadman_eq]
    exact State.arm_modifyArm _ a b _
  refine ⟨fun b hb => ?_, ?_, (s.finishDosing a).arm a, window, ?_, told⟩
  · rw [arm, if_neg hb, others b hb]
  · rw [s.closesArm_eq h idle locked, State.settleDeadman_eq]
    exact orders
  · rw [arm, if_pos rfl]

end Sys2Proof.Machine
end

section
/-! The end of a line, and a frame heard on a port. -/

namespace Sys2Proof.Machine

theorem State.lineAt_heard (s : State) (p : PortId) (ref : LineRef) : (s.heard p).lineAt ref = s.lineAt ref := by
  cases p <;> rfl

theorem State.modifyLine_heard (s : State) (p : PortId) (ref : LineRef) (f : Line → Line) :
    (s.heard p).modifyLine ref f = (s.modifyLine ref f).heard p := by cases p <;> rfl

theorem State.fixed_heard (s : State) (p : PortId) (a : Fin 6) (l : Line) : (s.heard p).fixed a l = s.fixed a l := by
  cases p <;> rfl

theorem State.idleEngaged_heard (s : State) (p : PortId) (a : Fin 6) :
    (s.heard p).idleEngaged a = (s.idleEngaged a).heard p := by cases p <;> rfl

theorem State.raiseIf_heard (s : State) (p : PortId) (c : Bool) (k : NoticeKind) (subject : Nat) :
    (s.heard p).raiseIf c k subject = (s.raiseIf c k subject).heard p := by
  cases c
  · rfl
  · exact (s.raise_heard k subject p).symm

theorem State.judgeOrder_heard (s : State) (p : PortId) (slot : Fin 24) :
    (s.heard p).judgeOrder slot = (s.judgeOrder slot).heard p := by
  unfold State.judgeOrder
  rw [State.order_heard]
  split
  · rfl
  · split
    · split
      · exact s.closeOrder_heard p slot _
      · exact s.closeOrder_heard p slot _
      · rfl
      · rfl
    · split
      · rfl
      · split
        · exact s.modifyOrder_heard p slot _
        · rfl

theorem State.finishLine_heard {s : State} {a : Fin 6} {ref : LineRef} {l : Line} (h : (s.arm a).active = some ref)
    (hl : s.lineAt ref = some l) (p : PortId) : (s.heard p).finishLine a = (s.finishLine a).heard p := by
  have h' : ((s.heard p).arm a).active = some ref := by rw [State.arm_heard, h]
  have fixed : (s.heard p).fixLine a false = (s.fixLine a false).heard p := by
    rw [State.fixLine_eq h' ((s.lineAt_heard p ref).trans hl), State.fixLine_eq h hl, State.idleEngaged_heard,
      State.modifyLine_heard, State.modifyArm_heard, State.raiseIf_heard, State.fixed_heard, State.arm_heard]
  simp only [State.finishLine, h, h', fixed, State.modifyLine_heard, State.modifyArm_heard]
  rw [← State.raise_heard, State.judgeOrder_heard]

theorem State.closesArm_heard (s : State) (p : PortId) (a : Fin 6) :
    (s.heard p).closesArm a = (s.closesArm a).heard p := by
  rw [State.closesArm, State.modifyArm_heard, (beside_heard p).finishDosing, State.modifyArm_heard,
    (beside_heard p).settleDeadman, State.closesArm]

end Sys2Proof.Machine
end

section
namespace Sys2Proof.Machine

/-! ### END LINE and the suspend timeout (R88, R95) -/

theorem State.finishLine_abandonDosing {s : State} {a : Fin 6} {ref : LineRef} {l : Line} (h : (s.arm a).active = some ref)
    (hl : s.lineAt ref = some l) : (s.abandonDosing a).finishLine a = s.finishLine a := by
  have active : ((s.abandonDosing a).arm a).active = some ref := by
    rw [State.abandonDosing_eq, State.arm_modifyArm, if_pos rfl]
    exact h
  simp only [State.finishLine, active, h, State.fixLine_abandonDosing h hl]

/-- A line that ends on a SUSPENDED arm is finished with its result, and the arm goes IDLE. -/
theorem State.endSuspended_eq {s : State} {a : Fin 6} {ref : LineRef} {l : Line} (h : (s.arm a).active = some ref)
    (hl : s.lineAt ref = some l) (r : LineResult) (f : LineFlags → LineFlags) :
    s.endSuspended a r f = ((s.modifyLine ref (fun _ => { l with result := some r, flags := f l.flags })).finishLine
      a).modifyArm a (Arm.settled .idle) := by
  have recorded := State.modifyLine_congr hl (f := fun l => { l with result := some r, flags := f l.flags })
    (g := fun _ => { l with result := some r, flags := f l.flags }) rfl
  rw [State.endSuspended, State.modifyActiveLine_of h, recorded,
    State.finishLine_abandonDosing (s := s.modifyLine ref _) h (State.lineAt_modifyLine hl _)]
  rfl

theorem State.endSuspended_heard {s : State} {a : Fin 6} {ref : LineRef} {l : Line} (h : (s.arm a).active = some ref)
    (hl : s.lineAt ref = some l) (r : LineResult) (f : LineFlags → LineFlags) (p : PortId) :
    (s.heard p).endSuspended a r f = (s.endSuspended a r f).heard p := by
  rw [State.endSuspended_eq (by rw [State.arm_heard, h]) ((s.lineAt_heard p ref).trans hl), State.endSuspended_eq h hl,
    State.modifyLine_heard, State.finishLine_heard (s := s.modifyLine ref _) h (State.lineAt_modifyLine hl _),
    State.modifyArm_heard]

theorem endLine_wrongState {s : State} {a : Fin 6}
    (h : (s.arm a).state = .idle ∨ (s.arm a).state = .closing ∨ (s.arm a).state = .locked) :
    endLine (number a) s = s.refuse .wrongState := by
  simp only [endLine, number, indexOf_number]
  rcases h with h | h | h <;> rw [h]

theorem endLine_flowing {s : State} {a : Fin 6} (h : (s.arm a).state.flowing = true) :
    endLine (number a) s = (s.closeForLineEnd a .short id).ok [] := by
  simp only [endLine, number, indexOf_number]
  cases hs : (s.arm a).state <;> rw [hs] at h <;> cases h

theorem endLine_suspended {s : State} {a : Fin 6} (h : (s.arm a).state = .suspended) :
    endLine (number a) s = (s.endSuspended a .short id).ok [] := by
  simp only [endLine, number, indexOf_number, h]

end Sys2Proof.Machine
end

section
namespace Sys2Proof.Proofs
open Sys2Proof Sys2Proof.Machine

/-- Settles O36: by the arm's state, a close command or the end of the line. -/
theorem linesEndByRequestOrTimeout : Obligations.LinesEndByRequestOrTimeout := by
  unfold Obligations.LinesEndByRequestOrTimeout
  intro tag a s
  refine ⟨fun h hs => ?_, fun ref l h flowing active hl doses => ?_, fun ref o l hs active ho hl state => ?_⟩
  · exact congrArg Host.Outcome.next (State.frame_refused h rfl (endLine_wrongState (s := s.heard .console) hs))
  · obtain ⟨u, hu⟩ : ∃ u, u = s.modifyLine ref (fun x => { x with result := some .short }) := ⟨_, rfl⟩
    have arm : u.arm a = s.arm a := by rw [hu]; rfl
    have idle : (u.arm a).state ≠ .idle ∧ (u.arm a).state ≠ .locked := by
      rw [arm]
      constructor <;> intro hs <;> rw [hs] at flowing <;> cases flowing
    have closes : (s.heard .console).closeForLineEnd a .short id = (u.closesArm a).heard .console := by
      rw [State.closeForLineEnd_eq, State.modifyActiveLine_of (s := s.heard .console) active, State.modifyLine_heard,
        State.closesArm_heard, hu]
      rfl
    have ended := (endLine_flowing (s := s.heard .console) flowing).trans (congrArg (fun t : State => t.ok []) closes)
    rw [← hu]
    exact ⟨_, congrArg Host.Outcome.next (State.frame_answered h rfl ended),
      State.closesArm_closesForLineEnd (arm.symm ▸ doses) idle.1 idle.2⟩
  · have line : s.lineAt ref = some l := State.lineAt_of ho hl
    refine ⟨fun h => ?_, fun ms due timer => ?_⟩
    · have ended := (endLine_suspended (s := s.heard .console) hs).trans
        (congrArg (fun t : State => t.ok []) (State.endSuspended_heard active line .short id .console))
      refine ⟨_, congrArg Host.Outcome.next (State.frame_answered h rfl ended), ?_⟩
      rw [State.endSuspended_eq active line]
      exact State.finishLine_lineEndedAs active ho hl state .idle
    · refine ⟨_, congrArg Host.Outcome.next ((State.expiry_own due _).trans (if_pos ⟨hs, by rw [timer]; rfl⟩)), ?_⟩
      rw [State.endSuspended_eq active line]
      exact State.finishLine_lineEndedAs active ho hl state .idle

end Sys2Proof.Proofs
end

section
/-! Whether a dosing record still waits for a shot, after a sample and after a close command (R91, R94, R131, R140). -/

namespace Sys2Proof.Machine

/-! ### Records that wait (R94, R131) -/

/-- A record that waits for a shot after a sample of this gross volume, one at which its line ends where `ends` (R94, R132,
R140). -/
def DosingRecord.waits (r : DosingRecord) (gross : Nat) (ends : Prop) : Prop :=
  r.owed ≠ 0 ∨ r.shot ≠ none ∨ r.phase = .accruing ∧
    (r.interval ≤ r.accumulator + gross ∨ ends ∧ r.interval ≤ 2 * (r.accumulator + gross))

theorem DosingRecord.quiet_iff (r : DosingRecord) : r.quiet = true ↔ r.owed = 0 ∧ r.shot = none := by
  simp [DosingRecord.quiet]

/-- The issue of an owed shot leaves the record waiting for it. -/
theorem DosingRecord.issued_quiet (r : DosingRecord) (window : Option Nat) : (r.issued window).quiet = r.quiet := by
  unfold DosingRecord.issued
  split
  · next h =>
    have owed : r.owed ≠ 0 := by omega
    rw [Bool.eq_iff_iff, DosingRecord.quiet_iff, DosingRecord.quiet_iff]
    simp [DosingRecord.settled, owed]
  · rfl

theorem DosingRecord.issued_of_quiet {r : DosingRecord} (h : r.quiet = true) (window : Option Nat) : r.issued window = r := by
  rw [DosingRecord.quiet_iff] at h
  exact if_neg fun c => by omega

theorem DosingRecord.accrues_of_not {r : DosingRecord} (h : r.phase ≠ .accruing) (gross : Nat) : r.accrues gross = r := if_neg h

/-- The record of an accrual of less than an interval. -/
theorem DosingRecord.accrues_short {r : DosingRecord} (h : r.phase = .accruing) {gross : Nat}
    (short : r.accumulator + gross < r.interval) : r.accrues gross = { r with accumulator := r.accumulator + gross } := by
  have none : (r.accumulator + gross) / r.interval = 0 := Nat.div_eq_of_lt short
  simp only [DosingRecord.accrues, if_pos h, DosingRecord.settled, none, Nat.min_zero, Nat.zero_mul, Nat.add_zero, Nat.sub_zero]

/-- A whole interval accrued leaves a shot owed. -/
theorem DosingRecord.accrues_owes {r : DosingRecord} (h : r.phase = .accruing) (hi : 0 < r.interval) {gross : Nat}
    (whole : r.interval ≤ r.accumulator + gross) : (r.accrues gross).owed ≠ 0 := by
  have one : 1 ≤ (r.accumulator + gross) / r.interval := (Nat.one_le_div_iff hi).mpr whole
  simp only [DosingRecord.accrues, if_pos h, DosingRecord.settled]
  omega

theorem DosingRecord.accrues_shot (r : DosingRecord) (gross : Nat) : (r.accrues gross).shot = r.shot := by
  unfold DosingRecord.accrues
  split <;> rfl

theorem DosingRecord.accrues_le_owed (r : DosingRecord) (gross : Nat) : r.owed ≤ (r.accrues gross).owed := by
  unfold DosingRecord.accrues
  split
  · exact Nat.le_add_right _ _
  · exact Nat.le_refl _

theorem DosingRecord.accrues_phase (r : DosingRecord) (gross : Nat) : (r.accrues gross).phase = r.phase := by
  unfold DosingRecord.accrues
  split <;> rfl

theorem DosingRecord.accrues_interval (r : DosingRecord) (gross : Nat) : (r.accrues gross).interval = r.interval := by
  unfold DosingRecord.accrues
  split <;> rfl

theorem DosingRecord.accrues_position (r : DosingRecord) (gross : Nat) : (r.accrues gross).position = r.position := by
  unfold DosingRecord.accrues
  split <;> rfl

/-- The record is quiet after a sample's service where it does not wait. -/
theorem DosingRecord.accrues_quiet {r : DosingRecord} (hi : 0 < r.interval) (gross : Nat) :
    (r.accrues gross).quiet = true ↔ ¬ r.waits gross False := by
  have shot := r.accrues_shot gross
  rw [DosingRecord.quiet_iff, DosingRecord.waits, shot]
  simp only [false_and, or_false, not_or, not_not, ne_eq, not_and, not_le]
  refine ⟨fun ⟨owed, idle⟩ => ⟨?_, idle, fun hp => ?_⟩, fun ⟨owed, idle, short⟩ => ⟨?_, idle⟩⟩
  · exact Nat.le_zero.mp (owed ▸ r.accrues_le_owed gross)
  · exact Nat.lt_of_not_le fun whole => DosingRecord.accrues_owes hp hi whole owed
  · by_cases hp : r.phase = .accruing
    · rw [DosingRecord.accrues_short hp (short hp)]
      exact owed
    · rw [DosingRecord.accrues_of_not hp, owed]

/-- The close command leaves one shot more to wait for where half an interval has accrued. -/
theorem DosingRecord.told_quiet (r : DosingRecord) (window : Option Nat) : (r.told window).quiet = true ↔
    r.quiet = true ∧ ¬ (r.phase = .accruing ∧ r.interval ≤ 2 * r.accumulator) := by
  unfold DosingRecord.told
  split
  · next hp =>
    rw [DosingRecord.issued_quiet, DosingRecord.finish_eq, DosingRecord.quiet_iff, DosingRecord.quiet_iff]
    simp only [hp, true_and]
    by_cases half : r.owed < 3 ∧ r.interval ≤ 2 * r.accumulator
    · simp [half.1, half.2]
    · simp only [if_neg half]
      refine ⟨fun h => ⟨h, fun c => half ⟨by omega, c⟩⟩, fun h => h.1⟩
  · next hp => simp [hp]

/-- The record of the sample at which its line ends is quiet where it does not wait. -/
theorem DosingRecord.told_accrues_quiet {r : DosingRecord} (hi : 0 < r.interval) (gross : Nat) (w1 w2 : Option Nat) :
    (((r.accrues gross).issued w1).told w2).quiet = true ↔ ¬ r.waits gross True := by
  rw [DosingRecord.told_quiet, DosingRecord.issued_quiet, DosingRecord.accrues_quiet hi, DosingRecord.issued_phase,
    DosingRecord.issued_interval, DosingRecord.accrues_phase, DosingRecord.accrues_interval]
  by_cases waits : r.waits gross False
  · have ends : r.waits gross True := waits.imp id (Or.imp id (And.imp id fun h => h.imp id fun c => c.1.elim))
    simp [waits, ends]
  · have quiet := (DosingRecord.accrues_quiet hi gross).mpr waits
    have same : (r.accrues gross).issued w1 = r.accrues gross := DosingRecord.issued_of_quiet quiet w1
    have accumulated : r.phase = .accruing → (r.accrues gross).accumulator = r.accumulator + gross := fun hp => by
      rw [DosingRecord.accrues_short hp (Nat.lt_of_not_le fun c => waits (.inr (.inr ⟨hp, .inl c⟩)))]
    have ends : r.waits gross True ↔ r.phase = .accruing ∧ r.interval ≤ 2 * (r.accumulator + gross) := by
      unfold DosingRecord.waits at waits ⊢
      tauto
    rw [same, ends]
    simp only [waits, not_false_eq_true, true_and]
    exact not_congr (and_congr_right fun hp => by rw [accumulated hp])

end Sys2Proof.Machine
end

section
/-! A line sample up to the judgement of its leak and its close (R55, R85, R86). -/

namespace Sys2Proof.Machine

/-! ### What the dosing service leaves (R132) -/

/-- An arm whose record's phase, position and interval are those of before, a record that engages nothing staying as it was,
doses as before. -/
theorem Arm.dosedTo.doses {x y : Arm} {f : DosingRecord → DosingRecord} (h : x.dosedTo y (x.dosing.map f)) (hx : x.doses)
    (interval : ∀ r, (f r).interval = r.interval) (position : ∀ r, (f r).position = r.position)
    (idle : ∀ r, r.phase = .disengaged → r.owed = 0 → f r = r) : y.doses := by
  intro r2 h2
  rw [h.dosing] at h2
  obtain ⟨r, hr, rfl⟩ := Option.map_eq_some_iff.mp h2
  obtain ⟨hi, unengaged⟩ := hx r hr
  have engaged : y.engaged = x.engaged := by
    rw [Arm.engaged, h.dosing, hr, Arm.engaged, hr, h.setup]
    simp [position]
  refine ⟨(interval r).symm ▸ hi, fun hn => ?_⟩
  obtain ⟨phase, owed⟩ := unengaged (engaged.symm.trans hn)
  rw [idle r phase owed]
  exact ⟨phase, owed⟩

/-- The dosing service of an arm moves no other arm and no order. -/
theorem State.served_frame {s t : State} {a : Fin 6} {gross : Nat} (h : s.served t a gross) (doses : (s.arm a).doses) :
    t.orders = s.orders ∧ ∃ window,
      (s.arm a).dosedTo (t.arm a) ((s.arm a).dosing.map fun r => (r.accrues gross).issued window) := by
  obtain ⟨none, some⟩ := h
  cases hd : (s.arm a).dosing with
  | none =>
    rw [none hd]
    exact ⟨rfl, Option.none, hd, rfl, rfl, rfl, rfl, fun _ => ⟨rfl, rfl, rfl, rfl⟩, .inl rfl⟩
  | some r =>
    obtain ⟨unengaged, engaged⟩ := some r hd
    cases he : (s.arm a).engaged with
    | none =>
      obtain ⟨phase, owed⟩ := (doses r hd).2 he
      have same : (r.accrues gross).issued Option.none = r := by
        rw [DosingRecord.accrues_of_not (by rw [phase]; nofun)]
        exact if_neg fun c => c.1 phase
      rw [unengaged he]
      refine ⟨rfl, Option.none, ?_⟩
      rw [Option.map_some, same, State.arm_modifyArm, if_pos rfl]
      exact ⟨hd, rfl, rfl, rfl, rfl, fun _ => ⟨rfl, rfl, rfl, rfl⟩, .inl rfl⟩
    | some i =>
      obtain ⟨-, arm, orders, -⟩ := State.dosed_frame (engaged i he)
      exact ⟨orders, _, arm⟩

/-! ### Steps 1 and 2 of a line sample (R55) -/

theorem ProbeStatus.held_eq (x : ProbeStatus) (b : Bool) :
    (b || x.held) = (b || decide (x = .holding) || decide (x = .failed)) := by cases b <;> cases x <;> rfl

theorem Line.accumulate_eq (l : Line) (v : SampleVolumes) (p : Probe) :
    l.accumulate v p.temperature p.status.held = l.sampled v p := by
  simp only [Line.accumulate, ProbeStatus.held_eq, Line.sampled]

/-- The volumes of the next line sample of an arm. -/
abbrev State.lineVolumes (s : State) (a : Fin 6) : SampleVolumes :=
  s.nextSample a (s.arm a).boundTrial (s.arm a).lineCarries

theorem State.sampleOf_line {s : State} {a : Fin 6} {ref : LineRef} (h : (s.arm a).active = some ref) :
    s.sampleOf a = s.lineVolumes a := by
  simp only [State.sampleOf, h, Option.isSome_some, if_true]
  rfl

theorem State.meterSample_eq {s : State} {a : Fin 6} {ref : LineRef} {l : Line} (h : (s.arm a).active = some ref)
    (hl : s.lineAt ref = some l) (v : SampleVolumes) :
    s.meterSample a v = s.meteredLine a ref v (l.sampled v (s.probes.get a)) := by
  obtain ⟨u, hu⟩ : ∃ u : State, u = { s with
      arms := s.arms.modify a (fun x => { x.metered v with lineCarries := v.carries })
      store := s.storeAfter a v } := ⟨_, rfl⟩
  have active : (u.arm a).active = some ref := by
    have arm := (State.arm_modifyArm s a a (fun x => { x.metered v with lineCarries := v.carries })).trans (if_pos rfl)
    rw [hu]
    exact (congrArg (fun x : Arm => x.active) arm).trans h
  have metered : s.meterSample a v = u.modifyActiveLine a (fun l =>
      l.accumulate v (s.probes.get a).temperature (s.probes.get a).status.held) := by
    simp only [State.meterSample, h, Option.isSome_some, if_true, hu]
    rfl
  rw [metered, State.modifyActiveLine_of active, State.meteredLine, ← hu]
  refine State.modifyLine_congr (l := l) (by rw [hu]; exact hl) ?_
  exact Line.accumulate_eq l v _

theorem count32_of_le {n : Nat} (h : n ≤ 4294967295) : count32 n = n := if_pos h

theorem Arm.countSample_eq (x : Arm) {pulses gross : Nat} (h : x.stageGross + gross ≤ 4294967295) :
    x.countSample pulses gross = x.counts pulses gross := by
  simp only [Arm.countSample, Arm.counts, bump16_eq, count32_of_le h]

/-! ### The judgement of the preset (R86) -/

/-- A line sample of an arm up to the judgement of its leak and its close. -/
def State.sampledFlow (s : State) (a : Fin 6) : State :=
  (((s.meterSample a (s.sampleOf a)).serveDosing a (s.sampleOf a).gross).modifyArm a
    (fun x => x.countSample (s.arm a).decoder.sampleCount (s.sampleOf a).gross)).judgeFlow a (s.arm a).decoder.sampleCount

theorem State.sample_line {s : State} {a : Fin 6} {ref : LineRef} (h : (s.arm a).active = some ref) :
    s.sample a = (s.sampledFlow a).judgeClose a (s.arm a).decoder.sampleCount := by
  simp only [State.sample, h, Option.isSome_some, if_true]
  rfl

/-- The arm `x` after a line sample, its line not flowing, up to the judgement of its leak and its close: its record is `d`, and
it has closed for a line end where the sample decides its preset. -/
structure Arm.sampledTo (x y : Arm) (pulses : Nat) (decides : Prop) (d : Option DosingRecord) : Prop where
  dosing : y.dosing = d
  active : y.active = x.active
  suspendTimer : x.suspendTimer = none → y.suspendTimer = none
  ended : decides → y.state = .closing ∧ y.reason = some .lineEnd
  goesOn : ¬ decides → y.state = x.state ∧ y.reason = x.reason
  counts : x.state = .closing ∨ ¬ decides →
    y.zeroRun = (if pulses = 0 then min 65535 (x.zeroRun + 1) else 0) ∧ y.closeCount = min 65535 (x.closeCount + 1)

/-- The dosing service of a line sample, its volumes having joined the line. -/
theorem State.meteredLine_serves {s : State} {a : Fin 6} (ref : LineRef) (l : Line) (v : SampleVolumes)
    (doses : (s.arm a).doses) :
    let m := (s.meteredLine a ref v l).serveDosing a v.gross
    (s.meteredLine a ref v l).served m a v.gross ∧ m.orders = (s.modifyLine ref (fun _ => l)).orders ∧ (m.arm a).doses ∧
      ∃ window, (s.arm a).dosedTo (m.arm a) ((s.arm a).dosing.map fun r => (r.accrues v.gross).issued window) := by
  intro m
  have arm : (s.meteredLine a ref v l).arm a = { (s.arm a).metered v with lineCarries := v.carries } :=
    (State.arm_modifyArm s a a (fun x => { x.metered v with lineCarries := v.carries })).trans (if_pos rfl)
  have doses' : ((s.meteredLine a ref v l).arm a).doses := by
    rw [arm]
    exact doses
  have served := State.serveDosing_served _ a v.gross doses'
  obtain ⟨orders, window, later⟩ := State.served_frame served doses'
  have doses2 : (m.arm a).doses := later.doses doses' (f := fun r => (r.accrues v.gross).issued window)
    (fun r => (DosingRecord.issued_interval _ _).trans (r.accrues_interval _))
    (fun r => (DosingRecord.issued_position _ _).trans (r.accrues_position _)) fun r phase owed => by
      rw [DosingRecord.accrues_of_not (by rw [phase]; nofun)]
      exact if_neg fun c => c.1 phase
  rw [arm] at later
  exact ⟨served, orders, doses2, window, later.dosing, later.setup, later.active, later.stageGross, later.suspendTimer,
    later.still, later.state⟩

/-- The line `l` of an arm as the volumes of its next sample leave it. -/
abbrev State.nextLine (s : State) (a : Fin 6) (l : Line) : Line := l.sampled (s.lineVolumes a) (s.probes.get a)

/-- The preset is judged on the line as the sample leaves it (R86). -/
theorem State.decides_iff {s : State} {a : Fin 6} {l : Line} : ((s.nextLine a l).isRunning = true ∧
    (s.nextLine a l).preset * 1000 ≤ (s.nextLine a l).delivered) ↔ s.decides a l := Iff.rfl

/-- A line sample of an arm after its dosing service. -/
def State.lineServed (s : State) (a : Fin 6) (ref : LineRef) (l : Line) : State :=
  (s.meteredLine a ref (s.lineVolumes a) (s.nextLine a l)).serveDosing a (s.lineVolumes a).gross

/-- A line sample of an arm after its counts. -/
def State.lineCounted (s : State) (a : Fin 6) (ref : LineRef) (l : Line) : State :=
  (s.lineServed a ref l).modifyArm a (fun x => x.counts (s.arm a).decoder.sampleCount (s.lineVolumes a).gross)

theorem State.modifyLine_orders {s t : State} (h : t.orders = s.orders) (ref : LineRef) (f : Line → Line) :
    (t.modifyLine ref f).orders = (s.modifyLine ref f).orders := by
  simp only [State.modifyLine, State.modifyOrder, h]

section Counted

variable {s : State} {a : Fin 6} {ref : LineRef} {l : Line} (h : (s.arm a).active = some ref) (hl : s.lineAt ref = some l)
  (doses : (s.arm a).doses)

include doses in
theorem State.lineCounted_arm : ((s.lineCounted a ref l).arm a).doses ∧
    ∃ window, ((s.arm a).counts (s.arm a).decoder.sampleCount (s.lineVolumes a).gross).dosedTo ((s.lineCounted a ref l).arm a)
      ((s.arm a).dosing.map fun r => (r.accrues (s.lineVolumes a).gross).issued window) := by
  obtain ⟨-, -, dosesThen, window, arm⟩ := State.meteredLine_serves ref (s.nextLine a l) (s.lineVolumes a) doses
  rw [State.lineCounted, State.arm_modifyArm, if_pos rfl]
  refine ⟨dosesThen, window, arm.dosing, arm.setup, arm.active, ?_, arm.suspendTimer, fun still => ?_, arm.state⟩
  · exact congrArg (· + _) arm.stageGross
  · obtain ⟨state, reason, zeroRun, closeCount⟩ := arm.still still
    refine ⟨state, reason, ?_, ?_⟩
    · exact congrArg (fun n => if (s.arm a).decoder.sampleCount = 0 then min 65535 (n + 1) else 0) zeroRun
    · exact congrArg (fun n => min 65535 (n + 1)) closeCount

include doses in
theorem State.lineCounted_orders :
    (s.lineCounted a ref l).orders = (s.modifyLine ref (fun _ => s.nextLine a l)).orders :=
  (State.meteredLine_serves ref (s.nextLine a l) (s.lineVolumes a) doses).2.1

include h doses in
theorem State.lineCounted_active : ((s.lineCounted a ref l).arm a).active = some ref := by
  obtain ⟨-, window, arm⟩ := State.lineCounted_arm (ref := ref) (l := l) doses
  exact arm.active.trans h

include hl doses in
theorem State.lineCounted_line : (s.lineCounted a ref l).lineAt ref = some (s.nextLine a l) := by
  refine Eq.trans ?_ (State.lineAt_modifyLine hl (fun _ => s.nextLine a l))
  simp only [State.lineAt, State.order, State.lineCounted_orders doses]

include h hl doses in
theorem State.sampledFlow_eq (bound : (s.arm a).stageGross + (s.lineVolumes a).gross ≤ 4294967295) :
    s.sampledFlow a = (s.lineCounted a ref l).judgeFlow a (s.arm a).decoder.sampleCount := by
  obtain ⟨-, -, -, window, arm⟩ := State.meteredLine_serves ref (s.nextLine a l) (s.lineVolumes a) doses
  rw [State.sampledFlow, State.sampleOf_line h, State.meterSample_eq h hl]
  refine congrArg (fun t : State => t.judgeFlow a _) (State.modifyArm_congr (s.lineServed a ref l) a (Arm.countSample_eq _ ?_))
  rw [State.lineServed, arm.stageGross]
  exact bound

include h hl doses in
/-- A line that its sample finds at its preset is ending COMPLETE, and its arm closes. -/
theorem State.sampledFlow_decides (bound : (s.arm a).stageGross + (s.lineVolumes a).gross ≤ 4294967295)
    (decides : s.decides a l) :
    s.sampledFlow a = ((s.lineCounted a ref l).modifyLine ref (fun _ => s.lineAfter a l)).closesArm a := by
  have line := State.lineCounted_line (ref := ref) hl doses
  have active := State.lineCounted_active (l := l) h doses
  have recorded := State.modifyLine_congr line (f := fun l => { l with result := some .complete, flags := id l.flags })
    (g := fun _ => s.lineAfter a l) (by rw [State.lineAfter, if_pos decides]; rfl)
  simp only [State.sampledFlow_eq h hl doses bound, State.judgeFlow, State.activeLine_of active, line]
  rw [if_pos (State.decides_iff.mpr decides), State.closeForLineEnd_eq, State.modifyActiveLine_of active, recorded]

include h hl doses in
/-- A sample of an arm that does not flow does nothing more to a line below its preset. -/
theorem State.sampledFlow_goesOn (bound : (s.arm a).stageGross + (s.lineVolumes a).gross ≤ 4294967295)
    (decides : ¬ s.decides a l) (still : (s.arm a).state.flowing = false) : s.sampledFlow a = s.lineCounted a ref l := by
  have line := State.lineCounted_line (ref := ref) hl doses
  have active := State.lineCounted_active (l := l) h doses
  obtain ⟨-, window, arm⟩ := State.lineCounted_arm (ref := ref) (l := l) doses
  have flowing : ¬ ((s.lineCounted a ref l).arm a).state.flowing = true := by
    rw [(arm.still still).1]
    exact Bool.eq_false_iff.mp still
  simp only [State.sampledFlow_eq h hl doses bound, State.judgeFlow, State.activeLine_of active, line]
  rw [if_neg (State.decides_iff.not.mpr decides), if_neg flowing]

variable (hs : (s.arm a).state = .closing ∨ (s.arm a).state = .suspended)

include hs in
theorem State.closing_still : (s.arm a).state.flowing = false := by rcases hs with hs | hs <;> rw [hs] <;> rfl

include hs doses in
/-- The arm that a sample decides the preset of may close. -/
theorem State.lineCounted_closable : ((s.lineCounted a ref l).arm a).state = (s.arm a).state ∧
    ((s.lineCounted a ref l).arm a).state ≠ .idle ∧ ((s.lineCounted a ref l).arm a).state ≠ .locked := by
  obtain ⟨-, window, arm⟩ := State.lineCounted_arm (ref := ref) (l := l) doses
  have state : ((s.lineCounted a ref l).arm a).state = (s.arm a).state := (arm.still (State.closing_still hs)).1
  refine ⟨state, ?_⟩
  rw [state]
  rcases hs with hs | hs <;> rw [hs] <;> exact ⟨nofun, nofun⟩

include h hl doses hs in
/-- What a line sample of an arm that does not flow leaves, up to the judgement of its leak and its close. -/
theorem State.sampledFlow_lineSampled (bound : (s.arm a).stageGross + (s.lineVolumes a).gross ≤ 4294967295) :
    s.lineSampled (s.sampledFlow a) a ref l := by
  obtain ⟨served, -⟩ := State.meteredLine_serves ref (s.nextLine a l) (s.lineVolumes a) doses
  refine ⟨s.lineServed a ref l, served, fun decides => ?_, fun decides => ?_⟩
  · obtain ⟨-, idle, locked⟩ := State.lineCounted_closable (ref := ref) (l := l) doses hs
    rw [State.sampledFlow_decides h hl doses bound decides]
    exact State.closesArm_closesForLineEnd (State.lineCounted_arm doses).1 idle locked
  · rw [State.sampledFlow_goesOn h hl doses bound decides (State.closing_still hs)]
    obtain ⟨-, -, -, window, arm⟩ := State.meteredLine_serves ref (s.nextLine a l) (s.lineVolumes a) doses
    have flowing : ¬ ((s.lineServed a ref l).arm a).state.flowing = true := by
      rw [State.lineServed, (arm.still (State.closing_still hs)).1]
      exact Bool.eq_false_iff.mp (State.closing_still hs)
    refine State.modifyArm_congr _ a ?_
    rw [Arm.sampled, if_neg flowing]

include h hl doses hs in
theorem State.sampledFlow_orders (bound : (s.arm a).stageGross + (s.lineVolumes a).gross ≤ 4294967295) :
    (s.sampledFlow a).orders = (s.modifyLine ref (fun _ => s.lineAfter a l)).orders := by
  by_cases decides : s.decides a l
  · obtain ⟨-, idle, locked⟩ := State.lineCounted_closable (ref := ref) (l := l) doses hs
    obtain ⟨u, hu⟩ : ∃ u, u = (s.lineCounted a ref l).modifyLine ref (fun _ => s.lineAfter a l) := ⟨_, rfl⟩
    have orders : (u.closesArm a).orders = u.orders := by
      rw [hu]
      exact (State.closesArm_frame (s := (s.lineCounted a ref l).modifyLine ref (fun _ => s.lineAfter a l))
        (State.lineCounted_arm doses).1 idle locked).2.1
    rw [State.sampledFlow_decides h hl doses bound decides, ← hu, orders, hu,
      State.modifyLine_orders (State.lineCounted_orders doses)]
    exact congrArg State.orders (State.modifyLine_modifyLine s ref _ _)
  · rw [State.sampledFlow_goesOn h hl doses bound decides (State.closing_still hs), State.lineCounted_orders doses]
    rw [State.lineAfter, if_neg decides]

include h hl doses hs in
theorem State.sampledFlow_sampledTo (bound : (s.arm a).stageGross + (s.lineVolumes a).gross ≤ 4294967295) :
    ∃ w1 w2, (s.arm a).sampledTo ((s.sampledFlow a).arm a) (s.arm a).decoder.sampleCount (s.decides a l)
      ((s.arm a).dosing.map fun r => if s.decides a l then ((r.accrues (s.lineVolumes a).gross).issued w1).told w2
        else (r.accrues (s.lineVolumes a).gross).issued w1) := by
  have still := State.closing_still hs
  obtain ⟨dosesThen, w1, arm⟩ := State.lineCounted_arm (ref := ref) (l := l) doses
  obtain ⟨state, reason, zeroRun, closeCount⟩ := arm.still still
  by_cases decides : s.decides a l
  · obtain ⟨here, idle, locked⟩ := State.lineCounted_closable (ref := ref) (l := l) doses hs
    obtain ⟨-, -, y, w2, closed, told⟩ := State.closesArm_frame
      (s := (s.lineCounted a ref l).modifyLine ref (fun _ => s.lineAfter a l)) dosesThen idle locked
    have told : ((s.lineCounted a ref l).arm a).dosedTo y (((s.lineCounted a ref l).arm a).dosing.map fun r => r.told w2) := told
    obtain ⟨ystate, -, yzero, yclose⟩ := told.still (by rw [here]; exact still)
    refine ⟨w1, w2, ?_⟩
    rw [State.sampledFlow_decides h hl doses bound decides, closed]
    refine ⟨?_, ?_, fun _ => rfl, fun _ => ⟨rfl, rfl⟩, fun c => absurd decides c, fun c => ?_⟩
    · simp only [if_pos decides]
      have dosing := told.dosing
      rw [arm.dosing, Option.map_map] at dosing
      exact dosing
    · exact told.active.trans arm.active
    · have closing := ystate.trans (here.trans (c.resolve_right fun d => d decides))
      refine ⟨?_, ?_⟩
      · exact (if_pos closing).trans (yzero.trans zeroRun)
      · exact (if_pos closing).trans (yclose.trans closeCount)
  · refine ⟨w1, none, ?_⟩
    rw [State.sampledFlow_goesOn h hl doses bound decides still]
    refine ⟨?_, arm.active, arm.suspendTimer.trans, fun c => absurd c decides, fun _ => ⟨state, reason⟩,
      fun _ => ⟨zeroRun, closeCount⟩⟩
    simp only [if_neg decides]
    exact arm.dosing

end Counted

end Sys2Proof.Machine
end

section
/-! The judgement of a leak (R96). -/

namespace Sys2Proof.Machine

/-- A queued start is dropped beside a change that does not bear on it. -/
theorem State.dropQueued_modifyArm {f : Arm → Arm} (h : keepsStart f) (s : State) (a : Fin 6) :
    (s.modifyArm a f).dropQueued a = (s.dropQueued a).modifyArm a f := by
  have queued : ((s.modifyArm a f).arm a).queued = (s.arm a).queued := by
    rw [State.arm_modifyArm, if_pos rfl]
    exact (h _).1
  unfold State.dropQueued
  rw [queued]
  split
  · have raises : ∀ (t : State) k n, (t.raise k n).modifyArm a f = (t.modifyArm a f).raise k n := fun _ _ _ => rfl
    rw [raises, State.modifyArm_modifyArm, State.modifyArm_modifyArm]
    exact congrArg (fun t : State => t.raise _ _) (State.modifyArm_congr s a (h _).2.symm)
  · rfl

/-- An order one of whose lines the sample has reached. -/
theorem State.sampledFlow_order {s : State} {a : Fin 6} {ref : LineRef} {o : Order} {l : Line}
    (h : (s.arm a).active = some ref) (ho : s.order ref.slot = some o) (hl : o.line? ref.line = some l)
    (doses : (s.arm a).doses) (hs : (s.arm a).state = .closing ∨ (s.arm a).state = .suspended)
    (bound : (s.arm a).stageGross + (s.lineVolumes a).gross ≤ 4294967295) :
    (s.sampledFlow a).order ref.slot = some { o with lines := o.lines.set (ref.line - 1) (s.lineAfter a l) } := by
  have orders := State.sampledFlow_orders h (State.lineAt_of ho hl) doses hs bound
  rw [State.modifyLine_set ho hl] at orders
  rw [State.order_congr orders]
  exact Table.get_set_self _ _ _

theorem Order.line?_set {o : Order} {k : Nat} {l : Line} (h : o.line? k = some l) (x : Line) :
    ({ o with lines := o.lines.set (k - 1) x } : Order).line? k = some x := by
  have pos := Order.line?_pos h
  have set : o.lines.set (k - 1) x = o.lines.modify (k - 1) (fun _ => x) := by
    rw [List.modify_eq_set_getElem?, Order.line?_some h]
    rfl
  rw [set, Order.line?_modify, if_pos (by omega), h]
  rfl

/-- A leak does what `State.lineEndedAs` says, with the arm LOCKED, its queued start dropped and LEAK raised. -/
theorem State.leakDetected_lineEndedAs {n : State} {a : Fin 6} {ref : LineRef} {o : Order} {l : Line}
    (h : (n.arm a).active = some ref) (ho : n.order ref.slot = some o) (hl : o.line? ref.line = some l)
    (hs : o.state = .loading ∨ o.state = .closing) :
    ∃ t, n.lineEndedAs t a ref o
        { l with result := some (l.result.getD .aborted), flags := { l.flags with leak := true } } .locked ∧
      n.leakDetected a = (if (t.arm a).queued.isSome = true
        then (t.modifyArm a (fun x => { x with queued := none })).raise .startDropped (number a) else t).raise .leak
          (number a) := by
  have line := State.lineAt_of ho hl
  obtain ⟨lk, hlk⟩ : ∃ lk : Line, lk = { l with
    result := some (l.result.getD .aborted), flags := { l.flags with leak := true } } := ⟨_, rfl⟩
  have flagged : n.modifyActiveLine a (fun l => { l with
      result := some (l.result.getD .aborted), flags := { l.flags with leak := true } }) = n.modifyLine ref (fun _ => lk) := by
    rw [State.modifyActiveLine_of h]
    exact State.modifyLine_congr line hlk.symm
  rw [← hlk]
  refine ⟨_, State.finishLine_lineEndedAs h ho hl hs .locked, ?_⟩
  rw [State.leakDetected, flagged,
    State.finishLine_abandonDosing (s := n.modifyLine ref (fun _ => lk)) h (State.lineAt_modifyLine line _)]
  exact congrArg (fun t : State => t.raise .leak (number a))
    (State.dropQueued_modifyArm (Arm.settled_keepsStart .locked) _ a).symm

theorem State.judgeClose_leaks {n : State} {a : Fin 6} {pulses : Nat}
    (hs : (n.arm a).state = .closing ∨ (n.arm a).state = .suspended) (hp : pulses ≠ 0) (count : 50 ≤ (n.arm a).closeCount) :
    n.judgeClose a pulses = n.leakDetected a := if_pos ⟨hs, hp, count⟩

end Sys2Proof.Machine
end

section
namespace Sys2Proof.Proofs
open Sys2Proof Sys2Proof.Machine

/-- Settles O38: the sample up to its judgements, and the leak they find. -/
theorem leaksLockTheArm : Obligations.LeaksLockTheArm := by
  unfold Obligations.LeaksLockTheArm
  intro a s ref o l active ho hl state hs doses pulses count due v l1 bound
  have line := State.lineAt_of ho hl
  have closes : (s.arm a).state = .closing ∨ (s.arm a).state = .suspended := hs.imp id And.left
  obtain ⟨w1, w2, arm⟩ := State.sampledFlow_sampledTo active line doses closes bound
  have stands : ((s.sampledFlow a).arm a).state = .closing ∨ ((s.sampledFlow a).arm a).state = .suspended := by
    by_cases decides : s.decides a l
    · exact .inl (arm.ended decides).1
    · rw [(arm.goesOn decides).1]
      exact closes
  have counted : 50 ≤ ((s.sampledFlow a).arm a).closeCount := by
    rw [(arm.counts (hs.imp id And.right)).2]
    omega
  obtain ⟨t, ended, leaks⟩ := State.leakDetected_lineEndedAs (arm.active.trans active)
    (State.sampledFlow_order active ho hl doses closes bound) (Order.line?_set hl _) state
  refine ⟨s.sampledFlow a, t, State.sampledFlow_lineSampled active line doses closes bound, ended, ?_⟩
  exact congrArg Host.Outcome.next ((State.expiry_own due _).trans ((State.sample_line active).trans
    ((State.judgeClose_leaks stands pulses counted).trans leaks)))

end Sys2Proof.Proofs
end

section
/-! The completion of a close: for a hold, for a line end, and the queued start that is checked again (R84, R91, R92, R94). -/

namespace Sys2Proof.Machine

/-! ### The judgement of a close (R91, R94) -/

/-- The arm is quiet after its sample where no record of its waits. -/
theorem Arm.sampledTo.quiet {x y : Arm} {pulses gross : Nat} {ends : Prop} [Decidable ends] {w1 w2 : Option Nat}
    (h : x.sampledTo y pulses ends (x.dosing.map fun r =>
      if ends then ((r.accrues gross).issued w1).told w2 else (r.accrues gross).issued w1)) (doses : x.doses) :
    (y.dosing.map DosingRecord.quiet).getD true = true ↔ ∀ r, x.dosing = some r → ¬ r.waits gross ends := by
  rw [h.dosing]
  cases hd : x.dosing with
  | none => simp
  | some r =>
    obtain ⟨hi, -⟩ := doses r hd
    simp only [Option.map_some, Option.getD_some, Option.some.injEq, forall_eq']
    split
    · next c =>
      rw [DosingRecord.told_accrues_quiet hi]
      simp only [DosingRecord.waits, c]
    · next c =>
      rw [DosingRecord.issued_quiet, DosingRecord.accrues_quiet hi]
      simp only [DosingRecord.waits, c]

theorem State.judgeClose_waits {n : State} {a : Fin 6} (quiet : ¬ ((n.arm a).dosing.map DosingRecord.quiet).getD true = true) :
    n.judgeClose a 0 = n := by
  unfold State.judgeClose
  rw [if_neg fun c => c.2.1 rfl, if_neg fun c => quiet c.2.2]

theorem State.judgeClose_suspends {n : State} {a : Fin 6} (quiet : ((n.arm a).dosing.map DosingRecord.quiet).getD true = true)
    (hs : (n.arm a).state = .closing) (run : 10 ≤ (n.arm a).zeroRun) (reason : (n.arm a).reason = some .hold) :
    n.judgeClose a 0 = n.suspend a := by
  unfold State.judgeClose
  rw [if_neg fun c => c.2.1 rfl, if_pos ⟨hs, run, quiet⟩, reason]

theorem State.judgeClose_finishes {n : State} {a : Fin 6} (quiet : ((n.arm a).dosing.map DosingRecord.quiet).getD true = true)
    (hs : (n.arm a).state = .closing) (run : 10 ≤ (n.arm a).zeroRun) (reason : (n.arm a).reason = some .lineEnd) :
    n.judgeClose a 0 = (n.finishLine a).recheckQueued a := by
  unfold State.judgeClose
  rw [if_neg fun c => c.2.1 rfl, if_pos ⟨hs, run, quiet⟩, reason]

/-! ### The arm whose line has ended -/

/-- What holds of the freed arm holds of it when its order has been judged. -/
theorem State.finishLine_freed {n : State} {a : Fin 6} {ref : LineRef} {l : Line} (h : (n.arm a).active = some ref)
    (hl : n.lineAt ref = some l) {g : Arm → Arm} (hg : keepsStart g)
    (same : g ((n.arm a).lineFixed l).releaseLine = ((n.arm a).lineFixed l).releaseLine) :
    (n.finishLine a).modifyArm a g = n.finishLine a := by
  have arm : ((n.fixLine a false).arm a) = (n.arm a).lineFixed l := by
    rw [State.fixLine_eq h hl, State.arm_raiseIf, State.arm_modifyArm, if_pos rfl]
    rfl
  rw [State.finishLine, h, ← State.judgeOrder_modifyArm hg]
  refine congrArg (fun t : State => t.judgeOrder ref.slot) (State.modifyArm_self ?_)
  have released : (((n.fixLine a false).modifyLine ref (fun l => { l with state := .ended })).modifyArm a
      Arm.releaseLine).arm a = ((n.arm a).lineFixed l).releaseLine := by
    rw [State.arm_modifyArm, if_pos rfl, ← arm]
    rfl
  rw [State.arm_congr (State.raise_arms _ _ _), released, same]

/-- The arm carries no dosing record when its line has ended, and a suspend timer that did not run does not run then. -/
theorem State.finishLine_idle {n : State} {a : Fin 6} {ref : LineRef} {l : Line} (h : (n.arm a).active = some ref)
    (hl : n.lineAt ref = some l) :
    ((n.finishLine a).arm a).dosing = none ∧
      ((n.arm a).suspendTimer = none → ((n.finishLine a).arm a).suspendTimer = none) := by
  constructor
  · rw [← State.finishLine_freed h hl (g := fun x => { x with dosing := none }) (fun _ => ⟨rfl, rfl⟩) rfl, State.arm_modifyArm,
      if_pos rfl]
  · intro timer
    rw [← State.finishLine_freed h hl (g := fun x => { x with suspendTimer := none }) (fun _ => ⟨rfl, rfl⟩)
      (by generalize n.arm a = x at timer; cases x; cases timer; rfl), State.arm_modifyArm, if_pos rfl]

end Sys2Proof.Machine
end

section
/-! ### The queued start checked again (R84) -/

namespace Sys2Proof.Machine

/-- A change of an arm that its setup does not take part in. -/
def keepsSetup (g : Arm → Arm) : Prop := ∀ x : Arm, (g x).setup = x.setup

theorem State.setup_modifyArm {g : Arm → Arm} (h : keepsSetup g) (s : State) (a b : Fin 6) :
    ((s.modifyArm a g).arm b).setup = (s.arm b).setup := by
  rw [State.arm_modifyArm]
  split
  · exact h _
  · rfl

/-- The re-check reads of the arm its setup alone. -/
theorem State.recheck_modifyArm {g : Arm → Arm} (h : keepsSetup g) (s : State) (a : Fin 6) (o : Order) (l : Line) :
    (s.modifyArm a g).startChecks a o l true = s.startChecks a o l true := by
  have missing : (s.modifyArm a g).injectorMissing a l = s.injectorMissing a l := by
    rw [Bool.eq_iff_iff, State.injectorMissing_iff, State.injectorMissing_iff, State.setup_modifyArm h]
    rfl
  simp only [State.startChecks, State.setup_modifyArm h, missing]
  rfl

theorem State.startable_modifyArm {g : Arm → Arm} (h : keepsSetup g) {s : State} {a : Fin 6} {slot : Fin 24} {o : Order}
    {k : Nat} {l : Line} (start : s.startable a slot o k l) : (s.modifyArm a g).startable a slot o k l := by
  unfold State.startable at start ⊢
  rw [State.setup_modifyArm h]
  exact start

theorem State.servedBy_modifyArm {g : Arm → Arm} (h : keepsSetup g) {s : State} {a : Fin 6} {additive : Nat} {p : Fin 2}
    {i : Fin 8} (serves : s.servedBy a additive p i) : (s.modifyArm a g).servedBy a additive p i := by
  unfold State.servedBy at serves ⊢
  rw [State.setup_modifyArm h]
  exact serves

/-- Checks that no act fails are all passed. -/
theorem State.checked_any {s : State} {checks : List (Bool × ReplyCode)} (h : ∀ act, s.checked checks act = act) :
    checks.any (fun c => c.1) = false := by
  have none := h (s, [])
  unfold State.checked at none
  split at none
  · cases congrArg Prod.snd none
  · next find => exact List.any_eq_false.mpr (List.find?_eq_none.mp find)

/-- A start that may go ahead passes the re-check. -/
theorem State.startable_rechecked {s : State} {a : Fin 6} {slot : Fin 24} {o : Order} {k : Nat} {l : Line}
    (h : s.startable a slot o k l)
    (hr : ∀ m, l.recipe = some m → ∃ x p i, s.recipes.get m = some x ∧ s.servedBy a x.additive p i) :
    (s.startChecks a o l true).any (fun c => c.1) = false := by
  obtain ⟨g, hg⟩ : ∃ g : Arm → Arm, g = fun x => { x with state := .idle, queued := none } := ⟨_, rfl⟩
  have kept : keepsSetup g := fun x => by rw [hg]
  have arm : (s.modifyArm a g).arm a = g (s.arm a) := by rw [State.arm_modifyArm, if_pos rfl]
  have idle : ((s.modifyArm a g).arm a).state = .idle := by rw [arm, hg]
  have unqueued : ((s.modifyArm a g).arm a).queued = none := by rw [arm, hg]
  have passes := State.checked_any (State.startable_passes (State.startable_modifyArm kept h) (.inl idle) unqueued
    fun m hm => by
      obtain ⟨x, p, i, hx, serves⟩ := hr m hm
      exact ⟨x, p, i, hx, State.servedBy_modifyArm kept serves⟩)
  rw [← State.recheck_modifyArm kept, ← passes]
  generalize s.modifyArm a g = u at idle unqueued
  simp [State.startChecks, idle, unqueued, show (ArmState.idle == ArmState.locked) = false from rfl]

theorem State.claimingPermit_of {s : State} {o : Order} {e : Fin 200} {q : Permit} (hc : o.claimPermit = some q.number)
    (h : s.onlyPermit q.number e q) : s.claimingPermit o = some q := by
  simp [State.claimingPermit, hc, State.permitNumbered, State.findPermit_eq h, h.1]

/-- A start that may not go ahead fails the re-check. -/
theorem State.unstartable_rechecked {s : State} {a : Fin 6} {o : Order} {l : Line} (h : s.unstartable a o l) :
    (s.startChecks a o l true).any (fun c => c.1) = true := by
  rw [List.any_eq_true]
  rcases h with h | h | h | h | h | h | h | h | h | h | ⟨e, q, hc, hq, h⟩ | ⟨m, x, hm, hx, h⟩
  · exact ⟨_, .head _, by simp [h]⟩
  · exact ⟨_, .head _, by simp [Line.isWaiting, h]⟩
  · exact ⟨_, .tail _ (.head _), s.bay.permits_iff.mpr (.inl h)⟩
  · exact ⟨_, .tail _ (.head _), s.bay.permits_iff.mpr (.inr (.inl h))⟩
  · exact ⟨_, .tail _ (.head _), s.bay.permits_iff.mpr (.inr (.inr h))⟩
  · exact ⟨_, .tail _ (.tail _ (.tail _ (.tail _ (.head _)))), by simp [h]⟩
  · exact ⟨_, .tail _ (.tail _ (.tail _ (.tail _ (.tail _ (.head _))))), by simp [h]⟩
  · exact ⟨_, .tail _ (.tail _ (.tail _ (.tail _ (.tail _ (.head _))))), by simp [h]⟩
  · exact ⟨_, .tail _ (.tail _ (.tail _ (.tail _ (.tail _ (.tail _ (.head _)))))), by simp [h]⟩
  · exact ⟨_, .tail _ (.tail _ (.tail _ (.tail _ (.tail _ (.tail _ (.head _)))))), by simp [h]⟩
  · rcases h with h | h
    · exact ⟨_, .tail _ (.tail _ (.tail _ (.tail _ (.tail _ (.tail _ (.tail _ (.head _))))))), by
        simp [State.claimingPermit_of hc hq, h]⟩
    · exact ⟨_, .tail _ (.tail _ (.tail _ (.tail _ (.tail _ (.tail _ (.tail _ (.tail _ (.head _)))))))), by
        simp [State.claimingPermit_of hc hq, Permit.expired, h]⟩
  · refine ⟨_, .tail _ (.tail _ (.tail _ (.tail _ (.tail _ (.tail _ (.tail _ (.tail _ (.tail _ (.head _))))))))), ?_⟩
    refine (s.injectorMissing_iff a l).mpr ⟨m, hm, ?_⟩
    rintro ⟨y, p, i, hy, hp, serving, additive⟩
    rw [hx] at hy
    cases hy
    rcases h p i hp with failed | other
    · rw [serving] at failed
      cases failed
    · exact other additive

end Sys2Proof.Machine
end

section
namespace Sys2Proof.Machine

/-! ### The end of a close for a line end (R84, R92) -/

theorem State.recheckQueued_none {f : State} {a : Fin 6} (h : (f.arm a).queued = none) :
    f.recheckQueued a = f.modifyArm a (Arm.settled .idle) := by simp only [State.recheckQueued, h]; rfl

/-- A queued start that fails its re-check is dropped, and the arm is IDLE. -/
theorem State.recheckQueued_drops {f : State} {a : Fin 6} {q : QueuedStart} (h : (f.arm a).queued = some q)
    (fails : ∀ slot o l, f.startTarget q.order q.line = some (slot, o, l) →
      (f.startChecks a o l true).any (fun c => c.1) = true) :
    f.recheckQueued a = ((f.modifyArm a (Arm.settled .idle)).modifyArm a (fun x => { x with queued := none })).raise
      .startDropped (number a) := by
  obtain ⟨u, hu⟩ : ∃ u, u = f.modifyArm a (Arm.settled .idle) := ⟨_, rfl⟩
  have queued : (u.arm a).queued.isSome = true := by
    rw [hu, State.arm_modifyArm, if_pos rfl]
    exact Option.isSome_iff_exists.mpr ⟨q, h⟩
  have dropped : (f.dropQueued a).modifyArm a Arm.goIdle =
      (u.modifyArm a (fun x => { x with queued := none })).raise .startDropped (number a) := by
    rw [show Arm.goIdle = Arm.settled .idle from rfl, ← State.dropQueued_modifyArm (Arm.settled_keepsStart .idle), ← hu]
    exact if_pos queued
  rw [← hu, ← dropped]
  simp only [State.recheckQueued, h]
  split
  · next slot o l target => exact if_pos (fails slot o l target)
  · rfl

/-- A queued start that passes its re-check starts its line. -/
theorem State.recheckQueued_starts {f : State} {a : Fin 6} {q : QueuedStart} {slot : Fin 24} {o : Order} {l : Line}
    (h : (f.arm a).queued = some q) (target : f.startTarget q.order q.line = some (slot, o, l))
    (passes : (f.startChecks a o l true).any (fun c => c.1) = false) :
    f.recheckQueued a = (f.modifyArm a (fun x => { x with queued := none })).beginLine a slot q.line := by
  simp only [State.recheckQueued, h, target, passes]
  rfl

/-- A line starts on an arm whether it has gone IDLE first or not, its suspend timer standing still. -/
theorem State.lineStarted_settled {w : State} {a : Fin 6} (timer : (w.arm a).suspendTimer = none) (slot : Fin 24) (o : Order)
    (k : Nat) (l : Line) (d : Option DosingRecord) :
    (w.modifyArm a (Arm.settled .idle)).lineStarted a slot o k l d = w.lineStarted a slot o k l d := by
  have arms : ((w.modifyArm a (Arm.settled .idle)).lineStarted a slot o k l d).arms = (w.lineStarted a slot o k l d).arms := by
    have timer : (w.arms.get a).suspendTimer = none := timer
    simp only [State.lineStarted, State.modifyArm, Table.modify_eq_set, Table.set_set, Table.get_set_self, Arm.settled, ← timer]
    rfl
  exact congrArg (fun arms => { w.lineStarted a slot o k l d with arms := arms }) arms

end Sys2Proof.Machine
end

section
namespace Sys2Proof.Machine

/-! ### A close that completes for a line end, and the queued start behind it -/

/-- The bay when the arm has gone IDLE. -/
abbrev State.settledIdle (s : State) (a : Fin 6) : State := s.modifyArm a (Arm.settled .idle)

/-- The bay when the arm's queued start has left it. -/
abbrev State.unqueued (s : State) (a : Fin 6) : State := s.modifyArm a (fun x => { x with queued := none })

theorem keepsSetup_settled (st : ArmState) : keepsSetup (Arm.settled st) := fun _ => rfl

theorem keepsSetup_unqueued : keepsSetup (fun x => { x with queued := none }) := fun _ => rfl

theorem State.queued_settledIdle (f : State) (a : Fin 6) : ((f.settledIdle a).arm a).queued = (f.arm a).queued := by
  rw [State.arm_modifyArm, if_pos rfl]
  rfl

theorem State.settledIdle_unqueued (f : State) (a : Fin 6) :
    (f.settledIdle a).unqueued a = (f.unqueued a).settledIdle a := f.modifyArm_comm a a fun _ => rfl

section Recheck

variable {f : State} {a : Fin 6} {q : QueuedStart} (hq : ((f.settledIdle a).arm a).queued = some q)

include hq in
/-- A queued start whose order has gone is dropped. -/
theorem State.recheckQueued_absent (absent : ∀ k x, (f.settledIdle a).order k = some x → x.number ≠ q.order) :
    f.recheckQueued a = ((f.settledIdle a).unqueued a).raise .startDropped (number a) := by
  refine State.recheckQueued_drops ((f.queued_settledIdle a).symm.trans hq) fun slot o l found => ?_
  have found : (f.settledIdle a).startTarget q.order q.line = some (slot, o, l) := found
  rw [State.startTarget, State.findOrder_none absent] at found
  cases found

include hq in
/-- A queued start whose line is not there, or may not start, is dropped. -/
theorem State.recheckQueued_unstartable {slot : Fin 24} {o : Order} (only : (f.settledIdle a).onlyOrder q.order slot o)
    (fails : o.line? q.line = none ∨ ∃ l, o.line? q.line = some l ∧ (f.settledIdle a).unstartable a o l) :
    f.recheckQueued a = ((f.settledIdle a).unqueued a).raise .startDropped (number a) := by
  refine State.recheckQueued_drops ((f.queued_settledIdle a).symm.trans hq) fun k o' l found => ?_
  have found : (f.settledIdle a).startTarget q.order q.line = some (k, o', l) := found
  rcases fails with missing | ⟨l', hl', unstartable⟩
  · rw [State.startTarget, State.findOrder_eq only, Option.bind_some, only.1, Option.bind_some, missing] at found
    cases found
  · rw [State.startTarget_of only hl'] at found
    cases found
    rw [← State.recheck_modifyArm (keepsSetup_settled .idle)]
    exact State.unstartable_rechecked unstartable

include hq in
/-- A queued start that may go ahead begins its line. -/
theorem State.recheckQueued_begins {slot : Fin 24} {o : Order} {l : Line} (named : o.number = q.order)
    (start : (f.settledIdle a).startable a slot o q.line l)
    (serves : ∀ m, l.recipe = some m → ∃ x p i, f.recipes.get m = some x ∧ (f.settledIdle a).servedBy a x.additive p i) :
    f.recheckQueued a = (f.unqueued a).beginLine a slot q.line := by
  have target : f.startTarget q.order q.line = some (slot, o, l) :=
    State.startTarget_of (s := f.settledIdle a) (named ▸ start.1) start.2.2.1
  refine State.recheckQueued_starts ((f.queued_settledIdle a).symm.trans hq) target ?_
  rw [← State.recheck_modifyArm (keepsSetup_settled .idle)]
  exact State.startable_rechecked start serves

variable (dosing : (f.arm a).dosing = none) (timer : (f.arm a).suspendTimer = none)

include timer in
theorem State.lineStarted_rechecked (slot : Fin 24) (o : Order) (k : Nat) (l : Line) (d : Option DosingRecord) :
    ((f.settledIdle a).unqueued a).lineStarted a slot o k l d = (f.unqueued a).lineStarted a slot o k l d := by
  rw [State.settledIdle_unqueued]
  refine State.lineStarted_settled ?_ slot o k l d
  rw [State.arm_modifyArm, if_pos rfl]
  exact timer

include hq dosing timer in
/-- A queued start of a line that names no recipe. -/
theorem State.recheckQueued_plain {slot : Fin 24} {o : Order} {l : Line} (named : o.number = q.order)
    (start : (f.settledIdle a).startable a slot o q.line l) (hr : l.recipe = none) :
    f.recheckQueued a = ((f.settledIdle a).unqueued a).lineStarted a slot o q.line l none := by
  have ho : (f.unqueued a).order slot = some o := start.1.1
  rw [State.recheckQueued_begins hq named start fun m hm => absurd (hr.symm.trans hm) nofun, State.lineStarted_rechecked timer]
  refine State.beginLine_plain ho start.2.2.1 start.2.1 ?_ hr
  rw [State.arm_modifyArm, if_pos rfl]
  exact dosing

include hq timer in
/-- A queued start of a line that an injector of the arm serves. -/
theorem State.recheckQueued_dosed {slot : Fin 24} {o : Order} {l : Line} (named : o.number = q.order)
    (start : (f.settledIdle a).startable a slot o q.line l) {k : Fin 16} {x : Recipe} {p : Fin 2} {i : Fin 8}
    (hr : l.recipe = some k) (hx : f.recipes.get k = some x) (serves : (f.settledIdle a).servedBy a x.additive p i) :
    f.recheckQueued a = ((f.settledIdle a).unqueued a).lineStarted a slot o q.line l
      (some (DosingRecord.opened x p i (f.injectorStore i))) := by
  have ho : (f.unqueued a).order slot = some o := start.1.1
  have bare : f.servedBy a x.additive p i := by
    unfold State.servedBy at serves ⊢
    rw [State.setup_modifyArm (keepsSetup_settled .idle)] at serves
    exact serves
  rw [State.recheckQueued_begins hq named start fun m hm => ?_, State.lineStarted_rechecked timer]
  · exact State.beginLine_dosed ho start.2.2.1 start.2.1 hr hx (State.servedBy_modifyArm keepsSetup_unqueued bare)
  · cases hr.symm.trans hm
    exact ⟨x, p, i, hx, serves⟩

end Recheck

end Sys2Proof.Machine
end

section
namespace Sys2Proof.Proofs
open Sys2Proof Sys2Proof.Machine

/-- Settles O37: the sample up to its judgements, then the wait, the hold's completion or the line's. -/
theorem closesComplete : Obligations.ClosesComplete := by
  unfold Obligations.ClosesComplete
  intro a s ref o l active ho hl hs pulses run doses due v l1 waits bound
  have line := State.lineAt_of ho hl
  obtain ⟨w1, w2, arm⟩ := State.sampledFlow_sampledTo active line doses (.inl hs) bound
  have quiet := arm.quiet doses
  obtain ⟨n, hn⟩ : ∃ n, n = s.sampledFlow a := ⟨_, rfl⟩
  have sampled : exec (.meteringSample a) s = .next (n.judgeClose a 0) := by
    have sample := (State.expiry_own due (fun t => t.sample a)).trans (State.sample_line active)
    rw [pulses, ← hn] at sample
    exact congrArg Host.Outcome.next sample
  rw [← hn] at arm quiet
  have counted : 10 ≤ (n.arm a).zeroRun := by
    rw [(arm.counts (.inl hs)).1, if_pos pulses]
    omega
  have closing : (n.arm a).state = .closing := by
    by_cases decides : s.decides a l
    · exact (arm.ended decides).1
    · rw [(arm.goesOn decides).1, hs]
  refine ⟨n, hn ▸ State.sampledFlow_lineSampled active line doses (.inl hs) bound, fun r hr hw => ?_, fun idle => ⟨?_, ?_⟩⟩
  · rw [sampled, State.judgeClose_waits fun c => quiet.mp c r hr hw]
  · intro hold decides
    rw [sampled, State.judgeClose_suspends (quiet.mpr idle) closing counted ((arm.goesOn decides).2.trans hold)]
    rfl
  · intro ends state
    have reason : (n.arm a).reason = some .lineEnd := by
      by_cases decides : s.decides a l
      · exact (arm.ended decides).2
      · rw [(arm.goesOn decides).2]
        exact (ends.resolve_right decides).1
    have nactive : (n.arm a).active = some ref := arm.active.trans active
    have norder := State.sampledFlow_order active ho hl doses (.inl hs) bound
    rw [← hn] at norder
    have nline : n.lineAt ref = some (s.lineAfter a l) := State.lineAt_of norder (Order.line?_set hl _)
    have ended := State.finishLine_lineEndedAs (l := s.lineAfter a l) nactive norder (Order.line?_set hl _) state .idle
    rw [State.modifyLine_self nline rfl] at ended
    obtain ⟨dosing, still⟩ := State.finishLine_idle nactive nline
    rw [sampled, State.judgeClose_finishes (quiet.mpr idle) closing counted reason]
    generalize n.finishLine a = f at ended dosing still
    refine ⟨_, ended, fun hq => ?_, fun q hq => ⟨fun absent => ?_, fun slot o2 only fails => ?_,
      fun slot o2 l2 named start timer => ⟨fun hr => ?_, fun k x p i hr hx serves => ?_⟩⟩⟩
    · exact congrArg Host.Outcome.next (State.recheckQueued_none ((f.queued_settledIdle a).symm.trans hq))
    · exact congrArg Host.Outcome.next (State.recheckQueued_absent hq absent)
    · exact congrArg Host.Outcome.next (State.recheckQueued_unstartable hq only fails)
    · exact congrArg Host.Outcome.next
        (State.recheckQueued_plain hq dosing (still (arm.suspendTimer timer)) named start hr)
    · exact congrArg Host.Outcome.next
        (State.recheckQueued_dosed hq (still (arm.suspendTimer timer)) named start hr hx serves)

end Sys2Proof.Proofs
end

section
/-! CANCEL ORDER: the running lines of a LOADING order end on their arms (R36). -/

namespace Sys2Proof.Machine

/-- A line that ends ABORTED with flag CANCEL (R36). -/
def Line.cancelled (l : Line) : Line := { l with result := some .aborted, flags := { l.flags with cancel := true } }

/-- Arm `a` carries a running line of the order in a slot. -/
def State.cancels (s : State) (slot : Fin 24) (a : Fin 6) : Prop :=
  ∃ ref, (s.arm a).active = some ref ∧ ref.slot = slot ∧ s.running a = true

/-- The running line of the order in a slot, ended on one arm. -/
def State.cancelOn (s : State) (slot : Fin 24) (a : Fin 6) : State :=
  match (s.arm a).active with
  | some ref => if ref.slot = slot ∧ s.running a then s.closeForLineEnd a .aborted (fun f => { f with cancel := true }) else s
  | none => s

theorem State.cancelActive_eq (s : State) (slot : Fin 24) :
    s.cancelActive slot = (List.finRange 6).foldl (fun t a => t.cancelOn slot a) s := by
  rw [← armList_eq_finRange]
  rfl

theorem State.cancelOn_idle {s : State} {slot : Fin 24} {a : Fin 6} (h : ¬ s.cancels slot a) : s.cancelOn slot a = s := by
  unfold State.cancelOn
  split
  · next ref active => exact if_neg fun c => h ⟨ref, active, c⟩
  · rfl

theorem State.cancelOn_closes {s : State} {slot : Fin 24} {a : Fin 6} {ref : LineRef} (active : (s.arm a).active = some ref)
    (hs : ref.slot = slot) (running : s.running a = true) :
    s.cancelOn slot a = (s.modifyLine ref Line.cancelled).closesArm a := by
  have same : (s.modifyActiveLine a (fun l => { l with result := some .aborted, flags := { l.flags with cancel := true } })) =
      s.modifyLine ref Line.cancelled := State.modifyActiveLine_of active _
  simp only [State.cancelOn, active]
  rw [if_pos ⟨hs, running⟩, State.closeForLineEnd_eq, same]

/-! ### Each arm by `State.cancelsOn` -/

theorem Arm.standing.closable {x : Arm} (h : x.standing) {ref : LineRef} (active : x.active = some ref) :
    x.state ≠ .idle ∧ x.state ≠ .locked := h.1.mp (Option.isSome_iff_exists.mpr ⟨ref, active⟩)

/-- The cancelling on one arm does what `State.cancelsOn` says, and moves no other arm. -/
theorem State.cancelOn_cancelsOn {s : State} {slot : Fin 24} {a : Fin 6} (stands : (s.arm a).standing)
    (doses : (s.arm a).doses) :
    s.cancelsOn (s.cancelOn slot a) slot a ∧ ∀ b, b ≠ a → (s.cancelOn slot a).arm b = s.arm b := by
  by_cases h : s.cancels slot a
  · obtain ⟨ref, active, hs, running⟩ := h
    obtain ⟨idle, locked⟩ := stands.closable active
    obtain ⟨u, hu⟩ : ∃ u, u = s.modifyLine ref Line.cancelled := ⟨_, rfl⟩
    have arm : u.arm a = s.arm a := by rw [hu]; rfl
    rw [State.cancelOn_closes active hs running, ← hu]
    refine ⟨⟨fun ref' active' _ _ => ?_, fun none => ?_⟩, fun b hb => ?_⟩
    · cases active.symm.trans active'
      have closes := State.closesArm_closesForLineEnd (s := u) (arm.symm ▸ doses) (arm.symm ▸ idle) (arm.symm ▸ locked)
      rw [hu] at closes ⊢
      exact closes
    · exact absurd running (by simp [none ref active hs])
    · rw [(State.closesArm_frame (s := u) (arm.symm ▸ doses) (arm.symm ▸ idle) (arm.symm ▸ locked)).1 b hb, hu]
      rfl
  · rw [State.cancelOn_idle h]
    exact ⟨⟨fun ref active hs running => absurd ⟨ref, active, hs, running⟩ h, fun _ => rfl⟩, fun _ _ => rfl⟩

/-- The cancelling on several arms, one after another, does what `State.cancelsAll` says. -/
theorem State.cancelsAll_foldl (slot : Fin 24) : ∀ (arms : List (Fin 6)), arms.Nodup → ∀ s : State,
    (∀ a ∈ arms, (s.arm a).standing ∧ (s.arm a).doses) →
    State.cancelsAll slot arms s (arms.foldl (fun t a => t.cancelOn slot a) s)
  | [], _, _, _ => rfl
  | a :: rest, distinct, s, h => by
    obtain ⟨fresh, distinct⟩ := List.nodup_cons.mp distinct
    obtain ⟨stands, doses⟩ := h a (.head _)
    obtain ⟨one, others⟩ := State.cancelOn_cancelsOn (slot := slot) stands doses
    refine ⟨s.cancelOn slot a, one, State.cancelsAll_foldl slot rest distinct _ fun b hb => ?_⟩
    rw [others b fun e => fresh (e ▸ hb)]
    exact h b (.tail _ hb)

/-! ### A frame heard on a port -/

theorem State.running_heard (s : State) (p : PortId) (a : Fin 6) : (s.heard p).running a = s.running a := by
  cases p <;> rfl

theorem State.cancelOn_heard (s : State) (p : PortId) (slot : Fin 24) (a : Fin 6) :
    (s.heard p).cancelOn slot a = (s.cancelOn slot a).heard p := by
  by_cases h : s.cancels slot a
  · obtain ⟨ref, active, hs, running⟩ := h
    rw [State.cancelOn_closes active hs running, State.cancelOn_closes (by rw [State.arm_heard, active]) hs
      ((s.running_heard p a).trans running), State.modifyLine_heard, State.closesArm_heard]
  · rw [State.cancelOn_idle h, State.cancelOn_idle fun ⟨ref, active, hs, running⟩ => h ⟨ref, by rw [← active, State.arm_heard],
      hs, (s.running_heard p a).symm.trans running⟩]

theorem State.cancelActive_heard (s : State) (p : PortId) (slot : Fin 24) :
    (s.heard p).cancelActive slot = (s.cancelActive slot).heard p := by
  rw [State.cancelActive_eq, State.cancelActive_eq]
  exact List.foldl_hom (fun t : State => t.heard p) fun t a => t.cancelOn_heard p slot a

/-- The order then waits in CLOSING, its WAITING lines ENDED. -/
def State.cancelWaits (s : State) (slot : Fin 24) : State :=
  s.modifyOrder slot (fun o => { o.endWaiting with state := .closing })

theorem State.cancelLoading_eq (s : State) (slot : Fin 24) (num : Nat) :
    s.cancelLoading slot num = ((s.cancelActive slot).cancelWaits slot).dropQueuedOf num := by
  rw [State.cancelWaits, ← State.modifyOrder_modifyOrder _ slot Order.endWaiting (fun o => { o with state := .closing }),
    State.dropQueuedOf_comm (h := fun t => t.modifyOrder slot (fun o => { o with state := .closing })) (fun _ _ => rfl)
      (fun _ _ => rfl) (fun _ _ _ => rfl)]
  rfl

theorem State.cancelLoading_heard (s : State) (p : PortId) (slot : Fin 24) (num : Nat) :
    (s.heard p).cancelLoading slot num = (s.cancelLoading slot num).heard p := by
  simp only [State.cancelLoading_eq, State.cancelActive_heard, State.cancelWaits, State.modifyOrder_heard,
    State.dropQueuedOf_heard]

end Sys2Proof.Machine
end

section
/-! CANCEL ORDER where no line of the order takes additive: the cancelled lines and their arms, said out (R36, R89, R116). -/

namespace Sys2Proof.Machine

/-! ### The lines of the order -/

/-- A line of the order as the cancelling on these arms leaves it. -/
def Line.cancelledOn (arms : List (Fin 6)) (l : Line) : Line :=
  if l.isRunning = true ∧ ∃ a ∈ arms, l.state = .active a then l.cancelled else l

theorem Line.cancelledOn_nil (l : Line) : l.cancelledOn [] = l := if_neg fun ⟨_, _, h, _⟩ => by cases h

/-- A running line is cancelled with its arm. -/
theorem Line.cancelledOn_all (l : Line) : l.cancelledOn (List.finRange 6) = if l.isRunning = true then l.cancelled else l := by
  have active : l.isRunning = true → ∃ a ∈ List.finRange 6, l.state = .active a := fun h => by
    cases hs : l.state with
    | active a => exact ⟨a, List.mem_finRange a, rfl⟩
    | waiting => simp [Line.isRunning, Line.isActive, hs] at h
    | ended => simp [Line.isRunning, Line.isActive, hs] at h
  unfold Line.cancelledOn
  by_cases h : l.isRunning = true
  · rw [if_pos ⟨h, active h⟩, if_pos h]
  · rw [if_neg fun c => h c.1, if_neg h]

/-- One arm more changes no line but its own. -/
theorem Line.cancelledOn_other {l : Line} {a : Fin 6} (h : l.isRunning = true → l.state ≠ .active a) (arms : List (Fin 6)) :
    l.cancelledOn (arms ++ [a]) = l.cancelledOn arms := by
  unfold Line.cancelledOn
  by_cases c : l.isRunning = true ∧ ∃ b ∈ arms, l.state = .active b
  · obtain ⟨running, b, hb, hs⟩ := c
    rw [if_pos ⟨running, b, List.mem_append_left _ hb, hs⟩, if_pos ⟨running, b, hb, hs⟩]
  · rw [if_neg, if_neg c]
    rintro ⟨running, b, hb, hs⟩
    rcases List.mem_append.mp hb with hb | hb
    · exact c ⟨running, b, hb, hs⟩
    · exact h running (List.mem_singleton.mp hb ▸ hs)

theorem Line.cancelledOn_own {l : Line} {a : Fin 6} (running : l.isRunning = true) (hs : l.state = .active a)
    (arms : List (Fin 6)) : l.cancelledOn (arms ++ [a]) = l.cancelled :=
  if_pos ⟨running, a, List.mem_append_right _ (.head _), hs⟩

theorem Line.cancelledOn_fresh {l : Line} {a : Fin 6} {arms : List (Fin 6)} (hs : l.state = .active a) (h : a ∉ arms) :
    l.cancelledOn arms = l :=
  if_neg fun ⟨_, b, hb, hs'⟩ => h (by cases hs.symm.trans hs'; exact hb)

/-- The arms' cancelling, seen from the state before: the lines of the order in a slot, the arms and the bay. -/
structure State.cancelledTo (s t : State) (slot : Fin 24) (o : Order) (done : List (Fin 6)) : Prop where
  frame : t = { s with
    orders := s.orders.set slot (some { o with lines := o.lines.map (Line.cancelledOn done) }), arms := t.arms, bay := t.bay }
  closed : ∀ a, a ∈ done → s.cancels slot a → t.arm a = (s.arm a).closedForLineEnd
  same : ∀ a, ¬ (a ∈ done ∧ s.cancels slot a) → t.arm a = s.arm a
  follows : (∃ a ∈ done, s.cancels slot a) → s.bayFollows t
  still : (¬ ∃ a ∈ done, s.cancels slot a) → t.bay = s.bay

theorem State.cancelledTo_nil {s : State} {slot : Fin 24} {o : Order} (ho : s.order slot = some o) :
    s.cancelledTo s slot o [] := by
  have lines : o.lines.map (Line.cancelledOn []) = o.lines := by
    rw [show Line.cancelledOn [] = id from funext Line.cancelledOn_nil, List.map_id]
  refine ⟨?_, fun a h => absurd h (List.not_mem_nil), fun _ _ => rfl, fun ⟨_, h, _⟩ => absurd h List.not_mem_nil, fun _ => rfl⟩
  rw [lines]
  have ho : s.orders.get slot = some o := ho
  rw [← ho, Table.set_get_self]

/-- The deadman timer stops once, as soon as no arm flows. -/
theorem State.bayFollows_trans {s t v : State} (h : s.bayFollows t ∨ t.bay = s.bay) (g : t.bayFollows v)
    (flows : (∃ b, (v.arm b).state.flowing = true) → ∃ b, (t.arm b).state.flowing = true) : s.bayFollows v := by
  unfold State.bayFollows at h g ⊢
  rw [g]
  by_cases fv : ∃ b, (v.arm b).state.flowing = true
  · rw [if_pos fv, if_pos fv]
    rcases h with h | h
    · rw [h, if_pos (flows fv)]
    · exact h
  · rw [if_neg fv, if_neg fv]
    rcases h with h | h
    · rw [h]
      split <;> rfl
    · rw [h]

section Step

variable {s t : State} {slot : Fin 24} {o : Order} {done : List (Fin 6)} {a : Fin 6} (kept : s.linesKept)
  (saved : s.bay.saved = false) (ho : s.order slot = some o) (h : s.cancelledTo t slot o done) (fresh : a ∉ done)

include kept saved ho in
/-- The line of the order that is active on an arm is the one the arm carries. -/
theorem State.cancels_line {l : Line} {k : Nat} (hl : o.line? k = some l) (hs : l.state = .active a) :
    (s.arm a).active = some ⟨slot, k⟩ := (((kept.2 saved).2 slot o k l ho hl).2 a hs).1

include kept saved ho h fresh in
/-- An arm not yet reached carries the line it did. -/
theorem State.cancelledTo_line {ref : LineRef} (active : (s.arm a).active = some ref) : t.lineAt ref = s.lineAt ref := by
  obtain ⟨l, hl, hs, -⟩ := (kept.2 saved).1 a ref active
  by_cases here : ref.slot = slot
  · obtain ⟨o', ho', hl'⟩ := (s.lineAt_iff ref l).mp hl
    rw [here, ho] at ho'
    cases ho'
    have order : t.order ref.slot = some { o with lines := o.lines.map (Line.cancelledOn done) } := by
      rw [h.frame, here]
      exact Table.get_set_self _ _ _
    rw [hl]
    refine State.lineAt_of order ?_
    rw [Order.line?_map, hl', Option.map_some, Line.cancelledOn_fresh hs fresh]
  · have order : t.order ref.slot = s.order ref.slot := by
      rw [h.frame]
      exact Table.get_set_ne _ _ here
    simp only [State.lineAt, order]

include kept saved ho h fresh in
theorem State.cancelledTo_cancels : t.cancels slot a ↔ s.cancels slot a := by
  have arm := h.same a fun c => fresh c.1
  unfold State.cancels
  rw [arm]
  refine exists_congr fun ref => and_congr_right fun active => and_congr_right fun _ => ?_
  have active' : (t.arm a).active = some ref := by rw [arm, active]
  rw [State.running, State.running, State.activeLine_of active, State.activeLine_of active',
    State.cancelledTo_line kept saved ho h fresh active]

include kept saved ho in
/-- No running line of the order is on an arm that cancels nothing. -/
theorem State.cancels_running {l : Line} (hl : l ∈ o.lines) (running : l.isRunning = true) (hs : l.state = .active a) :
    s.cancels slot a := by
  obtain ⟨i, hi⟩ := List.mem_iff_getElem?.mp hl
  have line : o.line? (i + 1) = some l := hi
  have active := State.cancels_line kept saved ho line hs
  refine ⟨⟨slot, i + 1⟩, active, rfl, ?_⟩
  rw [State.running, State.activeLine_of active, State.lineAt_of (ref := ⟨slot, i + 1⟩) ho line]
  exact running

include kept saved ho h fresh in
/-- An arm that carries no running line of the order moves nothing. -/
theorem State.cancelledTo_idle (idle : ¬ s.cancels slot a) : s.cancelledTo (t.cancelOn slot a) slot o (done ++ [a]) := by
  have lines : o.lines.map (Line.cancelledOn (done ++ [a])) = o.lines.map (Line.cancelledOn done) :=
    List.map_congr_left fun l hl => Line.cancelledOn_other
      (fun running hs => idle (State.cancels_running kept saved ho hl running hs)) done
  have among : ∀ b, s.cancels slot b → b ∈ done ++ [a] → b ∈ done := fun b hb hmem =>
    (List.mem_append.mp hmem).resolve_right fun e => idle (List.mem_singleton.mp e ▸ hb)
  rw [State.cancelOn_idle fun c => idle ((State.cancelledTo_cancels kept saved ho h fresh).mp c)]
  refine ⟨by rw [lines]; exact h.frame, fun b hb c => h.closed b (among b c hb) c,
    fun b hb => h.same b fun c => hb ⟨List.mem_append_left _ c.1, c.2⟩, fun ⟨b, hb, c⟩ => h.follows ⟨b, among b c hb, c⟩,
    fun none => h.still fun ⟨b, hb, c⟩ => none ⟨b, List.mem_append_left _ hb, c⟩⟩

include kept saved ho in
/-- The line of one arm more, written in its place. -/
theorem State.cancelledTo_lines {ref : LineRef} {l : Line} (active : (s.arm a).active = some ref) (here : ref.slot = slot)
    (hl : o.line? ref.line = some l) (hs : l.state = .active a) (running : l.isRunning = true) :
    (o.lines.map (Line.cancelledOn done)).set (ref.line - 1) l.cancelled = o.lines.map (Line.cancelledOn (done ++ [a])) := by
  have pos := Order.line?_pos hl
  have found := Order.line?_some hl
  refine List.ext_getElem? fun i => ?_
  rw [List.getElem?_set, List.getElem?_map, List.getElem?_map, List.length_map]
  by_cases hi : ref.line - 1 = i
  · subst hi
    rw [if_pos rfl, if_pos (List.getElem?_eq_some_iff.mp found).1, found, Option.map_some, Line.cancelledOn_own running hs]
  · rw [if_neg hi]
    cases hm : o.lines[i]? with
    | none => rfl
    | some m =>
      refine congrArg some (Line.cancelledOn_other (fun _ hs' => hi ?_) done).symm
      have line : o.line? (i + 1) = some m := hm
      cases active.symm.trans (State.cancels_line kept saved ho line hs')
      rfl

include kept saved ho h fresh in
/-- An arm that carries a running line of the order closes for its end. -/
theorem State.cancelledTo_closes (cancels : s.cancels slot a)
    (dosing : ∀ ref, (s.arm a).active = some ref → ref.slot = slot → (s.arm a).dosing = none) :
    s.cancelledTo (t.cancelOn slot a) slot o (done ++ [a]) := by
  have arm := h.same a fun c => fresh c.1
  obtain ⟨ref, active', here, running'⟩ := (State.cancelledTo_cancels kept saved ho h fresh).mpr cancels
  have active : (s.arm a).active = some ref := by rw [← arm, active']
  obtain ⟨l, hl, hs, -⟩ := (kept.2 saved).1 a ref active
  have line : t.lineAt ref = some l := (State.cancelledTo_line kept saved ho h fresh active).trans hl
  have running : l.isRunning = true := by
    rw [State.running, State.activeLine_of active', line] at running'
    exact running'
  obtain ⟨o', ho', hlo⟩ := (s.lineAt_iff ref l).mp hl
  rw [here, ho] at ho'
  cases ho'
  have order : t.order ref.slot = some { o with lines := o.lines.map (Line.cancelledOn done) } := by
    rw [h.frame, here]
    exact Table.get_set_self _ _ _
  obtain ⟨u, hu⟩ : ∃ u, u = t.modifyLine ref Line.cancelled := ⟨_, rfl⟩
  have uarm : u.arm a = s.arm a := by
    rw [hu]
    exact arm
  have none : (u.arm a).dosing = none := by rw [uarm, dosing ref active here]
  obtain ⟨idle, locked⟩ := (kept.1 a).closable active
  rw [State.cancelOn_closes active' here running', ← hu,
    u.closesArm_eq (fun r hr => absurd (none.symm.trans hr) nofun) (uarm.symm ▸ idle) (uarm.symm ▸ locked),
    State.finishDosing_self fun r hr => absurd (none.symm.trans hr) nofun]
  obtain ⟨v, hv⟩ : ∃ v, v = (u.modifyArm a Arm.closedForLineEnd).settleDeadman := ⟨_, rfl⟩
  have varm : ∀ b, v.arm b = if b = a then (t.arm b).closedForLineEnd else t.arm b := fun b => by
    rw [hv, State.settleDeadman_eq, hu]
    exact State.arm_modifyArm _ a b _
  have flows : (∃ b, (v.arm b).state.flowing = true) → ∃ b, (t.arm b).state.flowing = true := by
    rintro ⟨b, hb⟩
    rw [varm] at hb
    split at hb
    · cases hb
    · exact ⟨b, hb⟩
  rw [← hv]
  refine ⟨?_, fun b hb c => ?_, fun b hb => ?_, fun _ => ?_,
    fun none => absurd ⟨a, List.mem_append_right _ (.head _), cancels⟩ none⟩
  · have orders : v.orders = s.orders.set slot (some { o with lines := o.lines.map (Line.cancelledOn (done ++ [a])) }) := by
      have own : v.orders = u.orders := by rw [hv, State.settleDeadman_eq]; rfl
      rw [own, hu, State.modifyLine_set order (by rw [Order.line?_map, hlo, Option.map_some, Line.cancelledOn_fresh hs fresh])]
      rw [h.frame, here]
      refine (Table.set_set _ _ _ _).trans (congrArg (fun lines => s.orders.set slot (some { o with lines := lines })) ?_)
      exact State.cancelledTo_lines kept saved ho active here hlo hs running
    have rest : v = { t with orders := v.orders, arms := v.arms, bay := v.bay } := by rw [hv, State.settleDeadman_eq, hu]; rfl
    rw [rest, orders]
    exact congrArg (fun w : State => { w with
      orders := s.orders.set slot (some { o with lines := o.lines.map (Line.cancelledOn (done ++ [a])) })
      arms := v.arms, bay := v.bay }) h.frame
  · rw [varm]
    by_cases hba : b = a
    · rw [if_pos hba, hba, arm]
    · rw [if_neg hba]
      exact h.closed b ((List.mem_append.mp hb).resolve_right fun e => hba (List.mem_singleton.mp e)) c
  · have hba : b ≠ a := fun e => hb ⟨e ▸ List.mem_append_right _ (.head _), e ▸ cancels⟩
    rw [varm, if_neg hba]
    exact h.same b fun c => hb ⟨List.mem_append_left _ c.1, c.2⟩
  · have bay : t.bayFollows v := by
      unfold State.bayFollows
      have flowing : ∀ w : State, (∃ b, (w.settleDeadman.arm b).state.flowing = true) ↔ ∃ b, (w.arm b).state.flowing = true :=
        fun w => by rw [State.settleDeadman_eq]; rfl
      rw [hv]
      simp only [flowing]
      rw [State.settleDeadman_eq, hu]
      rfl
    exact State.bayFollows_trans (Classical.or_iff_not_imp_left.mpr fun some => h.still fun c => some (h.follows c)) bay flows

end Step

/-- What each member of a table's index adds to the members before it holds of all, taken in order. -/
theorem foldl_finRange {n : Nat} {α : Type} {P : List (Fin n) → α → Prop} {f : α → Fin n → α} {s : α} (start : P [] s)
    (step : ∀ done t a, P done t → a ∉ done → P (done ++ [a]) (f t a)) :
    P (List.finRange n) ((List.finRange n).foldl f s) := by
  have all : ∀ (rest done : List (Fin n)) (t : α), P done t → (done ++ rest).Nodup → P (done ++ rest) (rest.foldl f t) := by
    intro rest
    induction rest with
    | nil =>
      intro done t h _
      rw [List.append_nil]
      exact h
    | cons a rest ih =>
      intro done t h distinct
      have fresh : a ∉ done := fun ha => (List.nodup_append.mp distinct).2.2 a ha a (.head _) rfl
      have split : done ++ a :: rest = (done ++ [a]) ++ rest := by rw [List.append_assoc]; rfl
      rw [split] at distinct ⊢
      exact ih (done ++ [a]) (f t a) (step done t a h fresh) distinct
  exact all (List.finRange n) [] s start (List.nodup_finRange n)

/-- The cancelling on every arm, seen from the state before. -/
theorem State.cancelActive_cancelledTo {s : State} {slot : Fin 24} {o : Order} (kept : s.linesKept) (saved : s.bay.saved = false)
    (ho : s.order slot = some o)
    (dosing : ∀ a ref, (s.arm a).active = some ref → ref.slot = slot → (s.arm a).dosing = none) :
    s.cancelledTo (s.cancelActive slot) slot o (List.finRange 6) := by
  rw [State.cancelActive_eq]
  refine foldl_finRange (P := fun done t => s.cancelledTo t slot o done) (State.cancelledTo_nil ho) fun done t a h fresh => ?_
  by_cases c : s.cancels slot a
  · exact State.cancelledTo_closes kept saved ho h fresh c (dosing a)
  · exact State.cancelledTo_idle kept saved ho h fresh c

/-- A line of the order when its cancelling is done. -/
theorem Line.neverStarted_cancelledOn (l : Line) : (l.cancelledOn (List.finRange 6)).neverStarted =
    if l.isWaiting = true then { l with state := .ended, result := some .notLoaded }
    else if l.isRunning = true then l.cancelled else l := by
  rw [Line.cancelledOn_all]
  by_cases running : l.isRunning = true
  · have active : l.isWaiting = false := by
      cases hs : l.state <;> simp_all [Line.isRunning, Line.isActive, Line.isWaiting]
    have active' : l.cancelled.isWaiting = false := active
    simp [Line.neverStarted, running, active, active']
  · simp [Line.neverStarted, running]

/-- The order waits in CLOSING, its lines cancelled, and its queued starts are dropped. -/
theorem State.cancelledTo_waits {s m : State} {slot : Fin 24} {o : Order} (h : s.cancelledTo m slot o (List.finRange 6)) :
    m.cancelWaits slot = { s with
      orders := s.orders.set slot (some { o with
        state := .closing
        lines := o.lines.map (fun l =>
          if l.isWaiting = true then { l with state := .ended, result := some .notLoaded }
          else if l.isRunning = true then l.cancelled else l) })
      arms := m.arms, bay := m.bay } := by
  have order : m.order slot = some { o with lines := o.lines.map (Line.cancelledOn (List.finRange 6)) } := by
    rw [h.frame]
    exact Table.get_set_self _ _ _
  have lines : (o.lines.map (Line.cancelledOn (List.finRange 6))).map Line.neverStarted = o.lines.map (fun l =>
      if l.isWaiting = true then { l with state := .ended, result := some .notLoaded }
      else if l.isRunning = true then l.cancelled else l) := by
    rw [List.map_map]
    exact List.map_congr_left fun l _ => l.neverStarted_cancelledOn
  have orders : ∀ x, m.orders.set slot x = s.orders.set slot x := fun x => by
    rw [h.frame]
    exact Table.set_set _ _ _ _
  rw [State.cancelWaits, State.modifyOrder_eq order, orders]
  simp only [Order.endWaiting, lines]
  rw [h.frame]

theorem State.cancelledTo_queued {s m : State} {slot : Fin 24} {o : Order} {done : List (Fin 6)}
    (h : s.cancelledTo m slot o done) (a : Fin 6) : (m.arm a).queued = (s.arm a).queued := by
  by_cases c : a ∈ done ∧ s.cancels slot a
  · rw [h.closed a c.1 c.2]
    rfl
  · rw [h.same a c]

theorem Arm.undropped_state (x : Arm) (num : Nat) : (x.undropped num).state = x.state := by
  unfold Arm.undropped
  split <;> rfl

/-- A running line of the order is one of an arm that cancels. -/
theorem State.cancels_iff {s : State} {slot : Fin 24} {o : Order} (kept : s.linesKept) (saved : s.bay.saved = false)
    (ho : s.order slot = some o) : (∃ l ∈ o.lines, l.isRunning = true) ↔ ∃ a ∈ List.finRange 6, s.cancels slot a := by
  constructor
  · rintro ⟨l, hl, running⟩
    cases hs : l.state with
    | active a => exact ⟨a, List.mem_finRange a, State.cancels_running kept saved ho hl running hs⟩
    | waiting => simp [Line.isRunning, Line.isActive, hs] at running
    | ended => simp [Line.isRunning, Line.isActive, hs] at running
  · rintro ⟨a, -, ref, active, here, running⟩
    obtain ⟨l, hl, -⟩ := (kept.2 saved).1 a ref active
    rw [State.running, State.activeLine_of active, hl] at running
    obtain ⟨o', ho', hlo⟩ := (s.lineAt_iff ref l).mp hl
    rw [here, ho] at ho'
    cases ho'
    exact ⟨l, List.mem_of_getElem? (Order.line?_some hlo), running⟩

/-! ### CANCEL ORDER (R35, R36) -/

theorem cancelOrder_closing {s : State} {slot : Fin 24} {o : Order} (ho : s.onlyOrder o.number slot o)
    (hs : o.state = .closing) : cancelOrder o.number s = s.refuse .wrongState := by
  simp only [cancelOrder, State.orderFound ho, hs]

theorem cancelOrder_posted {s : State} {slot : Fin 24} {o : Order} (ho : s.onlyOrder o.number slot o)
    (hs : o.state = .posted) : cancelOrder o.number s = ((s.setOrder slot none).dropQueuedOf o.number).ok [] := by
  simp only [cancelOrder, State.orderFound ho, hs]

theorem cancelOrder_claimed {s : State} {slot : Fin 24} {o : Order} {e : Fin 200} {q : Permit}
    (ho : s.onlyOrder o.number slot o) (hs : o.state = .claimed) (hc : o.claimPermit = some q.number)
    (hq : s.onlyPermit q.number e q) : cancelOrder o.number s =
      ((({ s with permits := s.permits.set e (some { q with claim := none }) } : State).setOrder slot none).dropQueuedOf
        o.number).ok [] := by
  simp only [cancelOrder, State.orderFound ho, hs, hc, State.endClaim_set hq]

theorem cancelOrder_loading {s : State} {slot : Fin 24} {o : Order} (ho : s.onlyOrder o.number slot o)
    (hs : o.state = .loading) (active : ∃ l ∈ o.lines, l.isActive = true) :
    cancelOrder o.number s = (s.cancelLoading slot o.number).ok [] := by
  have any : o.lines.any Line.isActive = true := List.any_eq_true.mpr active
  simp only [cancelOrder, State.orderFound ho, hs, any, if_true]

end Sys2Proof.Machine
end

section
namespace Sys2Proof.Proofs
open Sys2Proof Sys2Proof.Machine

/-- Settles O22: by the order's state, and in LOADING arm by arm. -/
theorem cancelOrder : Obligations.CancelOrder := by
  unfold Obligations.CancelOrder
  intro tag s slot o h only
  have loads : o.state = .loading → (∃ l ∈ o.lines, l.isActive = true) →
      exec (.cancelOrder .terminal tag o.number) s =
        .next ((((s.cancelActive slot).cancelWaits slot).dropQueuedOf o.number).answered .terminal tag 0x2E#8 []) :=
    fun hs active => by
      have cancelled := cancelOrder_loading (s := s.heard .terminal) only hs active
      rw [State.cancelLoading_heard, State.cancelLoading_eq] at cancelled
      exact congrArg Host.Outcome.next (State.frame_answered h rfl cancelled)
  refine ⟨fun hs => ?_, fun hs => ?_, fun e q hs hc hq => ?_, fun hs active stand doses => ?_,
    fun hs active kept saved dosing => ?_⟩
  · exact congrArg Host.Outcome.next (State.frame_refused h rfl (cancelOrder_closing (s := s.heard .terminal) only hs))
  · have cancelled := cancelOrder_posted (s := s.heard .terminal) only hs
    rw [State.setOrder_heard, State.dropQueuedOf_heard] at cancelled
    exact ⟨_, congrArg Host.Outcome.next (State.frame_answered h rfl cancelled), State.dropQueuedOf_frame _ _,
      State.startsDropped_dropQueuedOf (s.setOrder slot none) o.number⟩
  · obtain ⟨u, hu⟩ : ∃ u : State, u = { s with permits := s.permits.set e (some { q with claim := none }) } := ⟨_, rfl⟩
    have cancelled := cancelOrder_claimed (s := s.heard .terminal) only hs hc hq
    have heard : ({ s.heard .terminal with
        permits := (s.heard .terminal).permits.set e (some { q with claim := none }) } : State) = u.heard .terminal := by
      rw [hu]
      rfl
    rw [heard, State.setOrder_heard, State.dropQueuedOf_heard, hu] at cancelled
    exact ⟨_, congrArg Host.Outcome.next (State.frame_answered h rfl cancelled), State.dropQueuedOf_frame _ _,
      State.startsDropped_dropQueuedOf (State.setOrder _ slot none) o.number⟩
  · obtain ⟨m, hm⟩ : ∃ m, m = s.cancelActive slot := ⟨_, rfl⟩
    have run := loads hs active
    rw [← hm] at run
    refine ⟨m, _, ?_, run, State.dropQueuedOf_frame (m.cancelWaits slot) o.number,
      State.startsDropped_dropQueuedOf (m.cancelWaits slot) o.number⟩
    rw [hm, State.cancelActive_eq]
    exact State.cancelsAll_foldl slot _ (List.nodup_finRange 6) s fun a _ => ⟨stand a, doses a⟩
  · have done := State.cancelActive_cancelledTo kept saved only.1 dosing
    have run := loads hs active
    obtain ⟨m, hm⟩ : ∃ m, m = s.cancelActive slot := ⟨_, rfl⟩
    rw [← hm] at done run
    obtain ⟨u, hu⟩ : ∃ u, u = m.cancelWaits slot := ⟨_, rfl⟩
    have waits := State.cancelledTo_waits done
    rw [← hu] at waits run
    obtain ⟨arms, drops, raises⟩ := State.startsDropped_dropQueuedOf u o.number
    have frame := State.dropQueuedOf_frame u o.number
    obtain ⟨t, ht⟩ : ∃ t, t = u.dropQueuedOf o.number := ⟨_, rfl⟩
    rw [← ht] at arms drops raises frame run
    have uarm : ∀ a, u.arm a = m.arm a := fun a => by rw [waits]; rfl
    have bay : t.bay = m.bay := by rw [frame, waits]
    have queued : ∀ a, (u.arm a).queued = (s.arm a).queued := fun a => by rw [uarm, State.cancelledTo_queued done]
    have follows : s.bayFollows m → s.bayFollows t := fun f => by
      have state : ∀ b, (t.arm b).state = (m.arm b).state := fun b => by
        rw [arms, ← uarm]
        exact Arm.undropped_state _ _
      unfold State.bayFollows at f ⊢
      simp only [bay, state]
      exact f
    refine ⟨t, run, ?_, ?_, fun a => ?_, ?_, fun a q hq hn => drops a q (by rw [queued, hq]) hn⟩
    · refine frame.trans ?_
      rw [bay, waits]
      rfl
    · have some := State.cancels_iff kept saved only.1
      split
      · next c => exact follows (done.follows (some.mp c))
      · next c => exact bay.trans (done.still fun d => c (some.mpr d))
    · have arm : u.arm a = if ∃ ref, (s.arm a).active = some ref ∧ ref.slot = slot ∧ s.running a = true
          then (s.arm a).closedForLineEnd else s.arm a := by
        rw [uarm]
        split
        · next c => exact done.closed a (List.mem_finRange a) c
        · next c => exact done.same a fun d => c d.2
      rw [arms, arm]
    · refine State.raisesOnly_from (u := u) (State.raisesOnly_mono raises ?_) ?_ ?_ ?_
      · rintro k subject ⟨hk, a, q, hq, hn, hsub⟩
        exact ⟨hk, a, q, by rw [← queued, hq], hn, hsub⟩
      all_goals rw [waits]
      rfl

end Sys2Proof.Proofs
end

section
/-! A warm restart (R38, R182), and a frame heard on a port. -/

namespace Sys2Proof.Machine

theorem State.modifyActiveLine_heard (s : State) (p : PortId) (a : Fin 6) (f : Line → Line) :
    (s.heard p).modifyActiveLine a f = (s.modifyActiveLine a f).heard p := by
  unfold State.modifyActiveLine
  rw [State.arm_heard]
  split
  · exact s.modifyLine_heard p _ f
  · rfl

theorem State.activeLine_heard (s : State) (p : PortId) (a : Fin 6) : (s.heard p).activeLine a = s.activeLine a := by
  cases p <;> rfl

theorem State.fixDosing_heard (s : State) (p : PortId) (a : Fin 6) (quiet : Bool) :
    (s.heard p).fixDosing a quiet = (s.fixDosing a quiet).heard p := by
  cases hd : (s.arm a).dosing with
  | none => simp only [State.fixDosing, State.arm_heard, hd]
  | some r =>
    have hd' : ((s.heard p).arm a).dosing = some r := by rw [State.arm_heard, hd]
    rw [State.fixDosing_of hd, State.fixDosing_of hd']
    dsimp only
    rw [State.idleEngaged_heard, State.modifyActiveLine_heard, State.modifyArm_heard, State.raiseIf_heard,
      State.activeLine_heard]

theorem State.decideOverrun_heard (s : State) (p : PortId) (a : Fin 6) :
    (s.heard p).decideOverrun a = (s.decideOverrun a).heard p := by
  unfold State.decideOverrun
  rw [State.activeLine_heard]
  split
  · rfl
  · dsimp only
    rw [State.arm_heard, State.modifyActiveLine_heard, State.modifyArm_heard]

theorem State.fixLine_heard (s : State) (p : PortId) (a : Fin 6) (quiet : Bool) :
    (s.heard p).fixLine a quiet = (s.fixLine a quiet).heard p := by
  have readings : (s.heard p).readings a = s.readings a := by cases p <;> rfl
  rw [State.fixLine, readings, State.modifyActiveLine_heard, State.fixDosing_heard, State.decideOverrun_heard, State.fixLine]

theorem State.abandonDosing_heard (s : State) (p : PortId) (a : Fin 6) :
    (s.heard p).abandonDosing a = (s.abandonDosing a).heard p := by
  rw [State.abandonDosing_eq, State.abandonDosing_eq, State.idleEngaged_heard, State.modifyArm_heard]

theorem State.takeLine_heard (s : State) (p : PortId) (a : Fin 6) (quiet : Bool) :
    (s.heard p).takeLine a quiet = (s.takeLine a quiet).heard p := by
  unfold State.takeLine
  rw [State.arm_heard]
  split
  · rw [State.abandonDosing_heard, State.fixLine_heard, State.modifyArm_heard]
  · rfl

theorem State.restartLine_heard (s : State) (p : PortId) (a : Fin 6) (ref : LineRef) :
    (s.heard p).restartLine a ref = (s.restartLine a ref).heard p := by
  rw [State.restartLine, State.takeLine_heard, State.modifyLine_heard, State.restartLine]

/-- The line of the order in a slot that is active on an arm, ended at a restart. -/
def State.restartOn (s : State) (slot : Fin 24) (a : Fin 6) : State :=
  match (s.arm a).active with
  | some ref => if ref.slot = slot then s.restartLine a ref else s
  | none => s

/-- The ACTIVE lines of the order in a slot, ended at a restart. -/
def State.restartLines (s : State) (slot : Fin 24) : State := (List.finRange 6).foldl (fun t a => t.restartOn slot a) s

theorem State.restartSlot_of {s : State} {slot : Fin 24} {o : Order} (ho : s.order slot = some o)
    (hs : o.state = .loading ∨ o.state = .closing) :
    s.restartSlot slot = ((s.restartLines slot).modifyOrder slot Order.endWaiting).closeQuietly slot .restart := by
  rw [State.restartLines, ← armList_eq_finRange]
  simp only [State.restartSlot, ho, if_pos hs]
  rfl

theorem State.restartSlot_open {s : State} {slot : Fin 24} {o : Order} (ho : s.order slot = some o)
    (hs : ¬ (o.state = .loading ∨ o.state = .closing)) :
    s.restartSlot slot = (s.endClaim o.claimPermit).setOrder slot none := by
  simp only [State.restartSlot, ho, if_neg hs]

theorem State.restartSlot_free {s : State} {slot : Fin 24} (ho : s.order slot = none) : s.restartSlot slot = s := by
  simp only [State.restartSlot, ho]

theorem State.restartOn_heard (s : State) (p : PortId) (slot : Fin 24) (a : Fin 6) :
    (s.heard p).restartOn slot a = (s.restartOn slot a).heard p := by
  unfold State.restartOn
  rw [State.arm_heard]
  split
  · split
    · exact s.restartLine_heard p a _
    · rfl
  · rfl

theorem State.restartLines_heard (s : State) (p : PortId) (slot : Fin 24) :
    (s.heard p).restartLines slot = (s.restartLines slot).heard p :=
  List.foldl_hom (fun t : State => t.heard p) fun t a => t.restartOn_heard p slot a

theorem State.closeQuietly_heard (s : State) (p : PortId) (slot : Fin 24) (cause : CloseCause) :
    (s.heard p).closeQuietly slot cause = (s.closeQuietly slot cause).heard p := by
  cases ho : s.order slot with
  | none => simp only [State.closeQuietly, State.order_heard, ho]
  | some o =>
    rw [State.closeQuietly_eq ho, State.closeQuietly_eq ((s.order_heard p slot).trans ho)]
    simp only [State.closing, State.compose_heard, State.endClaim_heard, State.dropQueuedOf_heard, State.setOrder_heard]

theorem State.restartSlot_heard (s : State) (p : PortId) (slot : Fin 24) :
    (s.heard p).restartSlot slot = (s.restartSlot slot).heard p := by
  cases ho : s.order slot with
  | none => rw [State.restartSlot_free ho, State.restartSlot_free ((s.order_heard p slot).trans ho)]
  | some o =>
    have ho' : (s.heard p).order slot = some o := (s.order_heard p slot).trans ho
    by_cases hs : o.state = .loading ∨ o.state = .closing
    · rw [State.restartSlot_of ho hs, State.restartSlot_of ho' hs, State.restartLines_heard, State.modifyOrder_heard,
        State.closeQuietly_heard]
    · rw [State.restartSlot_open ho hs, State.restartSlot_open ho' hs, State.endClaim_heard, State.setOrder_heard]

theorem State.restartBlocks_heard (s : State) (p : PortId) : (s.heard p).restartBlocks = s.restartBlocks.heard p := by
  have closed : slotList.foldl State.restartSlot (s.heard p) = (slotList.foldl State.restartSlot s).heard p :=
    List.foldl_hom (fun t : State => t.heard p) fun t slot => t.restartSlot_heard p slot
  rw [State.restartBlocks, State.restartBlocks, closed, ← (beside_heard p).settleDeadman]
  refine congrArg State.settleDeadman ?_
  generalize slotList.foldl State.restartSlot s = closed
  cases p <;> rfl

theorem State.restart_heard (s : State) (p : PortId) : (s.heard p).restart = s.restart.heard p := by
  have slots : (s.heard p).closingSlots = s.closingSlots := by
    simp only [State.closingSlots, State.order_heard]
  have announce : ∀ t : State, s.closingSlots.foldl State.announceClose (t.heard p) =
      (s.closingSlots.foldl State.announceClose t).heard p := fun t =>
    List.foldl_hom (fun t : State => t.heard p) fun t slot => by
      simp only [State.announceClose, State.raise_heard]
  rw [State.restart, State.restart, slots, State.restartBlocks_heard, ← announce]
  refine congrArg (fun t : State => s.closingSlots.foldl State.announceClose t) ?_
  generalize s.restartBlocks = blocks
  cases p <;> rfl

end Sys2Proof.Machine
end

section
/-! The ACTIVE lines of an order end at a warm restart, arm by arm (R38). -/

namespace Sys2Proof.Machine

/-! ### One line ends (R38, R93, R142, R157) -/

/-- The line `l` of arm `a`, ended at a restart with its record fixed. -/
def State.restarted (s : State) (a : Fin 6) (l : Line) : Line :=
  { s.fixed a l with state := .ended, result := some (l.result.getD .aborted) }

/-- The arm whose line has ended at a restart. -/
def Arm.unloaded (x : Arm) (l : Line) : Arm := (x.lineFixed l).releaseLine

/-- The injector with its verify window stopped. -/
def Injector.idle (x : Injector) : Injector := { x with window := none }

theorem State.idleEngaged_injectors (s : State) (a : Fin 6) :
    (s.idleEngaged a).injectors.map Injector.idle = s.injectors.map Injector.idle := by
  unfold State.idleEngaged
  dsimp only
  split
  · refine Table.ext_get fun j => ?_
    rw [Table.get_map, Table.get_map, Table.get_modify]
    split <;> rfl
  · rfl

theorem State.raisesOnly_raiseIf (s : State) (c : Bool) (k : NoticeKind) (subject : Nat) :
    s.raisesOnly (s.raiseIf c k subject) (fun _ _ => True) := by
  cases c
  · exact s.raisesOnly_refl _
  · exact State.raisesOnly_mono (s.raisesOnly_raise k subject) fun _ _ _ => trivial

/-- The line of an arm ends at a restart, as one state. -/
theorem State.restartLine_eq {s : State} {a : Fin 6} {ref : LineRef} {l : Line} (h : (s.arm a).active = some ref)
    (hl : s.lineAt ref = some l) : s.restartLine a ref =
      (((s.idleEngaged a).modifyLine ref (fun _ => s.restarted a l)).modifyArm a (fun x => x.unloaded l)).raiseIf
        ((s.arm a).strays l.record.gv) .doseDeviation (number a) := by
  have commute : ∀ (t : State) f g, (t.modifyArm a f).modifyLine ref g = (t.modifyLine ref g).modifyArm a f := fun _ _ _ => rfl
  have taken : s.takeLine a false = (s.fixLine a false).modifyArm a Arm.releaseLine := by
    rw [State.takeLine, h, State.fixLine_abandonDosing h hl]
    rfl
  rw [State.restartLine, taken, State.fixLine_eq h hl, Bool.not_false, Bool.and_true, State.raiseIf_modifyArm,
    State.raiseIf_modifyLine, commute, commute, State.modifyArm_modifyArm, State.modifyLine_modifyLine]
  rfl

/-! ### The lines of one order -/

/-- The order in a slot and the arms agree on the lines that are ACTIVE. -/
structure State.carriesOrder (s : State) (slot : Fin 24) (o : Order) : Prop where
  carried : ∀ a ref, (s.arm a).active = some ref → ref.slot = slot → ∃ l, o.line? ref.line = some l ∧ l.state = .active a
  loaded : ∀ k l a, o.line? k = some l → l.state = .active a → (s.arm a).active = some ⟨slot, k⟩

/-- A line of the order when the lines active on these arms have ended. -/
def State.endedOn (s : State) (arms : List (Fin 6)) (l : Line) : Line :=
  match l.state with
  | .active a => if a ∈ arms then s.restarted a l else l
  | .waiting => l
  | .ended => l

theorem State.endedOn_active (s : State) {l : Line} {a : Fin 6} (h : l.state = .active a) (arms : List (Fin 6)) :
    s.endedOn arms l = if a ∈ arms then s.restarted a l else l := by simp only [State.endedOn, h]

theorem State.endedOn_other (s : State) {l : Line} {a : Fin 6} (h : l.state ≠ .active a) (arms : List (Fin 6)) :
    s.endedOn (arms ++ [a]) l = s.endedOn arms l := by
  cases hs : l.state with
  | waiting => simp only [State.endedOn, hs]
  | ended => simp only [State.endedOn, hs]
  | active b =>
    have other : b ≠ a := fun e => h (e ▸ hs)
    simp [State.endedOn, hs, other]

theorem State.endedOn_nil (s : State) (l : Line) : s.endedOn [] l = l := by
  unfold State.endedOn
  split <;> simp

/-- The arm carries a line of the order in this slot. -/
def Arm.carries (x : Arm) (slot : Fin 24) : Prop := ∃ ref, x.active = some ref ∧ ref.slot = slot

/-- The restart of one order's lines on these arms, seen from the state before. -/
structure State.endedTo (s t : State) (slot : Fin 24) (o : Order) (done : List (Fin 6)) : Prop where
  frame : t = { s with
    orders := s.orders.set slot (some { o with lines := o.lines.map (s.endedOn done) })
    arms := t.arms, injectors := t.injectors, terminal := t.terminal, console := t.console }
  unloaded : ∀ a ∈ done, ∀ ref l, (s.arm a).active = some ref → ref.slot = slot → o.line? ref.line = some l →
    t.arm a = (s.arm a).unloaded l
  same : ∀ a, ¬ (a ∈ done ∧ (s.arm a).carries slot) → t.arm a = s.arm a
  injectors : t.injectors.map Injector.idle = s.injectors.map Injector.idle
  raises : s.raisesOnly t (fun _ _ => True)

theorem State.endedTo_nil {s : State} {slot : Fin 24} {o : Order} (ho : s.order slot = some o) : s.endedTo s slot o [] := by
  have lines : o.lines.map (s.endedOn []) = o.lines := by
    rw [show s.endedOn [] = id from funext s.endedOn_nil, List.map_id]
  refine ⟨?_, fun a h => absurd h List.not_mem_nil, fun _ _ => rfl, rfl, s.raisesOnly_refl _⟩
  rw [lines]
  have ho : s.orders.get slot = some o := ho
  rw [← ho, Table.set_get_self]

section Step

variable {s t : State} {slot : Fin 24} {o : Order} {done : List (Fin 6)} {a : Fin 6} (carries : s.carriesOrder slot o)
  (h : s.endedTo t slot o done) (fresh : a ∉ done)

include carries h fresh in
/-- An arm that carries no line of the order moves nothing. -/
theorem State.endedTo_idle (idle : ¬ (s.arm a).carries slot) : s.endedTo (t.restartOn slot a) slot o (done ++ [a]) := by
  have arm := h.same a fun c => fresh c.1
  have still : t.restartOn slot a = t := by
    unfold State.restartOn
    rw [arm]
    split
    · next ref active => exact if_neg fun c => idle ⟨ref, active, c⟩
    · rfl
  have lines : o.lines.map (s.endedOn (done ++ [a])) = o.lines.map (s.endedOn done) := by
    refine List.map_congr_left fun l hl => s.endedOn_other (fun hs => idle ?_) done
    obtain ⟨i, hi⟩ := List.mem_iff_getElem?.mp hl
    exact ⟨⟨slot, i + 1⟩, carries.loaded (i + 1) l a hi hs, rfl⟩
  rw [still]
  refine ⟨by rw [lines]; exact h.frame, fun b hb ref l active here hl => ?_, fun b hb => ?_, h.injectors, h.raises⟩
  · refine h.unloaded b ((List.mem_append.mp hb).resolve_right fun e => ?_) ref l active here hl
    exact idle (List.mem_singleton.mp e ▸ ⟨ref, active, here⟩)
  · exact h.same b fun c => hb ⟨List.mem_append_left _ c.1, c.2⟩

include carries in
/-- The line of one arm more, written in its place. -/
theorem State.endedTo_lines {ref : LineRef} {l : Line} (active : (s.arm a).active = some ref) (here : ref.slot = slot)
    (hl : o.line? ref.line = some l) (hs : l.state = .active a) :
    (o.lines.map (s.endedOn done)).set (ref.line - 1) (s.restarted a l) = o.lines.map (s.endedOn (done ++ [a])) := by
  have pos := Order.line?_pos hl
  have found := Order.line?_some hl
  refine List.ext_getElem? fun i => ?_
  rw [List.getElem?_set, List.getElem?_map, List.getElem?_map, List.length_map]
  by_cases hi : ref.line - 1 = i
  · subst hi
    rw [if_pos rfl, if_pos (List.getElem?_eq_some_iff.mp found).1, found, Option.map_some, s.endedOn_active hs,
      if_pos (List.mem_append_right _ (.head _))]
  · rw [if_neg hi]
    cases hm : o.lines[i]? with
    | none => rfl
    | some m =>
      refine congrArg some (s.endedOn_other (fun hs' => hi ?_) done).symm
      cases active.symm.trans (carries.loaded (i + 1) m a hm hs')
      rfl

include carries h fresh in
/-- An arm that carries a line of the order ends it. -/
theorem State.endedTo_ends (own : (s.arm a).carries slot) : s.endedTo (t.restartOn slot a) slot o (done ++ [a]) := by
  have arm := h.same a fun c => fresh c.1
  obtain ⟨ref, active, here⟩ := own
  obtain ⟨l, hl, hs⟩ := carries.carried a ref active here
  have active' : (t.arm a).active = some ref := by rw [arm, active]
  have order : t.order ref.slot = some { o with lines := o.lines.map (s.endedOn done) } := by
    rw [h.frame, here]
    exact Table.get_set_self _ _ _
  have line : ({ o with lines := o.lines.map (s.endedOn done) } : Order).line? ref.line = some l := by
    rw [Order.line?_map, hl, Option.map_some, s.endedOn_active hs, if_neg fresh]
  have restarted : t.restarted a l = s.restarted a l := by
    have store : t.store = s.store := by rw [h.frame]
    simp only [State.restarted, State.fixed, State.meterStore, arm, store]
  obtain ⟨u, hu⟩ : ∃ u, u = ((t.idleEngaged a).modifyLine ref (fun _ => s.restarted a l)).modifyArm a (fun x => x.unloaded l) :=
    ⟨_, rfl⟩
  have ends : t.restartOn slot a = u.raiseIf ((s.arm a).strays l.record.gv) .doseDeviation (number a) := by
    unfold State.restartOn
    rw [active']
    refine (if_pos here).trans ?_
    rw [State.restartLine_eq active' (State.lineAt_of order line), arm, restarted, hu]
  obtain ⟨v, hv⟩ : ∃ v, v = u.raiseIf ((s.arm a).strays l.record.gv) .doseDeviation (number a) := ⟨_, rfl⟩
  have varm : ∀ b, v.arm b = if b = a then (t.arm b).unloaded l else t.arm b := fun b => by
    rw [hv, State.arm_raiseIf, hu]
    exact State.arm_modifyArm _ a b _
  have moved : ∀ c k n, u.raiseIf c k n = { u with
      terminal := (u.raiseIf c k n).terminal, console := (u.raiseIf c k n).console } := fun c k n => by cases c <;> rfl
  have rest : v = { t with
      orders := u.orders, arms := v.arms, injectors := v.injectors, terminal := v.terminal, console := v.console } := by
    rw [hv, moved, hu]
    rfl
  have injectors : v.injectors = (t.idleEngaged a).injectors := by
    rw [hv, moved, hu]
    rfl
  have orders : u.orders = s.orders.set slot (some { o with lines := o.lines.map (s.endedOn (done ++ [a])) }) := by
    have set : u.orders = t.orders.set ref.slot (some { o with
        lines := (o.lines.map (s.endedOn done)).set (ref.line - 1) (s.restarted a l) }) := by
      rw [hu]
      exact congrArg State.orders (State.modifyLine_set (s := t.idleEngaged a) order line (fun _ => s.restarted a l))
    rw [set, State.endedTo_lines carries active here hl hs, h.frame, here]
    exact Table.set_set _ _ _ _
  rw [ends, ← hv]
  refine ⟨?_, fun b hb ref' l' active2 here2 hl2 => ?_, fun b hb => ?_, ?_, ?_⟩
  · rw [rest, orders]
    exact congrArg (fun w : State => { w with
      orders := s.orders.set slot (some { o with lines := o.lines.map (s.endedOn (done ++ [a])) })
      arms := v.arms, injectors := v.injectors, terminal := v.terminal, console := v.console }) h.frame
  · rw [varm]
    by_cases hba : b = a
    · subst hba
      cases active.symm.trans active2
      cases hl.symm.trans hl2
      rw [if_pos rfl, arm]
    · rw [if_neg hba]
      exact h.unloaded b ((List.mem_append.mp hb).resolve_right fun e => hba (List.mem_singleton.mp e)) ref' l' active2 here2 hl2
  · have hba : b ≠ a := fun e => hb ⟨e ▸ List.mem_append_right _ (.head _), e ▸ ⟨ref, active, here⟩⟩
    rw [varm, if_neg hba]
    exact h.same b fun c => hb ⟨List.mem_append_left _ c.1, c.2⟩
  · rw [injectors, State.idleEngaged_injectors, h.injectors]
  · refine State.raisesOnly_trans (t := t) (by rw [h.frame]; rfl) h.raises ?_
    rw [hv]
    exact State.raisesOnly_from (u := u) (u.raisesOnly_raiseIf _ _ _) (by rw [hu]; rfl) (by rw [hu]; rfl) (by rw [hu]; rfl)

end Step

/-- The ACTIVE lines of the order end on their arms. -/
theorem State.restartLines_endedTo {s : State} {slot : Fin 24} {o : Order} (ho : s.order slot = some o)
    (carries : s.carriesOrder slot o) : s.endedTo (s.restartLines slot) slot o (List.finRange 6) := by
  refine foldl_finRange (P := fun done t => s.endedTo t slot o done) (State.endedTo_nil ho) fun done t a h fresh => ?_
  by_cases c : (s.arm a).carries slot
  · exact State.endedTo_ends carries h fresh c
  · exact State.endedTo_idle carries h fresh c

end Sys2Proof.Machine
end

section
/-! One slot of the order table at a warm restart (R38, R164). -/

namespace Sys2Proof.Machine

/-- The arm without its queued start. -/
def Arm.unqueued (x : Arm) : Arm := { x with queued := none }

theorem Arm.undropped_unqueued (x : Arm) (num : Nat) : (x.undropped num).unqueued = x.unqueued := by
  unfold Arm.undropped
  split <;> rfl

/-- The order's note at a restart records its lines as they end. -/
def State.restartNote (s : State) (o : Order) (n : Note) : Prop :=
  n.records { o with lines := o.lines.map (s.endedOn (List.finRange 6)) } .restart s.clock

/-- A slot is freed at a restart: the order's lines end on their arms, its claim ends, and queued starts may be dropped. -/
structure State.slotFreed (s t : State) (slot : Fin 24) (o : Order) : Prop where
  frame : t = { s with
    permits := t.permits, orders := s.orders.set slot none, arms := t.arms, injectors := t.injectors, journal := t.journal
    terminal := t.terminal, console := t.console }
  unloaded : ∀ a ref l, (s.arm a).active = some ref → ref.slot = slot → o.line? ref.line = some l →
    (t.arm a).unqueued = ((s.arm a).unloaded l).unqueued
  same : ∀ a, ¬ (s.arm a).carries slot → (t.arm a).unqueued = (s.arm a).unqueued
  injectors : t.injectors.map Injector.idle = s.injectors.map Injector.idle
  permits : ∀ e, t.permits.get e = (s.permits.get e).map (Permit.released o.claimPermit)
  raises : s.raisesOnly t (fun _ _ => True)

/-- A LOADING or CLOSING order leaves its slot with a note. -/
theorem State.restartSlot_closes {s : State} {slot : Fin 24} {o : Order} (ho : s.order slot = some o)
    (hs : o.state = .loading ∨ o.state = .closing) (carries : s.carriesOrder slot o) :
    s.slotFreed (s.restartSlot slot) slot o ∧
      ∀ k, s.journal.nextSlot k → s.journal.gainsAt (s.restartSlot slot).journal k (s.restartNote o) := by
  have ended := State.restartLines_endedTo ho carries
  obtain ⟨e, he⟩ : ∃ e, e = s.restartLines slot := ⟨_, rfl⟩
  rw [← he] at ended
  have order : e.order slot = some { o with lines := o.lines.map (s.endedOn (List.finRange 6)) } := by
    rw [ended.frame]
    exact Table.get_set_self _ _ _
  obtain ⟨x, hx⟩ : ∃ x : Order, x = Order.endWaiting { o with lines := o.lines.map (s.endedOn (List.finRange 6)) } := ⟨_, rfl⟩
  obtain ⟨w, hw⟩ : ∃ w, w = e.modifyOrder slot Order.endWaiting := ⟨_, rfl⟩
  have worder : w.order slot = some x := by
    rw [hw, State.order_modifyOrder, if_pos rfl, order, hx]
    rfl
  have wframe : w = { s with
      orders := w.orders, arms := w.arms, injectors := w.injectors, terminal := w.terminal, console := w.console } := by
    rw [hw]
    exact congrArg (fun t : State => { t with orders := (e.modifyOrder slot Order.endWaiting).orders }) ended.frame
  have worders : w.orders.set slot none = s.orders.set slot none := by
    rw [hw, State.modifyOrder_eq order, ended.frame]
    exact (Table.set_set _ _ _ _).trans (Table.set_set _ _ _ _)
  obtain ⟨c, hc⟩ : ∃ c, c = (w.compose (x.closed .restart) .restart).endClaim x.claimPermit := ⟨_, rfl⟩
  have cframe : c = { w with journal := (w.compose (x.closed .restart) .restart).journal, permits := c.permits } := by
    rw [hc, w.compose_frame (x.closed .restart) .restart]
    rfl
  obtain ⟨d, hd⟩ : ∃ d, d = c.dropQueuedOf x.number := ⟨_, rfl⟩
  have dframe : d = { c with arms := d.arms, terminal := d.terminal, console := d.console } :=
    hd ▸ c.dropQueuedOf_frame x.number
  have closed : s.restartSlot slot = d.setOrder slot none := by
    rw [State.restartSlot_of ho hs, ← he, ← hw, State.closeQuietly_eq worder, State.closing, ← hc, ← hd]
  have arms : ∀ a, (d.arm a).unqueued = (e.arm a).unqueued := fun a => by
    rw [hd, State.arm_dropQueuedOf, Arm.undropped_unqueued, cframe, hw]
    rfl
  have journal : (d.setOrder slot none).journal = (w.compose (x.closed .restart) .restart).journal := by
    rw [dframe, cframe]
    rfl
  rw [closed]
  refine ⟨⟨?_, fun a ref l active here hl => ?_, fun a idle => ?_, ?_, fun f => ?_, ?_⟩, fun k hk => ?_⟩
  · have moved : d = { w with
        permits := d.permits, arms := d.arms, journal := d.journal, terminal := d.terminal, console := d.console } := by
      have permits : d.permits = c.permits := by rw [dframe]
      have dj : d.journal = (w.compose (x.closed .restart) .restart).journal := by rw [dframe, cframe]
      rw [permits, dj]
      exact dframe.trans (congrArg (fun t : State => { t with
        arms := d.arms, terminal := d.terminal, console := d.console }) cframe)
    have injectors : (d.setOrder slot none).injectors = w.injectors := by rw [moved]; rfl
    rw [injectors, ← worders]
    exact (congrArg (fun t : State => t.setOrder slot none) moved).trans (congrArg (fun t : State => { t with
      permits := d.permits, orders := w.orders.set slot none, arms := d.arms, journal := d.journal
      terminal := d.terminal, console := d.console }) wframe)
  · exact (arms a).trans (congrArg Arm.unqueued (ended.unloaded a (List.mem_finRange a) ref l active here hl))
  · exact (arms a).trans (congrArg Arm.unqueued (ended.same a fun c => idle c.2))
  · have injectors : (d.setOrder slot none).injectors = e.injectors := by
      rw [dframe, cframe, hw]
      rfl
    rw [injectors, ended.injectors]
  · have permits : (d.setOrder slot none).permits = c.permits := by
      rw [dframe]
      rfl
    have claim : x.claimPermit = o.claimPermit := by rw [hx]; rfl
    rw [permits, hc, State.endClaim_get, w.compose_frame, wframe, claim]
  · refine State.raisesOnly_trans (t := e) (by rw [ended.frame]; rfl) ended.raises ?_
    have drops : c.raisesOnly (d.setOrder slot none) (fun _ _ => True) :=
      State.raisesOnly_mono (hd ▸ c.raisesOnly_dropQueuedOf x.number) fun _ _ _ => trivial
    exact State.raisesOnly_from drops (by rw [cframe, hw]; rfl) (by rw [cframe, hw]; rfl) (by rw [cframe, hw]; rfl)
  · have wj : w.journal = s.journal := by rw [wframe]
    have clock : w.clock = s.clock := by rw [wframe]
    rw [journal, ← wj]
    refine State.compose_gainsAt (wj.symm ▸ hk) _ _ ?_
    rw [clock]
    exact noteOf_records (o := { o with lines := o.lines.map (s.endedOn (List.finRange 6)) }) (x := x.closed .restart)
      (g := Line.neverStarted) (by rw [hx]; rfl) (by rw [hx]; rfl) (by rw [hx]; rfl) (by rw [hx]; rfl) (by rw [hx]; rfl)
      (by rw [hx]; rfl) (fun l _ => noteLine_neverStarted_records l) _ _ _

/-- An order that has not begun to load leaves its slot without a note. -/
theorem State.restartSlot_clears {s : State} {slot : Fin 24} {o : Order} (ho : s.order slot = some o)
    (hs : ¬ (o.state = .loading ∨ o.state = .closing)) (idle : ∀ a, ¬ (s.arm a).carries slot) :
    s.slotFreed (s.restartSlot slot) slot o ∧ (s.restartSlot slot).journal = s.journal := by
  rw [State.restartSlot_open ho hs]
  refine ⟨⟨rfl, fun a ref l active here _ => absurd ⟨ref, active, here⟩ (idle a), fun _ _ => rfl, rfl,
    State.endClaim_get s _, fun p => ?_⟩, rfl⟩
  cases p
  · exact s.raisesOnly_refl (fun _ _ => True) .terminal
  · exact s.raisesOnly_refl (fun _ _ => True) .console

end Sys2Proof.Machine
end

section
/-! ### Room for the notes of a restart (R164, R166) -/

namespace Sys2Proof.Machine

/-- The composition order lists the slots that hold a note. -/
def Journal.listed (j : Journal) : Prop := ∀ k, k ∈ j.composition ↔ (j.slots.get k).isEmpty = false

/-- A journal that is not full of STORED notes has a slot for the next one. -/
theorem Journal.nextSlot_exists {j : Journal} (listed : j.listed) (room : j.slots.count JournalSlot.isStored < 48) :
    ∃ k, j.nextSlot k := by
  cases hf : j.slots.find? JournalSlot.isEmpty with
  | some k =>
    obtain ⟨empty, lowest⟩ := (Table.find?_eq_some _ _ _).mp hf
    exact ⟨k, .inl ⟨empty, fun i hi => by simpa using lowest i hi⟩⟩
  | none =>
    have full : ∀ i, (j.slots.get i).isEmpty = false := fun i => by simpa using (Table.find?_eq_none _ _).mp hf i
    have some : ∃ k, (j.slots.get k).isCollected = true := by
      by_contra none
      have stored : ∀ x ∈ j.slots.entries, x.isStored = true := fun x hx => by
        obtain ⟨i, rfl⟩ := (Table.mem_entries _ _).mp hx
        have hc : (j.slots.get i).isCollected = false := by simpa using not_exists.mp none i
        have he := full i
        cases h : j.slots.get i with
        | empty => simp [h, JournalSlot.isEmpty] at he
        | stored n => rfl
        | collected n => simp [h, JournalSlot.isCollected] at hc
      have all := List.countP_eq_length.mpr stored
      rw [j.slots.size] at all
      exact absurd room (by simp [Table.count, all])
    obtain ⟨k, hk⟩ := some
    cases hc : j.composition.find? (fun k => (j.slots.get k).isCollected) with
    | none => exact absurd hk (List.find?_eq_none.mp hc k ((listed k).mpr (full k)))
    | some m =>
      obtain ⟨collected, earlier, later, split, none⟩ := List.find?_eq_some_iff_append.mp hc
      exact ⟨m, .inr ⟨full, collected, earlier, later, split, fun i hi => by simpa using none i hi⟩⟩

/-- A journal that takes a note in the next slot lists it, and holds one STORED note more. -/
theorem Journal.gainsAt_listed {j t : Journal} {k : Fin 48} {good : Note → Prop} (listed : j.listed) (hk : j.nextSlot k)
    (h : j.gainsAt t k good) :
    t.listed ∧ t.slots.count JournalSlot.isStored = j.slots.count JournalSlot.isStored + 1 := by
  obtain ⟨n, -, -, rfl⟩ := h
  constructor
  · intro i
    rw [Table.get_set]
    by_cases hi : i = k
    · subst hi
      simp [JournalSlot.isEmpty]
    · simp [hi, listed i]
  · have unstored : (j.slots.get k).isStored = false := by
      rcases hk with ⟨empty, -⟩ | ⟨-, collected, -⟩
      · cases h : j.slots.get k <;> simp [h, JournalSlot.isEmpty, JournalSlot.isStored] at empty ⊢
      · cases h : j.slots.get k <;> simp [h, JournalSlot.isCollected, JournalSlot.isStored] at collected ⊢
    have count := Table.count_set j.slots JournalSlot.isStored k (.stored n)
    rw [unstored] at count
    simpa [JournalSlot.isStored] using count

/-- One note more. -/
theorem Journal.gainsAll_append {k : Fin 48} {good : Note → Prop} : ∀ (goods : List (Note → Prop)) {j m t : Journal},
    j.gainsAll m goods → m.nextSlot k → m.gainsAt t k good → j.gainsAll t (goods ++ [good])
  | [], _, _, _, h, hk, g => by
    cases h
    exact ⟨k, _, hk, g, rfl⟩
  | _ :: rest, _, _, _, ⟨i, n, hi, first, others⟩, hk, g => ⟨i, n, hi, first, Journal.gainsAll_append rest others hk g⟩

end Sys2Proof.Machine
end

section
/-! The order table at a warm restart, slot by slot (R38). -/

namespace Sys2Proof.Machine

/-- The order closes with a note at a restart. -/
def Order.closes (o : Order) : Bool := o.state == .loading || o.state == .closing

theorem Order.closes_iff (o : Order) : o.closes = true ↔ o.state = .loading ∨ o.state = .closing := by
  simp [Order.closes]

/-- The orders in these slots that close with a note at a restart. -/
def State.closers (s : State) (slots : List (Fin 24)) : List Order :=
  slots.filterMap (fun k => (s.order k).filter Order.closes)

/-- An order in one of these slots is claimed by the permit. -/
def State.claimedIn (s : State) (slots : List (Fin 24)) (q : Permit) : Prop :=
  ∃ k ∈ slots, ∃ o, s.order k = some o ∧ o.claimPermit = some q.number

theorem State.claimedIn_append {s : State} {slots : List (Fin 24)} {slot : Fin 24} {o : Order} (ho : s.order slot = some o)
    (q : Permit) : s.claimedIn (slots ++ [slot]) q ↔ s.claimedIn slots q ∨ o.claimPermit = some q.number := by
  simp only [State.claimedIn, List.mem_append, List.mem_singleton]
  constructor
  · rintro ⟨k, hk | rfl, p, hp, hc⟩
    · exact .inl ⟨k, hk, p, hp, hc⟩
    · cases ho.symm.trans hp
      exact .inr hc
  · rintro (⟨k, hk, p, hp, hc⟩ | hc)
    · exact ⟨k, .inl hk, p, hp, hc⟩
    · exact ⟨slot, .inr rfl, o, ho, hc⟩

/-- The restart of these slots, seen from the state before. -/
structure State.restartedTo (s t : State) (done : List (Fin 24)) : Prop where
  frame : t = { s with
    permits := t.permits, orders := t.orders, arms := t.arms, injectors := t.injectors, journal := t.journal
    terminal := t.terminal, console := t.console }
  orders : ∀ k, t.order k = if k ∈ done then none else s.order k
  unloaded : ∀ a ref l, (s.arm a).active = some ref → ref.slot ∈ done → s.lineAt ref = some l →
    (t.arm a).unqueued = ((s.arm a).unloaded l).unqueued
  same : ∀ a, (∀ ref, (s.arm a).active = some ref → ref.slot ∉ done) → (t.arm a).unqueued = (s.arm a).unqueued
  injectors : t.injectors.map Injector.idle = s.injectors.map Injector.idle
  absent : ∀ e, s.permits.get e = none → t.permits.get e = none
  released : ∀ e q, s.permits.get e = some q → s.claimedIn done q → t.permits.get e = some { q with claim := none }
  held : ∀ e q, s.permits.get e = some q → ¬ s.claimedIn done q → t.permits.get e = some q
  raises : s.raisesOnly t (fun _ _ => True)

theorem State.restartedTo_nil (s : State) : s.restartedTo s [] := by
  refine ⟨rfl, fun k => (if_neg List.not_mem_nil).symm, fun a ref l _ h => absurd h List.not_mem_nil, fun _ _ => rfl, rfl,
    fun _ => id, fun e q _ ⟨k, hk, _⟩ => absurd hk List.not_mem_nil, fun _ _ hq _ => hq, s.raisesOnly_refl _⟩

section Step

variable {s t : State} {done : List (Fin 24)} {slot : Fin 24} (kept : s.linesKept) (saved : s.bay.saved = false)
  (h : s.restartedTo t done) (fresh : slot ∉ done)

include kept saved h in
/-- An arm that still carries a line is as it was. -/
theorem State.restartedTo_active {a : Fin 6} {ref : LineRef} (active : (t.arm a).active = some ref) :
    (s.arm a).active = some ref ∧ ref.slot ∉ done ∧ (t.arm a).unqueued = (s.arm a).unqueued := by
  by_cases c : ∃ r, (s.arm a).active = some r ∧ r.slot ∈ done
  · obtain ⟨r, hr, hd⟩ := c
    obtain ⟨l, hl, -⟩ := (kept.2 saved).1 a r hr
    have freed : (t.arm a).active = none := congrArg (fun x : Arm => x.active) (h.unloaded a r l hr hd hl)
    exact absurd (freed.symm.trans active) nofun
  · have same := h.same a fun r hr hd => c ⟨r, hr, hd⟩
    have active' : (s.arm a).active = some ref := (congrArg (fun x : Arm => x.active) same).symm.trans active
    exact ⟨active', fun hd => c ⟨ref, active', hd⟩, same⟩

include h in
theorem State.restartedTo_unreached {a : Fin 6} {ref : LineRef} (active : (s.arm a).active = some ref) (hd : ref.slot ∉ done) :
    (t.arm a).unqueued = (s.arm a).unqueued :=
  h.same a fun r hr => by cases active.symm.trans hr; exact hd

include h fresh in
theorem State.restartedTo_order : t.order slot = s.order slot := by rw [h.orders, if_neg fresh]

include kept saved h fresh in
theorem State.restartedTo_carriesOrder {o : Order} (ho : s.order slot = some o) : t.carriesOrder slot o := by
  refine ⟨fun a ref active here => ?_, fun k l a hl hs => ?_⟩
  · obtain ⟨active', -⟩ := State.restartedTo_active kept saved h active
    obtain ⟨l, hl, hs, -⟩ := (kept.2 saved).1 a ref active'
    obtain ⟨o', ho', hlo⟩ := (s.lineAt_iff ref l).mp hl
    rw [here, ho] at ho'
    cases ho'
    exact ⟨l, hlo, hs⟩
  · have active := (((kept.2 saved).2 slot o k l ho hl).2 a hs).1
    have same := State.restartedTo_unreached h active fresh
    exact (congrArg (fun x : Arm => x.active) same).trans active

include kept saved h in
/-- Only an order that closes has its lines on arms. -/
theorem State.restartedTo_idle {o : Order} (ho : s.order slot = some o) (hs : ¬ (o.state = .loading ∨ o.state = .closing))
    (a : Fin 6) : ¬ (t.arm a).carries slot := by
  rintro ⟨ref, active, here⟩
  obtain ⟨active', -⟩ := State.restartedTo_active kept saved h active
  obtain ⟨l, hl, hsl, -⟩ := (kept.2 saved).1 a ref active'
  obtain ⟨o', ho', hlo⟩ := (s.lineAt_iff ref l).mp hl
  rw [here, ho] at ho'
  cases ho'
  exact hs (((kept.2 saved).2 slot o ref.line l ho hlo).2 a hsl).2.1

include kept saved h in
/-- A free slot is passed over. -/
theorem State.restartedTo_free (ho : s.order slot = none) : s.restartedTo t (done ++ [slot]) := by
  have unloaded : ∀ a ref, (s.arm a).active = some ref → ref.slot ∈ done ++ [slot] → ref.slot ∈ done := fun a ref active hd => by
    refine (List.mem_append.mp hd).resolve_right fun e => ?_
    obtain ⟨l, hl, -⟩ := (kept.2 saved).1 a ref active
    obtain ⟨o, ho', -⟩ := (s.lineAt_iff ref l).mp hl
    rw [List.mem_singleton.mp e, ho] at ho'
    cases ho'
  have claimed : ∀ q, s.claimedIn (done ++ [slot]) q → s.claimedIn done q := by
    rintro q ⟨k, hk, o, hko, hc⟩
    refine ⟨k, (List.mem_append.mp hk).resolve_right fun e => ?_, o, hko, hc⟩
    rw [List.mem_singleton.mp e, ho] at hko
    cases hko
  refine ⟨h.frame, fun k => ?_, fun a ref l active hd hl => h.unloaded a ref l active (unloaded a ref active hd) hl,
    fun a hd => h.same a fun ref active c => hd ref active (List.mem_append_left _ c), h.injectors, h.absent,
    fun e q hq c => h.released e q hq (claimed q c), fun e q hq c => h.held e q hq fun ⟨k, hk, r⟩ => c
      ⟨k, List.mem_append_left _ hk, r⟩, h.raises⟩
  rw [h.orders]
  by_cases hk : k = slot
  · subst hk
    simp [ho]
  · simp [hk]

include h in
/-- A slot that is freed is one slot more. -/
theorem State.restartedTo_freed {u : State} {o : Order} (ho : s.order slot = some o) (freed : t.slotFreed u slot o) :
    s.restartedTo u (done ++ [slot]) := by
  have line : ∀ {ref : LineRef} {l : Line}, s.lineAt ref = some l → ref.slot = slot → o.line? ref.line = some l := by
    intro ref l hl here
    obtain ⟨o', ho', hlo⟩ := (s.lineAt_iff ref l).mp hl
    rw [here, ho] at ho'
    cases ho'
    exact hlo
  refine ⟨?_, fun k => ?_, fun a ref l active hd hl => ?_, fun a hd => ?_, freed.injectors.trans h.injectors, fun e he => ?_,
    fun e q hq c => ?_, fun e q hq c => ?_, ?_⟩
  · have orders : u.orders = t.orders.set slot none := by rw [freed.frame]
    rw [orders]
    exact freed.frame.trans (congrArg (fun w : State => { w with
      permits := u.permits, orders := t.orders.set slot none, arms := u.arms, injectors := u.injectors, journal := u.journal
      terminal := u.terminal, console := u.console }) h.frame)
  · have order : u.order k = if k = slot then none else t.order k := by
      rw [freed.frame]
      exact Table.get_set _ _ _ _
    rw [order, h.orders]
    by_cases hk : k = slot <;> simp [hk]
  · by_cases c : ref.slot ∈ done
    · have before := h.unloaded a ref l active c hl
      refine (freed.same a ?_).trans before
      rintro ⟨r, hr, -⟩
      have none : (t.arm a).active = none := congrArg (fun x : Arm => x.active) before
      cases none.symm.trans hr
    · have here : ref.slot = slot := List.mem_singleton.mp ((List.mem_append.mp hd).resolve_left c)
      have same := State.restartedTo_unreached h active c
      have active' : (t.arm a).active = some ref := (congrArg (fun x : Arm => x.active) same).trans active
      refine (freed.unloaded a ref l active' here (line hl here)).trans ?_
      have carried := congrArg (fun x : Arm => (x.unloaded l).unqueued) same
      exact carried
  · have same := h.same a fun ref active c => hd ref active (List.mem_append_left _ c)
    refine (freed.same a ?_).trans same
    rintro ⟨ref, active, here⟩
    have active' : (s.arm a).active = some ref := (congrArg (fun x : Arm => x.active) same).symm.trans active
    exact hd ref active' (List.mem_append_right _ (List.mem_singleton.mpr here))
  · rw [freed.permits, h.absent e he]
    rfl
  · rw [freed.permits]
    rcases (State.claimedIn_append ho q).mp c with c | c
    · rw [h.released e q hq c]
      simp [Permit.released]
    · by_cases d : s.claimedIn done q
      · rw [h.released e q hq d]
        simp [Permit.released]
      · rw [h.held e q hq d]
        simp [Permit.released, c]
  · rw [freed.permits, h.held e q hq fun d => c ((State.claimedIn_append ho q).mpr (.inl d)), Option.map_some, Permit.released,
      if_neg fun d => c ((State.claimedIn_append ho q).mpr (.inr d))]
  · exact State.raisesOnly_trans (t := t) (by rw [h.frame]; rfl) h.raises freed.raises

end Step

/-! ### The notes of the restart (R164, R166, R171) -/

theorem State.closers_append (s : State) (slots : List (Fin 24)) (slot : Fin 24) :
    s.closers (slots ++ [slot]) = s.closers slots ++ ((s.order slot).filter Order.closes).toList := by
  rw [State.closers, List.filterMap_append, State.closers]
  cases h : (s.order slot).filter Order.closes <;> simp [h]

/-- An order that closes at a restart has a slot of the journal reserved. -/
theorem State.closers_length_le (s : State) {slots : List (Fin 24)} (distinct : slots.Nodup) :
    (s.closers slots).length ≤ s.reservations := by
  have reserved : s.reservations = (List.finRange 24).countP (fun k =>
      match s.order k with | some o => o.reserves | none => false) := by
    rw [State.reservations, Table.count, Table.entries_eq, List.countP_map]
    rfl
  have among : slots.countP (fun k => ((s.order k).filter Order.closes).isSome) ≤
      (List.finRange 24).countP (fun k => ((s.order k).filter Order.closes).isSome) :=
    (List.subperm_of_subset distinct fun k _ => List.mem_finRange k).countP_le _
  rw [State.closers, List.length_filterMap_eq_countP, reserved]
  refine among.trans (List.countP_mono_left fun k _ hk => ?_)
  cases ho : s.order k with
  | none => simp [ho] at hk
  | some o =>
    have closes : o.closes = true := by
      by_contra c
      simp [ho, Option.filter, c] at hk
    rcases o.closes_iff.mp closes with hs | hs <;> simp [Order.reserves, hs]

/-- The notes of these slots have been composed. -/
structure State.notedTo (s t : State) (done : List (Fin 24)) : Prop where
  notes : s.journal.gainsAll t.journal ((s.closers done).map s.restartNote)
  listed : t.journal.listed
  count : t.journal.slots.count JournalSlot.isStored = s.storedCount + (s.closers done).length

/-- The note that an order leaves is that of the state before the restart. -/
theorem State.restartedTo_restartNote {s t : State} {done : List (Fin 24)} {slot : Fin 24} (kept : s.linesKept)
    (saved : s.bay.saved = false) (h : s.restartedTo t done) (fresh : slot ∉ done) {o : Order} (ho : s.order slot = some o) :
    t.restartNote o = s.restartNote o := by
  have lines : o.lines.map (t.endedOn (List.finRange 6)) = o.lines.map (s.endedOn (List.finRange 6)) := by
    refine List.map_congr_left fun l hl => ?_
    cases hs : l.state with
    | waiting => simp only [State.endedOn, hs]
    | ended => simp only [State.endedOn, hs]
    | active a =>
      obtain ⟨i, hi⟩ := List.mem_iff_getElem?.mp hl
      have active := (((kept.2 saved).2 slot o (i + 1) l ho hi).2 a hs).1
      have same := State.restartedTo_unreached h active fresh
      have kept : ((t.arm a).dosing, (t.arm a).setup) = ((s.arm a).dosing, (s.arm a).setup) := by
        have reads := congrArg (fun x : Arm => (x.dosing, x.setup)) same
        exact reads
      obtain ⟨dosing, setup⟩ := Prod.mk.inj kept
      have store : t.store = s.store := by rw [h.frame]
      have fixed : t.restarted a l = s.restarted a l := by
        simp only [State.restarted, State.fixed, State.meterStore, Arm.strays, dosing, setup, store]
      rw [t.endedOn_active hs, s.endedOn_active hs, fixed]
  have clock : t.clock = s.clock := by rw [h.frame]
  unfold State.restartNote
  rw [lines, clock]

/-- The restart of the order table's slots, with their notes where the journal has room. -/
theorem State.restartSlots_restartedTo {s : State} (kept : s.linesKept) (saved : s.bay.saved = false) :
    s.restartedTo (slotList.foldl State.restartSlot s) slotList ∧
      (s.journalRoom → s.journal.kept → s.notedTo (slotList.foldl State.restartSlot s) slotList) := by
  rw [show slotList = List.finRange 24 by decide]
  suffices all : (List.finRange 24).Nodup ∧ s.restartedTo ((List.finRange 24).foldl State.restartSlot s) (List.finRange 24) ∧
      (s.journalRoom → s.journal.kept → s.notedTo ((List.finRange 24).foldl State.restartSlot s) (List.finRange 24)) from all.2
  refine foldl_finRange (P := fun done t => done.Nodup ∧ s.restartedTo t done ∧
    (s.journalRoom → s.journal.kept → s.notedTo t done)) ⟨List.nodup_nil, s.restartedTo_nil, fun room kept => ?_⟩ ?_
  · obtain ⟨-, listed, -⟩ := kept
    exact ⟨rfl, listed, rfl⟩
  · rintro done t slot ⟨distinct, h, noted⟩ fresh
    have distinct' : (done ++ [slot]).Nodup := by
      refine List.nodup_append.mpr ⟨distinct, List.nodup_singleton slot, fun a ha b hb e => fresh ?_⟩
      rwa [← List.mem_singleton.mp hb, ← e]
    have order := State.restartedTo_order h fresh
    cases ho : s.order slot with
    | none =>
      have closers : s.closers (done ++ [slot]) = s.closers done := by
        rw [State.closers_append, ho]
        exact List.append_nil _
      rw [State.restartSlot_free (order.trans ho)]
      refine ⟨distinct', State.restartedTo_free kept saved h ho, fun room journal => ?_⟩
      obtain ⟨notes, listed, count⟩ := noted room journal
      exact ⟨by rw [closers]; exact notes, listed, by rw [closers]; exact count⟩
    | some o =>
      have ho' : t.order slot = some o := order.trans ho
      by_cases hs : o.state = .loading ∨ o.state = .closing
      · have closers : s.closers (done ++ [slot]) = s.closers done ++ [o] := by
          rw [State.closers_append, ho, Option.filter_some_pos (o.closes_iff.mpr hs)]
          rfl
        obtain ⟨freed, note⟩ := State.restartSlot_closes ho' hs (State.restartedTo_carriesOrder kept saved h fresh ho)
        refine ⟨distinct', State.restartedTo_freed h ho freed, fun room journal => ?_⟩
        obtain ⟨notes, listed, count⟩ := noted room journal
        have reserved := s.closers_length_le distinct'
        rw [closers, List.length_append, List.length_singleton] at reserved
        obtain ⟨k, hk⟩ := Journal.nextSlot_exists listed (by
          have := room.1
          omega)
        have gains := note k hk
        rw [State.restartedTo_restartNote kept saved h fresh ho] at gains
        obtain ⟨listed', count'⟩ := Journal.gainsAt_listed listed hk gains
        refine ⟨?_, listed', ?_⟩
        · rw [closers, List.map_append]
          exact Journal.gainsAll_append _ notes hk gains
        · rw [count', count, closers, List.length_append, List.length_singleton, Nat.add_assoc]
      · have closers : s.closers (done ++ [slot]) = s.closers done := by
          rw [State.closers_append, ho, Option.filter_some_neg (Bool.eq_false_iff.mpr (o.closes_iff.not.mpr hs))]
          exact List.append_nil _
        obtain ⟨freed, journal⟩ := State.restartSlot_clears ho' hs (State.restartedTo_idle kept saved h ho hs)
        refine ⟨distinct', State.restartedTo_freed h ho freed, fun room j => ?_⟩
        obtain ⟨notes, listed, count⟩ := noted room j
        exact ⟨by rw [closers, journal]; exact notes, journal.symm ▸ listed, by rw [closers, journal]; exact count⟩

end Sys2Proof.Machine
end

section
/-! RESTART as a whole (R99, R182). -/

namespace Sys2Proof.Machine

/-! ### The arms at rest -/

/-- The arm at rest whose last overrun is this. -/
def Arm.restedAfter (x : Arm) (overrun : Nat) : Arm :=
  { x with
    state := if x.state = .locked then .locked else .idle
    reason := none, active := none, holds := HoldSet.clear, queued := none, noFlowTimer := none, suspendTimer := none
    stray := 0, lineCarries := ⟨0, 0, 0⟩, strayCarries := ⟨0, 0, 0⟩, boundTrial := none, dosing := none
    reducedFlow := false, decoder := { x.decoder with mode := .stray }
    lastOverrun := overrun }

theorem Arm.restart_unloaded (x : Arm) (l : Line) : (x.unloaded l).restart = x.restedAfter l.overrun := rfl

theorem Arm.restart_idle {x : Arm} : x.restart = x.restedAfter x.lastOverrun := rfl

/-- The start that an arm has queued does not outlast a restart. -/
theorem Arm.restart_unqueued {x y : Arm} (h : x.unqueued = y.unqueued) : x.restart = y.restart := by
  have restart := congrArg Arm.restart h
  exact restart

theorem Arm.restart_still (x : Arm) : x.restart.state.flowing = false := by
  unfold Arm.restart Arm.rest
  dsimp only
  split <;> rfl

theorem State.restartedTo_restart {s t : State} (kept : s.linesKept) (saved : s.bay.saved = false)
    (h : s.restartedTo t slotList) (a : Fin 6) : (t.arm a).restart = (s.arm a).restedAfter
      (((s.activeLine a).map (fun l => (l.delivered + 500) / 1000 - l.preset)).getD (s.arm a).lastOverrun) := by
  cases active : (s.arm a).active with
  | none =>
    have none : s.activeLine a = none := by simp [State.activeLine, active]
    rw [Arm.restart_unqueued (h.same a fun ref hr => absurd (active.symm.trans hr) nofun), none]
    exact Arm.restart_idle
  | some ref =>
    obtain ⟨l, hl, -⟩ := (kept.2 saved).1 a ref active
    rw [Arm.restart_unqueued (h.unloaded a ref l active (mem_slotList _) hl), Arm.restart_unloaded,
      State.activeLine_of active, hl]
    rfl

/-! ### Steps 1 to 4 -/

/-- The bay after steps 1 to 4 of a restart, the order table's slots having left `c`: the ports' sets are empty. -/
def State.restartEmpty (s c : State) : State :=
  { s with
    permits := c.permits, orders := Table.fill 24 none, arms := c.arms.map Arm.restart
    injectors := s.injectors.map (fun x => { x with window := none })
    store := { s.store with meters := s.store.meters.map (fun m => { m with pendingTrial := none }) }
    journal := c.journal, bay := { s.bay with deadman := { s.bay.deadman with elapsed := none } }
    terminal := c.terminal.empty, console := c.console.empty }

theorem State.restartBlocks_empty {s c : State} (hc : c = slotList.foldl State.restartSlot s) (h : s.restartedTo c slotList) :
    ({ s.restartBlocks with
      terminal := s.restartBlocks.terminal.empty, console := s.restartBlocks.console.empty } : State) = s.restartEmpty c := by
  have orders : c.orders = Table.fill 24 none := Table.ext_get fun k => by
    rw [Table.get_fill]
    exact (h.orders k).trans (if_pos (mem_slotList k))
  obtain ⟨u, hu⟩ : ∃ u : State, u = ({ c with arms := c.arms.map Arm.restart } : State).idleInjectors.discardTrials := ⟨_, rfl⟩
  have still : ¬ ∃ a, (u.arm a).state.flowing = true := by
    rintro ⟨a, ha⟩
    have arm : u.arm a = (c.arm a).restart := by
      rw [hu]
      exact Table.get_map _ _ a
    rw [arm, Arm.restart_still] at ha
    cases ha
  have blocks : s.restartBlocks = { u with bay := { u.bay with deadman := { u.bay.deadman with elapsed := none } } } := by
    rw [State.restartBlocks, ← hc, ← hu, State.settleDeadman_eq, if_neg still]
  have injectors : u.injectors = s.injectors.map (fun x => { x with window := none }) := by
    rw [hu]
    exact h.injectors
  have rest : u = { s with
      permits := c.permits, orders := Table.fill 24 none, arms := c.arms.map Arm.restart, injectors := u.injectors
      store := { s.store with meters := s.store.meters.map (fun m => { m with pendingTrial := none }) }
      journal := c.journal, terminal := c.terminal, console := c.console } := by
    rw [hu, ← orders]
    have frame := h.frame
    exact congrArg (fun w : State => { w with
      permits := c.permits, orders := c.orders, arms := c.arms.map Arm.restart, injectors := c.injectors.map Injector.idle
      store := { w.store with meters := w.store.meters.map (fun (m : MeterStore) => { m with pendingTrial := none }) }
      journal := c.journal, terminal := c.terminal, console := c.console }) frame
  rw [blocks, rest, injectors]
  rfl

/-! ### Step 5: the notices of the closes -/

/-- The notices of the orders that leave these slots. -/
def closesNotice (slots : List (Fin 24)) (k : NoticeKind) (subject : Nat) : Prop :=
  k = .noteStored ∨ k = .orderClosed ∧ ∃ slot ∈ slots, subject = number slot

theorem State.announceClose_foldl : ∀ (slots : List (Fin 24)) (s : State),
    slots.foldl State.announceClose s = { s with
      terminal := (slots.foldl State.announceClose s).terminal, console := (slots.foldl State.announceClose s).console } ∧
    s.raisesOnly (slots.foldl State.announceClose s) (closesNotice slots) ∧
    (∀ k subject, s.announced k subject → (slots.foldl State.announceClose s).announced k subject) ∧
    ∀ slot ∈ slots, (slots.foldl State.announceClose s).announced .orderClosed (number slot) ∧
      (slots.foldl State.announceClose s).announced .noteStored 0
  | [], s => ⟨rfl, s.raisesOnly_refl _, fun _ _ => id, fun _ h => absurd h List.not_mem_nil⟩
  | slot :: rest, s => by
    obtain ⟨frame, raises, keeps, announced⟩ := State.announceClose_foldl rest (s.announceClose slot)
    have closed : (s.announceClose slot).announced .orderClosed (number slot) :=
      State.announced_raise_of (State.announced_raise _ _ _) _ _
    have noted : (s.announceClose slot).announced .noteStored 0 := State.announced_raise _ _ _
    refine ⟨frame, ?_, fun k subject h => keeps k subject (State.announced_raise_of (State.announced_raise_of h _ _) _ _),
      fun k hk => ?_⟩
    · have first : s.raisesOnly (s.announceClose slot) (closesNotice (slot :: rest)) := by
        refine State.raisesOnly_trans (t := s.raise .orderClosed (number slot)) rfl ?_ ?_
        · refine State.raisesOnly_mono (s.raisesOnly_raise _ _) fun k subject h => .inr ⟨h.1, slot, .head _, h.2⟩
        · exact State.raisesOnly_mono (State.raisesOnly_raise _ _ _) fun k subject h => .inl h.1
      refine State.raisesOnly_trans (t := s.announceClose slot) rfl first (State.raisesOnly_mono raises ?_)
      rintro k subject (h | ⟨h, j, hj, hsub⟩)
      · exact .inl h
      · exact .inr ⟨h, j, .tail _ hj, hsub⟩
    · rcases List.mem_cons.mp hk with rfl | hk
      · exact ⟨keeps _ _ closed, keeps _ _ noted⟩
      · exact announced k hk

theorem State.mem_closingSlots (s : State) (k : Fin 24) : k ∈ s.closingSlots ↔
    ∃ o, s.order k = some o ∧ (o.state = .loading ∨ o.state = .closing) := by
  rw [State.closingSlots, List.mem_filter]
  cases ho : s.order k with
  | none => simp
  | some o => simp [mem_slotList]

theorem State.closingSlots_length (s : State) : s.closingSlots.length = s.orders.count (fun e => match e with
    | some o => o.state == .loading || o.state == .closing
    | none => false) := by
  rw [State.closingSlots, ← List.countP_eq_length_filter, Table.count, Table.entries_eq, List.countP_map,
    show slotList = List.finRange 24 by decide]
  rfl

/-- The orders that close, in slot order. -/
theorem State.closers_slotList (s : State) :
    s.closers slotList = s.orders.entries.filterMap (fun e => e.filter Order.closes) := by
  rw [State.closers, Table.entries_eq, List.filterMap_map, show slotList = List.finRange 24 by decide]
  rfl

theorem State.restartNote_eq (s : State) (o : Order) : s.restartNote o = fun n => n.records { o with
    lines := o.lines.map (fun l => match l.state with
      | .active a => { s.fixed a l with state := .ended, result := some (l.result.getD .aborted) }
      | .waiting => l
      | .ended => l) } .restart s.clock := by
  have lines : s.endedOn (List.finRange 6) = fun l => match l.state with
      | .active a => { s.fixed a l with state := .ended, result := some (l.result.getD .aborted) }
      | .waiting => l
      | .ended => l := by
    funext l
    unfold State.endedOn
    cases l.state with
    | active a => exact if_pos (List.mem_finRange a)
    | waiting => rfl
    | ended => rfl
  unfold State.restartNote
  rw [lines]

end Sys2Proof.Machine
end

section
namespace Sys2Proof.Proofs
open Sys2Proof Sys2Proof.Machine

/-- Settles O53: the order table slot by slot, the blocks at rest, and the notices of the closes. -/
theorem restart : Obligations.Restart := by
  unfold Obligations.Restart
  intro tag s h kept closing
  obtain ⟨saved, -⟩ := id h
  obtain ⟨restarted, noted⟩ := State.restartSlots_restartedTo kept saved
  obtain ⟨c, hc⟩ : ∃ c, c = slotList.foldl State.restartSlot s := ⟨_, rfl⟩
  rw [← hc] at restarted noted
  have whole : s.restart = s.closingSlots.foldl State.announceClose (s.restartEmpty c) := by
    rw [State.restart]
    exact congrArg (fun e => s.closingSlots.foldl State.announceClose e) (State.restartBlocks_empty hc restarted)
  obtain ⟨frame, raises, -, announced⟩ := State.announceClose_foldl s.closingSlots (s.restartEmpty c)
  obtain ⟨t, ht⟩ : ∃ t, t = s.restart := ⟨_, rfl⟩
  rw [← whole, ← ht] at frame raises announced
  have arms : ∀ a, t.arm a = (c.arm a).restart := fun a => by
    rw [frame]
    exact Table.get_map _ _ a
  have permits : t.permits = c.permits := by rw [frame]; rfl
  have journal : t.journal = c.journal := by rw [frame]; rfl
  have emptied : ∀ p, (s.restartEmpty c).port p = { s.port p with notices := [], inService := [] } := fun p => by
    obtain ⟨new, port, -⟩ := restarted.raises p
    have empty : (s.restartEmpty c).port p = (c.port p).empty := by cases p <;> rfl
    rw [empty, port]
    rfl
  refine ⟨t, s.closingSlots.length, ?_, s.closingSlots_length, ?_, fun a => ?_, fun a => ?_, fun room full => ?_, fun e he => ?_,
    fun e q hq => ⟨?_, ?_⟩, fun p => ⟨?_, fun n hn => ?_, fun k hk => announced k ((s.mem_closingSlots k).mpr hk)⟩⟩
  · have judged : Machine.restart (s.heard .terminal) =
        (t.heard .terminal).ok (field 1 s.closingSlots.length ++ field 4 t.journal.lastSequence) := by
      rw [ht, Machine.restart, State.restart_heard]
      rfl
    exact congrArg Host.Outcome.next (State.frame_answered h rfl judged)
  · refine frame.trans ?_
    rw [permits, journal]
    have arms : t.arms = c.arms.map Arm.restart := by rw [frame]; rfl
    rw [arms]
    rfl
  · have still := (c.arm a).restart_still
    rw [← arms] at still
    have full : (t.arm a).state ≠ .fullFlow := fun e => by
      rw [e] at still
      cases still
    exact ⟨still, by simp [Arm.full, full]⟩
  · rw [arms, State.restartedTo_restart kept saved restarted]
    rfl
  · obtain ⟨notes, -⟩ := noted room full
    rw [State.closers_slotList, funext s.restartNote_eq] at notes
    rw [journal]
    exact notes
  · rw [permits]
    exact restarted.absent e he
  · rintro ⟨k, o, ho, claims⟩
    rw [permits]
    exact restarted.released e q hq ⟨k, mem_slotList k, o, ho, claims⟩
  · intro none
    rw [permits]
    exact restarted.held e q hq fun ⟨k, _, o, ho, claims⟩ => none k o ho claims
  · obtain ⟨new, port, -⟩ := raises p
    rw [port, emptied]
  · obtain ⟨new, port, only⟩ := raises p
    rw [port, emptied] at hn
    rcases (only n hn).1 with noted | ⟨closed, k, hk, hsub⟩
    · exact .inl noted
    · exact .inr ⟨closed, k, (s.mem_closingSlots k).mp hk, hsub⟩

end Sys2Proof.Proofs
end

section
/-! The pulse decoder, edge by edge (R42 to R49). -/

namespace Sys2Proof.Machine

/-! ### The decoder's counts -/

/-- A counted pulse, its counts within their range (R42). -/
theorem Decoder.countPulse_eq {d : Decoder} (sample : d.sampleCount < 4294967295) (counted : d.lineCounted < 4294967295) :
    d.countPulse = { d with
      sampleCount := d.sampleCount + 1
      lineCounted := if d.mode = .line then d.lineCounted + 1 else d.lineCounted } := by
  rw [Decoder.countPulse, count32_of_le (n := d.sampleCount + 1) (by omega), count32_of_le (n := d.lineCounted + 1) (by omega)]

theorem Decoder.takeExpected_a (d : Decoder) : d.takeExpected .a = { d with expected := .b, missA := 0 } := rfl

theorem Decoder.takeExpected_b {d : Decoder} (sample : d.sampleCount < 4294967295) (counted : d.lineCounted < 4294967295) :
    d.takeExpected .b = { d with
      expected := .a
      missB := 0
      sampleCount := d.sampleCount + 1
      lineCounted := if d.mode = .line then d.lineCounted + 1 else d.lineCounted } :=
  Decoder.countPulse_eq (d := { d with expected := .a, missB := 0 }) sample counted

/-- The missing-event statistics (R46). -/
theorem MeterStatistics.missing_eq (m : MeterStatistics) (lost : Channel) : m.missing lost = { m with
    missingA := if lost = .a then min 65535 (m.missingA + 1) else m.missingA
    missingB := if lost = .b then min 65535 (m.missingB + 1) else m.missingB } := by
  cases lost <;> simp [MeterStatistics.missing, bump16_eq]

/-- A missing event in STRAY mode counts the pulse and its statistic alone (R46). -/
theorem Decoder.missingEvent_stray {d : Decoder} (mode : d.mode = .stray) (sample : d.sampleCount < 4294967295)
    (lost : Channel) :
    d.missingEvent lost = { d with sampleCount := d.sampleCount + 1, stats := d.stats.missing lost } := by
  have sample := count32_of_le (n := d.sampleCount + 1) (by omega)
  simp [Decoder.missingEvent, Decoder.countCorrected, Decoder.countPulse, mode, sample]

/-- The decoder after a missing event of its expected channel in LINE mode (R46). -/
def Decoder.missed (d : Decoder) : Decoder :=
  { d with
    sampleCount := d.sampleCount + 1
    lineCounted := d.lineCounted + 1
    lineCorrected := d.lineCorrected + 1
    missA := if d.expected = .a then d.missA + 1 else d.missA
    missB := if d.expected = .b then d.missB + 1 else d.missB
    stats := { d.stats with
      missingA := if d.expected = .a then min 65535 (d.stats.missingA + 1) else d.stats.missingA
      missingB := if d.expected = .b then min 65535 (d.stats.missingB + 1) else d.stats.missingB } }

theorem Decoder.missingEvent_line {d : Decoder} (mode : d.mode = .line) (sample : d.sampleCount < 4294967295)
    (counted : d.lineCounted < 4294967295) (corrected : d.lineCorrected < 4294967295) :
    d.missingEvent d.expected = d.missed := by
  have sample := count32_of_le (n := d.sampleCount + 1) (by omega)
  have counted := count32_of_le (n := d.lineCounted + 1) (by omega)
  have corrected := count32_of_le (n := d.lineCorrected + 1) (by omega)
  cases expected : d.expected <;>
    simp [Decoder.missingEvent, Decoder.countCorrected, Decoder.countPulse, Decoder.setMiss, Decoder.miss, Decoder.missed,
      MeterStatistics.missing, bump16_eq, mode, sample, counted, corrected, expected]

/-- The miss count of the expected channel comes to 4 (R47). -/
theorem Decoder.missed_miss (d : Decoder) : 4 ≤ d.missed.miss d.expected ↔
    d.expected = .a ∧ 3 ≤ d.missA ∨ d.expected = .b ∧ 3 ≤ d.missB := by
  cases expected : d.expected <;> simp [Decoder.miss, Decoder.missed, expected]

/-- The decoder as its expected channel fails (R47). -/
theorem Decoder.failChannel_expected {d : Decoder} (hA : d.statusA = .normal) (hB : d.statusB = .normal) :
    d.failChannel d.expected = { d with
      statusA := if d.expected = .a then .failed else .normal
      statusB := if d.expected = .b then .failed else .normal
      stats := { d.stats with channelFailures := min 65535 (d.stats.channelFailures + 1) } } := by
  cases expected : d.expected <;> simp [Decoder.failChannel, bump16_eq, expected, hA, hB]

/-- The pulse-hold statistic counts one (R49). -/
def Decoder.countHold (d : Decoder) : Decoder :=
  { d with stats := { d.stats with pulseHolds := min 65535 (d.stats.pulseHolds + 1) } }

theorem Decoder.countHold_miss (d : Decoder) (lost : Channel) : d.countHold.miss lost = d.miss lost := by cases lost <;> rfl

/-! ### Changing the decoder of an arm -/

/-- The state with an arm's decoder in place. -/
def State.decodes (s : State) (a : Fin 6) (d : Decoder) : State := s.modifyArm a (fun x => { x with decoder := d })

theorem State.modifyDecoder_of {s : State} {a : Fin 6} {f : Decoder → Decoder} {d : Decoder} (h : f (s.arm a).decoder = d) :
    s.modifyDecoder a f = s.decodes a d :=
  State.modifyArm_congr s a (congrArg (fun d => { s.arm a with decoder := d }) h)

theorem State.arm_decodes (s : State) (a : Fin 6) (d : Decoder) : (s.decodes a d).arm a = { s.arm a with decoder := d } := by
  rw [State.decodes, State.arm_modifyArm, if_pos rfl]

theorem State.decodes_modifyDecoder (s : State) (a : Fin 6) (d : Decoder) (f : Decoder → Decoder) :
    (s.decodes a d).modifyDecoder a f = s.decodes a (f d) := State.modifyArm_modifyArm s a _ _

/-- A hold cause and the decoder do not meet. -/
theorem State.raiseHold_modifyDecoder (s : State) (a : Fin 6) (c : HoldCause) (f : Decoder → Decoder) :
    (s.raiseHold a c).modifyDecoder a f = (s.modifyDecoder a f).raiseHold a c := by
  have arm : (s.modifyDecoder a f).arm a = { s.arm a with decoder := f (s.arm a).decoder } := by
    rw [State.modifyDecoder, State.arm_modifyArm, if_pos rfl]
  have settles (u : State) : (u.modifyDecoder a f).settleDeadman = u.settleDeadman.modifyDecoder a f := by
    have state (b : Fin 6) : ((u.modifyDecoder a f).arm b).state = (u.arm b).state := by
      rw [State.modifyDecoder, State.arm_modifyArm]
      split <;> rfl
    simp only [State.settleDeadman_eq, state]
    rfl
  have recorded (u : State) : (u.modifyArm a (fun x => { x with holds := x.holds.put true c })).modifyDecoder a f =
      (u.modifyDecoder a f).modifyArm a (fun x => { x with holds := x.holds.put true c }) :=
    u.modifyArm_comm a a fun _ => rfl
  have closed (u : State) : (u.modifyArm a Arm.closeForHold).modifyDecoder a f =
      (u.modifyDecoder a f).modifyArm a Arm.closeForHold := u.modifyArm_comm a a fun _ => rfl
  simp only [State.raiseHold, arm]
  split
  · rfl
  · split
    · rw [← settles, closed, recorded]
    · rw [recorded]

theorem State.raiseHold_reads (s : State) (a : Fin 6) (c : HoldCause) :
    ((s.raiseHold a c).arm a).decoder = (s.arm a).decoder ∧ ((s.raiseHold a c).arm a).active = (s.arm a).active := by
  have arm : (s.raiseHold a c).arm a = (s.arm a).withCause c := by
    rw [State.arm_congr (congrArg State.arms (s.raiseHold_heldBy a c).1)]
    exact Table.get_modify_self _ _ _
  rw [arm]
  unfold Arm.withCause
  split
  · split <;> exact ⟨rfl, rfl⟩
  · exact ⟨rfl, rfl⟩

/-! ### An edge, by the standing of the two channels -/

/-- Neither channel of the decoder has failed. -/
theorem Decoder.status_ne_failed {d : Decoder} (hA : d.statusA = .normal) (hB : d.statusB = .normal) (c : Channel) :
    d.status c ≠ .failed := by
  cases c
  · exact ne_of_eq_of_ne hA nofun
  · exact ne_of_eq_of_ne hB nofun

theorem eq_otherChannel_of_ne {c e : Channel} (h : c ≠ e) : c = otherChannel e := by
  cases c <;> cases e <;> simp_all [otherChannel]

section Edge

variable {s : State} {a : Fin 6} {c : Channel}

theorem State.meterEdge_failed (h : (s.arm a).decoder.status c = .failed) : s.meterEdge a c = s := if_pos h

theorem State.meterEdge_live (h : (s.arm a).decoder.status c = .normal)
    (other : (s.arm a).decoder.status (otherChannel c) = .failed) :
    s.meterEdge a c = s.modifyDecoder a Decoder.countPulse := by
  have normal : (s.arm a).decoder.status c ≠ .failed := ne_of_eq_of_ne h nofun
  rw [State.meterEdge, if_neg normal, if_pos other]

variable (hA : (s.arm a).decoder.statusA = .normal) (hB : (s.arm a).decoder.statusB = .normal)

include hA hB

theorem State.meterEdge_expected (expected : (s.arm a).decoder.expected = c) :
    s.meterEdge a c = s.modifyDecoder a (fun d => d.takeExpected c) := by
  have normal := Decoder.status_ne_failed hA hB
  rw [State.meterEdge, if_neg (normal _), if_neg (normal _), if_pos expected.symm]

theorem State.meterEdge_stray (unexpected : c ≠ (s.arm a).decoder.expected) (mode : (s.arm a).decoder.mode = .stray) :
    s.meterEdge a c = s.modifyDecoder a (fun d => d.missingEvent (s.arm a).decoder.expected) := by
  have normal := Decoder.status_ne_failed hA hB
  have stray : (s.arm a).decoder.mode ≠ .line := ne_of_eq_of_ne mode nofun
  rw [State.meterEdge, if_neg (normal _), if_neg (normal _), if_neg unexpected]
  exact if_neg stray

theorem State.meterEdge_line (unexpected : c ≠ (s.arm a).decoder.expected) (mode : (s.arm a).decoder.mode = .line) :
    s.meterEdge a c = ((s.modifyDecoder a (fun d => d.missingEvent (s.arm a).decoder.expected)).judgeAllowance a).judgeMisses a
      (s.arm a).decoder.expected := by
  have normal := Decoder.status_ne_failed hA hB
  rw [State.meterEdge, if_neg (normal _), if_neg (normal _), if_neg unexpected, if_pos mode]

end Edge

/-! ### The judgements of a missing event in LINE mode (R47, R49) -/

section Judged

variable {s : State} {a : Fin 6}

/-- The corrected pulses of an arm exceed their allowance, and PULSE is not yet held (R49). -/
def State.exceedsAllowance (s : State) (a : Fin 6) : Prop :=
  (s.arm a).decoder.allowance < (s.arm a).decoder.lineCorrected ∧ (s.arm a).holds.pulse = false

theorem State.judgeAllowance_within (h : ¬ s.exceedsAllowance a) : s.judgeAllowance a = s :=
  if_neg fun c => h ⟨c.1, by simpa using c.2⟩

theorem State.judgeAllowance_exceeds (h : s.exceedsAllowance a) :
    s.judgeAllowance a = (s.modifyDecoder a Decoder.countHold).raiseHold a .pulse := by
  obtain ⟨beyond, free⟩ := h
  rw [State.judgeAllowance, if_pos ⟨beyond, by rw [free]; rfl⟩]
  simp only [bump16_eq]
  rfl

theorem State.judgeMisses_few {lost : Channel} (h : ¬ 4 ≤ (s.arm a).decoder.miss lost) : s.judgeMisses a lost = s := if_neg h

theorem State.judgeMisses_fails {lost : Channel} (h : 4 ≤ (s.arm a).decoder.miss lost) {ref : LineRef}
    (active : (s.arm a).active = some ref) :
    s.judgeMisses a lost = (s.modifyDecoder a (fun d => d.failChannel lost)).modifyLine ref
      (fun l => { l with flags := { l.flags with singleChannel := true } }) := by
  rw [State.judgeMisses, if_pos h, State.modifyActiveLine_of]
  rw [State.modifyDecoder, State.arm_modifyArm, if_pos rfl]
  exact active

end Judged

end Sys2Proof.Machine
end

section
namespace Sys2Proof.Proofs
open Sys2Proof Sys2Proof.Machine

/-- Settles O25: an edge of the expected channel, A and B. -/
theorem edgesInOrder : Obligations.EdgesInOrder := by
  unfold Obligations.EdgesInOrder
  intro a s d hA hB sample counted
  refine ⟨fun expected => ?_, fun expected => ?_⟩
  · exact congrArg Host.Outcome.next ((State.meterEdge_expected hA hB expected).trans
      (State.modifyDecoder_of (Decoder.takeExpected_a d)))
  · exact congrArg Host.Outcome.next ((State.meterEdge_expected hA hB expected).trans
      (State.modifyDecoder_of (Decoder.takeExpected_b sample counted)))

/-- Settles O26: an edge of a FAILED channel, one of the live channel, and one that shows a missing event in STRAY mode. -/
theorem edgesOutOfOrder : Obligations.EdgesOutOfOrder := by
  unfold Obligations.EdgesOutOfOrder
  intro a c s d sample counted
  refine ⟨fun failed => ?_, fun live other => ?_, fun hA hB mode unexpected => ?_⟩
  · exact congrArg Host.Outcome.next (State.meterEdge_failed failed)
  · exact congrArg Host.Outcome.next ((State.meterEdge_live live other).trans
      (State.modifyDecoder_of (Decoder.countPulse_eq sample counted)))
  · refine congrArg Host.Outcome.next ((State.meterEdge_stray hA hB unexpected mode).trans (State.modifyDecoder_of ?_))
    have edge := eq_otherChannel_of_ne unexpected
    rw [Decoder.missingEvent_stray mode sample, MeterStatistics.missing_eq, edge]
    cases d.expected <;> rfl

/-- Settles O27: the missing event counted, then its allowance, then its miss count. -/
theorem missingEventInLineMode : Obligations.MissingEventInLineMode := by
  unfold Obligations.MissingEventInLineMode
  intro a s d d1 exceeds fails mode hA hB sample counted corrected run
  have arm : (s.decodes a d1).arm a = { s.arm a with decoder := d1 } := s.arm_decodes a d1
  have judged : run = .next (((s.decodes a d1).judgeAllowance a).judgeMisses a d.expected) := by
    have unexpected : otherChannel d.expected ≠ d.expected := by cases d.expected <;> nofun
    refine congrArg Host.Outcome.next ((State.meterEdge_line hA hB unexpected mode).trans ?_)
    rw [State.modifyDecoder_of (Decoder.missingEvent_line mode sample counted corrected)]
    rfl
  have allowance : (s.decodes a d1).exceedsAllowance a ↔ exceeds := by rw [State.exceedsAllowance, arm]; rfl
  have misses : 4 ≤ d1.miss d.expected ↔ fails := d.missed_miss
  have fail (x : Decoder) (same : x.expected = d.expected) (hA : x.statusA = .normal) (hB : x.statusB = .normal) :=
    same ▸ Decoder.failChannel_expected hA hB
  -- the state in which PULSE has been raised and its statistic counted
  obtain ⟨v, hv⟩ : ∃ v, v = (s.decodes a d1.countHold).raiseHold a .pulse := ⟨_, rfl⟩
  have raised (beyond : exceeds) : (s.decodes a d1).judgeAllowance a = v := by
    rw [State.judgeAllowance_exceeds (allowance.mpr beyond), State.decodes_modifyDecoder, hv]
  obtain ⟨decoder, active⟩ := State.raiseHold_reads (s.decodes a d1.countHold) a .pulse
  rw [← hv, State.arm_decodes] at decoder active
  have held : (v.arm a).decoder.miss d.expected = d1.miss d.expected := by rw [decoder]; exact d1.countHold_miss _
  rw [judged]
  refine ⟨fun within few => ?_, fun ref within four carries => ?_, fun beyond few => ?_, fun ref beyond four carries => ?_⟩
  · rw [State.judgeAllowance_within (mt allowance.mp within), State.judgeMisses_few (by rw [arm]; exact mt misses.mp few)]
    rfl
  · rw [State.judgeAllowance_within (mt allowance.mp within), State.judgeMisses_fails (by rw [arm]; exact misses.mpr four)
      (ref := ref) (by rw [arm]; exact carries), State.decodes_modifyDecoder, fail d1 rfl hA hB]
    rfl
  · refine ⟨v, ?_, hv ▸ State.raiseHold_heldBy _ a .pulse⟩
    rw [raised beyond, State.judgeMisses_few (by rw [held]; exact mt misses.mp few)]
  · refine ⟨v.modifyDecoder a (fun d1 => d1.failChannel d.expected), ?_, ?_⟩
    · rw [raised beyond, State.judgeMisses_fails (by rw [held]; exact misses.mpr four) (active.trans carries)]
    · rw [hv, State.raiseHold_modifyDecoder, State.decodes_modifyDecoder, fail d1.countHold rfl hA hB]
      exact State.raiseHold_heldBy _ a .pulse

end Sys2Proof.Proofs
end

section
/-! The stages of a sample, and a stray sample (R51 to R55, R71, R74, R91, R98). -/

namespace Sys2Proof.Machine

/-! ### The stages (R53, R54, R71, R74) -/

/-- The indicated stage of a calibrated meter divides with remainder (R53). -/
theorem indicatedStage_spec {k : Nat} (h : 0 < k) (carry pulses : Nat) :
    pulses * 1000000 + carry = (indicatedStage k carry pulses).1 * k + (indicatedStage k carry pulses).2 ∧
      (indicatedStage k carry pulses).2 < k := by
  rw [indicatedStage, if_neg (Nat.ne_of_gt h)]
  exact ⟨(Nat.div_add_mod' _ k).symm, Nat.mod_lt _ h⟩

/-- An uncalibrated meter discards its pulses (R53). -/
theorem indicatedStage_uncalibrated (carry pulses : Nat) : indicatedStage 0 carry pulses = (0, 0) := rfl

/-- A factor's stage divides with remainder (R71, R74). -/
theorem factorStage_spec (volume factor carry : Nat) :
    volume * factor + carry = (factorStage volume factor carry).1 * 100000 + (factorStage volume factor carry).2 ∧
      (factorStage volume factor carry).2 < 100000 :=
  ⟨(Nat.div_add_mod' _ 100000).symm, Nat.mod_lt _ (by decide)⟩

/-! ### A stray sample (R51, R52, R55, R91, R98) -/

theorem State.sampleOf_stray {s : State} {a : Fin 6} (h : (s.arm a).active = none) :
    s.sampleOf a = s.nextSample a none (s.arm a).strayCarries := by
  simp only [State.sampleOf, h, Option.isSome_none, Bool.false_eq_true, if_false]
  rfl

/-- An arm and the totalizers do not meet. -/
theorem State.modifyMeterStore_modifyArm (s : State) (a b : Fin 6) (f : Arm → Arm) (g : MeterStore → MeterStore) :
    (s.modifyArm a f).modifyMeterStore b g = (s.modifyMeterStore b g).modifyArm a f := rfl

/-- The stray sample but for its notice, said as the arm's counts and the store's totalizers. -/
theorem State.strayed_eq {s : State} {a : Fin 6} (h : (s.arm a).active = none)
    (bound : (s.arm a).stageGross ≤ 4294967295) :
    let v := s.nextSample a none (s.arm a).strayCarries
    s.strayed a = { s with
      arms := s.arms.modify a (fun x => { x.counted v 0 with
        strayCarries := v.carries, stray := min 4294967295 ((s.arm a).stray + v.gross) })
      store := s.storeAfter a v } := by
  intro v
  obtain ⟨u, hu⟩ : ∃ u : State, u = s.modifyMeterStore a (fun m => { m with
    gross := m.gross.advance v.gross, standard := m.standard.advance v.standard }) := ⟨_, rfl⟩
  have taken : s.strayed a = u.modifyArm a (fun x =>
      { ({ x.metered v with strayCarries := v.carries } : Arm).countSample (s.arm a).decoder.sampleCount 0 with
        stray := min 4294967295 ((s.arm a).stray + v.gross) }) := by
    rw [State.strayed, State.modifyMeterStore_modifyArm, State.modifyArm_modifyArm, State.modifyArm_modifyArm,
      State.sampleOf_stray h, hu]
    rfl
  have counted := Arm.countSample_eq ({ (s.arm a).metered v with strayCarries := v.carries } : Arm)
    (pulses := (s.arm a).decoder.sampleCount) (gross := 0) bound
  rw [taken, State.modifyArm_congr u a (g := fun x => { x.counted v 0 with
    strayCarries := v.carries, stray := min 4294967295 ((s.arm a).stray + v.gross) }), hu]
  · rfl
  · rw [show u.arm a = s.arm a by rw [hu]; rfl, counted]
    rfl

end Sys2Proof.Machine
end

section
namespace Sys2Proof.Proofs
open Sys2Proof Sys2Proof.Machine

/-- Settles O28: each stage is a division with remainder. -/
theorem sampleStages : Obligations.SampleStages := by
  unfold Obligations.SampleStages
  intro k curve trial v c n x
  obtain ⟨gross, grossCarry⟩ := factorStage_spec x.indicated (trial.getD (curveFactor curve x.flow)) c.gross
  obtain ⟨standard, standardCarry⟩ := factorStage_spec x.gross v c.standard
  refine ⟨fun h => indicatedStage_spec h c.indicated n, fun h => ?_, rfl, gross, grossCarry, standard, standardCarry⟩
  subst h
  exact ⟨rfl, rfl⟩

/-- Settles O32: the boundary sample's state, its counts and its totalizers, and the notice where it crosses. -/
theorem straySamples : Obligations.StraySamples := by
  unfold Obligations.StraySamples
  intro a s free due bound v sum t
  have strayed : s.strayed a = t := State.strayed_eq free bound
  have crosses : s.straysOver a = decide ((s.arm a).stray / 5000 < sum / 5000) := by
    rw [State.straysOver, State.sampleOf_stray free]
  refine congrArg Host.Outcome.next ((State.expiry_own due _).trans ((State.sample_stray free).trans ?_))
  simp only [strayed, crosses, State.raiseIf, decide_eq_true_eq]

end Sys2Proof.Proofs
end

section
/-! A line sample of a flowing arm, and one that judges no leak and completes no close (R85 to R87, R91, R96). -/

namespace Sys2Proof.Machine

/-! ### Staging (R85, R87) -/

/-- A flowing arm is staged alike by what remains, counted down to 0 or below it. -/
theorem Arm.staged_eq {x : Arm} (h : x.state.flowing = true) (l : Line) (pulses : Nat) :
    x.staged l.remaining pulses = x.stages (l.preset * 1000 - l.delivered) pulses := by
  have more : (x.setup.topOff * 1000 : Int) < l.remaining ↔ x.setup.topOff * 1000 < l.preset * 1000 - l.delivered := by
    unfold Line.remaining
    omega
  have less : l.remaining ≤ (x.setup.topOff * 1000 : Int) ↔ ¬ x.setup.topOff * 1000 < l.preset * 1000 - l.delivered := by
    rw [← more, Int.not_lt]
  have next : x.stage l.remaining =
      if x.state = .lowStart ∧ x.stageGross < x.stageVolume * 1000 then .lowStart
      else if x.state = .lowStart ∧ x.setup.topOff * 1000 < l.preset * 1000 - l.delivered then .fullFlow
      else if x.state = .fullFlow ∧ x.setup.topOff * 1000 < l.preset * 1000 - l.delivered then .fullFlow
      else .topOff := by
    cases state : x.state with
    | lowStart => simp [Arm.stage, state, more]
    | fullFlow =>
      by_cases rest : x.setup.topOff * 1000 < l.preset * 1000 - l.delivered
      · simp only [Arm.stage, state, less, rest, not_true_eq_false, if_false]
        rfl
      · simp only [Arm.stage, state, less, rest, not_false_eq_true, if_true]
        rfl
    | topOff => simp [Arm.stage, state]
    | idle | closing | suspended | locked => rw [state] at h; cases h
  rw [Arm.staged, Arm.stages, next]

/-- Staging leads to a flowing state. -/
theorem Arm.stages_flowing (x : Arm) (remaining pulses : Nat) : (x.stages remaining pulses).state.flowing = true := by
  simp only [Arm.stages]
  split_ifs <;> rfl

/-! ### The counts of a close (R91) -/

/-- From `x` to `y` the arm's state and its counts of a close are those of before, or it has just closed. -/
def Arm.keepsCounts (x y : Arm) : Prop :=
  y.state = x.state ∧ y.zeroRun = x.zeroRun ∧ y.closeCount = x.closeCount ∨
    y.state = .closing ∧ y.zeroRun = 0 ∧ y.closeCount = 0

theorem Arm.keepsCounts.trans {x y z : Arm} (h : x.keepsCounts y) (g : y.keepsCounts z) : x.keepsCounts z := by
  rcases g with ⟨state, zeroRun, closeCount⟩ | closed
  · unfold Arm.keepsCounts
    rw [state, zeroRun, closeCount]
    exact h
  · exact .inr closed

theorem Arm.keepsCounts_withCause (x : Arm) (c : HoldCause) : x.keepsCounts (x.withCause c) := by
  unfold Arm.withCause
  split
  · split
    · exact .inr ⟨rfl, rfl, rfl⟩
    · exact .inl ⟨rfl, rfl, rfl⟩
  · exact .inl ⟨rfl, rfl, rfl⟩

/-- A cause that is raised only where it is due. -/
theorem Arm.keepsCounts_raised (x : Arm) (c : HoldCause) (due : Prop) [Decidable due] :
    x.keepsCounts (if due then x.withCause c else x) := by
  split
  · exact x.keepsCounts_withCause c
  · exact .inl ⟨rfl, rfl, rfl⟩

/-- A close command for a line end keeps the counts of a close under way. -/
theorem Arm.keepsCounts_closedForLineEnd (x : Arm) : x.keepsCounts x.closedForLineEnd := by
  by_cases closing : x.state = .closing
  · exact .inl ⟨closing.symm, if_pos closing, if_pos closing⟩
  · exact .inr ⟨rfl, if_neg closing, if_neg closing⟩

/-- The record, the reduced-flow flag and the causes do not bear on it. -/
theorem Arm.keepsCounts.dosed {x y : Arm} (h : x.keepsCounts y) (d : Option DosingRecord) (b : Bool) (holds : HoldSet) :
    x.keepsCounts { y with dosing := d, reducedFlow := b, holds := holds } := h

/-- At a sample the counts go on by one, or begin behind a close that the sample itself has made. -/
theorem Arm.keepsCounts.counted {x y : Arm} (h : x.keepsCounts y) (pulses gross : Nat) :
    (y.counts pulses gross).state = x.state ∧
        (y.counts pulses gross).zeroRun = (if pulses = 0 then min 65535 (x.zeroRun + 1) else 0) ∧
        (y.counts pulses gross).closeCount = min 65535 (x.closeCount + 1) ∨
      (y.counts pulses gross).state = .closing ∧ (y.counts pulses gross).zeroRun ≤ 1 ∧
        (y.counts pulses gross).closeCount ≤ 1 := by
  rcases h with ⟨state, zeroRun, closeCount⟩ | ⟨state, zeroRun, closeCount⟩
  · refine .inl ⟨state, ?_, ?_⟩
    · rw [← zeroRun]
      rfl
    · rw [← closeCount]
      rfl
  · refine .inr ⟨state, ?_, ?_⟩ <;> simp only [Arm.counts, zeroRun, closeCount]
    · split <;> omega
    · omega

theorem State.dosed_keepsCounts {s t : State} {a : Fin 6} {i : Fin 8} {r : DosingRecord} (h : s.dosed t a i r) :
    (s.arm a).keepsCounts (t.arm a) := by
  obtain ⟨ht, -⟩ := h
  have arm := congrArg (fun u : State => u.arm a) ht
  dsimp only at arm
  rw [State.arm_raiseIf] at arm
  rw [arm.trans ((State.arm_modifyArm s a a _).trans (if_pos rfl))]
  exact Arm.keepsCounts.dosed ((s.arm a).keepsCounts_raised .additive _) _ _ _

theorem State.served_keepsCounts {s t : State} {a : Fin 6} {gross : Nat} (h : s.served t a gross) :
    (s.arm a).keepsCounts (t.arm a) := by
  obtain ⟨none, some⟩ := h
  cases hd : (s.arm a).dosing with
  | none =>
    rw [none hd]
    exact .inl ⟨rfl, rfl, rfl⟩
  | some r =>
    obtain ⟨unengaged, engaged⟩ := some r hd
    cases he : (s.arm a).engaged with
    | none =>
      rw [unengaged he, State.arm_modifyArm, if_pos rfl]
      exact .inl ⟨rfl, rfl, rfl⟩
    | some i => exact State.dosed_keepsCounts (engaged i he)

theorem State.finishDosing_keepsCounts {s : State} {a : Fin 6} (h : (s.arm a).doses) :
    (s.arm a).keepsCounts ((s.finishDosing a).arm a) := by
  by_cases accrues : ∃ r, (s.arm a).dosing = some r ∧ r.phase = .accruing
  · obtain ⟨r, hd, hp⟩ := accrues
    obtain ⟨hi, i, he⟩ := h.engaged hd hp
    have kept := State.dosed_keepsCounts (State.finishDosing_dosed hd hp he hi)
    rw [State.arm_modifyArm, if_pos rfl] at kept
    exact kept
  · rw [State.finishDosing_self fun r hd hp => accrues ⟨r, hd, hp⟩]
    exact .inl ⟨rfl, rfl, rfl⟩

/-- An arm that closes for a line end is CLOSING, its counts those of the close under way or 0. -/
theorem State.closesArm_keepsCounts {s : State} {a : Fin 6} (h : (s.arm a).doses) (idle : (s.arm a).state ≠ .idle)
    (locked : (s.arm a).state ≠ .locked) :
    ((s.closesArm a).arm a).state = .closing ∧ (s.arm a).keepsCounts ((s.closesArm a).arm a) := by
  have arm : (s.closesArm a).arm a = ((s.finishDosing a).arm a).closedForLineEnd := by
    rw [s.closesArm_eq h idle locked, State.settleDeadman_eq]
    exact (State.arm_modifyArm _ a a _).trans (if_pos rfl)
  rw [arm]
  exact ⟨rfl, (State.finishDosing_keepsCounts h).trans (Arm.keepsCounts_closedForLineEnd _)⟩

/-- A leak and the completion of a close are judged of nothing else. -/
theorem State.judgeClose_rests {n : State} {a : Fin 6} {pulses : Nat}
    (leak : ¬ (((n.arm a).state = .closing ∨ (n.arm a).state = .suspended) ∧ pulses ≠ 0 ∧ 50 ≤ (n.arm a).closeCount))
    (close : ¬ ((n.arm a).state = .closing ∧ 10 ≤ (n.arm a).zeroRun)) : n.judgeClose a pulses = n := by
  unfold State.judgeClose
  rw [if_neg leak, if_neg fun c => close ⟨c.1, c.2.1⟩]

/-! ### The sample up to its judgements, in whatever state the arm takes it -/

section Sampled

variable {s : State} {a : Fin 6} {ref : LineRef} {l : Line} (h : (s.arm a).active = some ref) (hl : s.lineAt ref = some l)
  (doses : (s.arm a).doses) (idle : (s.arm a).state ≠ .idle) (locked : (s.arm a).state ≠ .locked)

theorem State.lineCounted_at : (s.lineCounted a ref l).arm a =
    ((s.lineServed a ref l).arm a).counts (s.arm a).decoder.sampleCount (s.lineVolumes a).gross :=
  (State.arm_modifyArm _ a a _).trans (if_pos rfl)

include h hl doses in
/-- Below its preset the sample counts and stages the arm, and does nothing more. -/
theorem State.sampledFlow_below (bound : (s.arm a).stageGross + (s.lineVolumes a).gross ≤ 4294967295)
    (decides : ¬ s.decides a l) :
    s.sampledFlow a = (s.lineServed a ref l).modifyArm a (fun x =>
      x.sampled (s.arm a).decoder.sampleCount (s.lineVolumes a).gross (l.preset * 1000 - (s.nextLine a l).delivered)) := by
  have line := State.lineCounted_line (ref := ref) hl doses
  have active := State.lineCounted_active (l := l) h doses
  have state : ((s.lineCounted a ref l).arm a).state = ((s.lineServed a ref l).arm a).state := by
    rw [State.lineCounted_at]
    rfl
  simp only [State.sampledFlow_eq h hl doses bound, State.judgeFlow, State.activeLine_of active, line]
  rw [if_neg (State.decides_iff.not.mpr decides)]
  by_cases flowing : ((s.lineServed a ref l).arm a).state.flowing = true
  · have staged := Arm.staged_eq (state.symm ▸ flowing) (s.nextLine a l) (s.arm a).decoder.sampleCount
    rw [if_pos (state.symm ▸ flowing), State.modifyArm_congr _ a (g := fun x =>
      x.stages (l.preset * 1000 - (s.nextLine a l).delivered) (s.arm a).decoder.sampleCount) staged, State.lineCounted,
      State.modifyArm_modifyArm]
    refine State.modifyArm_congr _ a ?_
    rw [Arm.sampled, if_pos flowing]
  · rw [if_neg (state.symm ▸ flowing), State.lineCounted]
    refine State.modifyArm_congr _ a ?_
    rw [Arm.sampled, if_neg flowing]

include doses idle locked in
theorem State.lineCounted_live :
    ((s.lineCounted a ref l).arm a).state ≠ .idle ∧ ((s.lineCounted a ref l).arm a).state ≠ .locked := by
  obtain ⟨-, window, arm⟩ := State.lineCounted_arm (ref := ref) (l := l) doses
  rcases arm.state with same | closing
  · rw [same]
    exact ⟨idle, locked⟩
  · rw [closing]
    exact ⟨nofun, nofun⟩

include h hl doses idle locked in
/-- What a line sample leaves, up to the judgement of its leak and its close. -/
theorem State.sampledFlow_sampled (bound : (s.arm a).stageGross + (s.lineVolumes a).gross ≤ 4294967295) :
    s.lineSampled (s.sampledFlow a) a ref l := by
  obtain ⟨served, -⟩ := State.meteredLine_serves ref (s.nextLine a l) (s.lineVolumes a) doses
  refine ⟨s.lineServed a ref l, served, fun decides => ?_, State.sampledFlow_below h hl doses bound⟩
  obtain ⟨idle, locked⟩ := State.lineCounted_live (ref := ref) (l := l) doses idle locked
  rw [State.sampledFlow_decides h hl doses bound decides]
  exact State.closesArm_closesForLineEnd (State.lineCounted_arm doses).1 idle locked

include doses in
theorem State.lineServed_keepsCounts : (s.arm a).keepsCounts ((s.lineServed a ref l).arm a) := by
  obtain ⟨served, -⟩ := State.meteredLine_serves ref (s.nextLine a l) (s.lineVolumes a) doses
  have kept := State.served_keepsCounts served
  rw [show (s.meteredLine a ref (s.lineVolumes a) (s.nextLine a l)).arm a =
    { (s.arm a).metered (s.lineVolumes a) with lineCarries := (s.lineVolumes a).carries } from
      (State.arm_modifyArm s a a _).trans (if_pos rfl)] at kept
  exact kept

include h hl doses idle locked in
/-- The arm after a sample up to its judgements: it flows, or a close that this sample made is at its first count, or its state
and counts go on; and at the preset it is CLOSING. -/
theorem State.sampledFlow_counts (bound : (s.arm a).stageGross + (s.lineVolumes a).gross ≤ 4294967295) :
    let y := (s.sampledFlow a).arm a
    (s.decides a l → y.state = .closing) ∧
      (y.state.flowing = true ∨ y.state = .closing ∧ y.zeroRun ≤ 1 ∧ y.closeCount ≤ 1 ∨
        y.state = (s.arm a).state ∧
          y.zeroRun = (if (s.arm a).decoder.sampleCount = 0 then min 65535 ((s.arm a).zeroRun + 1) else 0) ∧
          y.closeCount = min 65535 ((s.arm a).closeCount + 1)) := by
  intro y
  have counted := (State.lineServed_keepsCounts (ref := ref) (l := l) doses).counted (s.arm a).decoder.sampleCount
    (s.lineVolumes a).gross
  by_cases decides : s.decides a l
  · obtain ⟨idle, locked⟩ := State.lineCounted_live (ref := ref) (l := l) doses idle locked
    obtain ⟨closing, kept⟩ := State.closesArm_keepsCounts
      (s := (s.lineCounted a ref l).modifyLine ref (fun _ => s.lineAfter a l)) (State.lineCounted_arm doses).1 idle locked
    rw [← State.sampledFlow_decides h hl doses bound decides] at closing kept
    have kept : ((s.lineCounted a ref l).arm a).keepsCounts y := kept
    rw [State.lineCounted_at] at kept
    refine ⟨fun _ => closing, .inr ?_⟩
    rcases kept with ⟨state, zeroRun, closeCount⟩ | ⟨-, zeroRun, closeCount⟩
    · rw [state, zeroRun, closeCount]
      exact counted.symm
    · exact .inl ⟨closing, by omega, by omega⟩
  · have arm : y = ((s.lineServed a ref l).arm a).sampled (s.arm a).decoder.sampleCount (s.lineVolumes a).gross
        (l.preset * 1000 - (s.nextLine a l).delivered) := by
      refine (congrArg (fun t : State => t.arm a) (State.sampledFlow_below h hl doses bound decides)).trans ?_
      exact (State.arm_modifyArm _ a a _).trans (if_pos rfl)
    refine ⟨fun c => absurd c decides, ?_⟩
    rw [arm, Arm.sampled]
    split
    · exact .inl (Arm.stages_flowing _ _ _)
    · exact .inr counted.symm

include h hl doses idle locked in
/-- A sample finds no leak that is without pulses, comes before the 50th of its close, or has the arm flow or close anew; and it
completes no close with pulses, or with fewer than ten still, or of an arm that was not CLOSING. -/
theorem State.sampledFlow_rests (bound : (s.arm a).stageGross + (s.lineVolumes a).gross ≤ 4294967295)
    (leak : (s.arm a).decoder.sampleCount = 0 ∨ (s.arm a).closeCount < 49 ∨ (s.arm a).state.flowing = true ∨
      (s.arm a).state = .suspended ∧ s.decides a l)
    (close : (s.arm a).decoder.sampleCount ≠ 0 ∨ (s.arm a).zeroRun < 9 ∨ (s.arm a).state ≠ .closing) :
    (s.sampledFlow a).judgeClose a (s.arm a).decoder.sampleCount = s.sampledFlow a := by
  obtain ⟨decided, counts⟩ := State.sampledFlow_counts h hl doses idle locked bound
  have stops {x : ArmState} (flowing : x.flowing = true) : x ≠ .closing ∧ x ≠ .suspended := by
    constructor <;> rintro rfl <;> cases flowing
  rcases counts with flowing | ⟨-, zeroRun, closeCount⟩ | ⟨state, zeroRun, closeCount⟩
  · obtain ⟨closing, suspended⟩ := stops flowing
    exact State.judgeClose_rests (fun c => c.1.elim closing suspended) (fun c => closing c.1)
  · exact State.judgeClose_rests (fun c => by omega) (fun c => by omega)
  · refine State.judgeClose_rests (fun c => ?_) (fun c => ?_)
    · rcases leak with none | early | flowing | ⟨suspended, decides⟩
      · exact c.2.1 none
      · omega
      · obtain ⟨closing, suspended⟩ := stops (state ▸ flowing)
        exact c.1.elim closing suspended
      · rw [suspended, decided decides] at state
        cases state
    · rcases close with some | short | still
      · rw [if_neg some] at zeroRun
        omega
      · split at zeroRun <;> omega
      · exact still (state.symm.trans c.1)

end Sampled

end Sys2Proof.Machine
end

section
namespace Sys2Proof.Proofs
open Sys2Proof Sys2Proof.Machine

/-- Settles O33: the sample up to its judgements, which find no leak and no completed close. -/
theorem lineSamples : Obligations.LineSamples := by
  unfold Obligations.LineSamples
  intro a s ref l active hl idle locked doses due v pulses bound leak close
  have rests := State.sampledFlow_rests active hl doses idle locked bound leak close
  refine ⟨s.sampledFlow a, ?_, State.sampledFlow_sampled active hl doses idle locked bound⟩
  exact congrArg Host.Outcome.next ((State.expiry_own due _).trans ((State.sample_line active).trans rests))

end Sys2Proof.Proofs
end

section
/-! The volume correction factor and the meter factor: quotients rounded to nearest, halves up (R69, R70, R72, R73). -/

namespace Sys2Proof.Machine

/-! ### The VCF (R72, R73) -/

/-- A quotient rounded to nearest, halves up, lies within half a unit of the exact one. -/
theorem roundHalfUp_nearest {den : Nat} (h : 0 < den) (num : Int) :
    2 * den * roundHalfUp num den ≤ 2 * num + den ∧ 2 * num + den < 2 * den * (roundHalfUp num den + 1) := by
  have pos : (0 : Int) < 2 * den := by omega
  exact ⟨Int.mul_ediv_self_le pos.ne', Int.lt_mul_ediv_self_add pos |>.trans_eq (by rw [mul_add, mul_one]; rfl)⟩

/-- At the reference temperature nothing is corrected. -/
theorem rawVcf_reference (coefA coefB : Nat) : rawVcf coefA coefB 1500 = 100000 := by
  simp [rawVcf, roundHalfUp]

theorem vcf_below {coefA coefB : Nat} {temp : Int} (h : rawVcf coefA coefB temp < 90000) : vcf coefA coefB temp = 90000 :=
  if_pos h

theorem vcf_above {coefA coefB : Nat} {temp : Int} (h : 110000 < rawVcf coefA coefB temp) :
    vcf coefA coefB temp = 110000 :=
  (if_neg (by omega)).trans (if_pos h)

theorem vcf_within {coefA coefB : Nat} {temp : Int} (low : 90000 ≤ rawVcf coefA coefB temp)
    (high : rawVcf coefA coefB temp ≤ 110000) : (vcf coefA coefB temp : Int) = rawVcf coefA coefB temp := by
  have raw : vcf coefA coefB temp = (rawVcf coefA coefB temp).toNat := (if_neg (by omega)).trans (if_neg (by omega))
  rw [raw, Int.toNat_of_nonneg (by omega)]

/-! ### The meter factor (R69, R70) -/

/-- A value between two points is not negative: each point's factor is weighed by the flow's distance from the other. -/
theorem interpolate_nonneg {x y : CurvePoint} {q : Nat} (low : x.flow ≤ q) (high : q ≤ y.flow) :
    (0 : Int) ≤ x.factor * (y.flow - x.flow) + (q - x.flow) * (y.factor - x.factor) := by
  have weighed : (x.factor : Int) * (y.flow - x.flow) + (q - x.flow) * (y.factor - x.factor) =
      x.factor * (y.flow - q) + y.factor * (q - x.flow) := by ring
  rw [weighed]
  exact add_nonneg (mul_nonneg (Int.natCast_nonneg _) (by omega)) (mul_nonneg (Int.natCast_nonneg _) (by omega))

/-- A meter factor `f` is the linear value at flow `q` between the points `x` and `y`, rounded to nearest, halves up (R70). -/
def linearBetween (x y : CurvePoint) (q f : Nat) : Prop :=
  let num : Int := x.factor * (y.flow - x.flow) + (q - x.flow) * (y.factor - x.factor)
  let den : Int := y.flow - x.flow
  2 * den * f ≤ 2 * num + den ∧ 2 * num + den < 2 * den * (f + 1)

theorem interpolate_linear {x y : CurvePoint} {q : Nat} (rising : x.flow < y.flow) (low : x.flow ≤ q) (high : q ≤ y.flow) :
    linearBetween x y q (interpolate x y q) := by
  obtain ⟨num, hnum⟩ : ∃ num : Int, num = x.factor * (y.flow - x.flow) + (q - x.flow) * (y.factor - x.factor) := ⟨_, rfl⟩
  have den : ((y.flow - x.flow : Nat) : Int) = y.flow - x.flow := Int.ofNat_sub rising.le
  have nonneg : 0 ≤ roundHalfUp num (y.flow - x.flow) := by
    have := interpolate_nonneg low high
    exact Int.ediv_nonneg (by omega) (by omega)
  have nearest := roundHalfUp_nearest (Nat.sub_pos_of_lt rising) num
  unfold linearBetween interpolate
  rw [← hnum, Int.toNat_of_nonneg nonneg, ← den]
  exact nearest

/-- An exact linear value is its own rounding. -/
theorem linearBetween_of_exact {x y : CurvePoint} (rising : x.flow < y.flow) {q f : Nat}
    (same : (x.factor : Int) * (y.flow - x.flow) + (q - x.flow) * (y.factor - x.factor) = (y.flow - x.flow) * f) :
    linearBetween x y q f := by
  simp only [linearBetween, same, mul_assoc, mul_add, mul_one]
  omega

/-- At its two ends the line between two points meets them. -/
theorem linearBetween_left {x y : CurvePoint} (rising : x.flow < y.flow) : linearBetween x y x.flow x.factor :=
  linearBetween_of_exact rising (by ring)

theorem linearBetween_right {x y : CurvePoint} (rising : x.flow < y.flow) : linearBetween x y y.flow y.factor :=
  linearBetween_of_exact rising (by ring)

/-- At or below its first point a curve gives that point's factor. -/
theorem curveFactor_first {x : CurvePoint} {q : Nat} (h : q ≤ x.flow) (rest : List CurvePoint) :
    curveFactor (x :: rest) q = x.factor := by
  cases rest with
  | nil => rfl
  | cons y rest => exact if_pos h

/-- At or above its second point a curve gives what it gives without its first. -/
theorem curveFactor_rest {x y : CurvePoint} {q : Nat} (rising : x.flow < y.flow) (h : y.flow ≤ q) (rest : List CurvePoint) :
    curveFactor (x :: y :: rest) q = curveFactor (y :: rest) q :=
  (if_neg (by omega)).trans (if_neg (by omega))

/-- At or above its last point a rising curve gives that point's factor. -/
theorem curveFactor_last {q : Nat} : ∀ {curve : List CurvePoint}, curve.Pairwise (fun x y => x.flow < y.flow) →
    ∀ {x : CurvePoint}, curve.getLast? = some x → x.flow ≤ q → curveFactor curve q = x.factor
  | [p], _, x, last, _ => by
    cases last
    rfl
  | p :: y :: rest, rising, x, last, above => by
    obtain ⟨first, rising⟩ := List.pairwise_cons.mp rising
    have last : (y :: rest).getLast? = some x := last
    have reached : y.flow ≤ q := by
      rcases List.mem_cons.mp (List.mem_of_getLast? last) with rfl | later
      · exact above
      · exact ((List.pairwise_cons.mp rising).1 x later).le.trans above
    rw [curveFactor_rest (first y (.head _)) reached]
    exact curveFactor_last rising last above

/-- Between its first two points a rising curve is linear. -/
theorem curveFactor_firstSegment {x y : CurvePoint} {q : Nat} (rising : x.flow < y.flow) (low : x.flow ≤ q)
    (high : q ≤ y.flow) (rest : List CurvePoint) : linearBetween x y q (curveFactor (x :: y :: rest) q) := by
  rcases low.eq_or_lt with rfl | above
  · rw [curveFactor_first le_rfl]
    exact linearBetween_left rising
  · rcases high.eq_or_lt with rfl | below
    · rw [curveFactor_rest rising le_rfl, curveFactor_first le_rfl]
      exact linearBetween_right rising
    · have inside : curveFactor (x :: y :: rest) q = interpolate x y q := (if_neg (by omega)).trans (if_pos below)
      rw [inside]
      exact interpolate_linear rising low high

/-- Between any two points that follow each other a rising curve is linear. -/
theorem curveFactor_segment {q : Nat} : ∀ {curve : List CurvePoint}, curve.Pairwise (fun x y => x.flow < y.flow) →
    ∀ {k : Nat} {x y : CurvePoint}, curve[k]? = some x → curve[k + 1]? = some y → x.flow ≤ q → q ≤ y.flow →
      linearBetween x y q (curveFactor curve q)
  | p :: p' :: rest, rising, 0, x, y, hx, hy, low, high => by
    cases hx
    cases hy
    exact curveFactor_firstSegment ((List.pairwise_cons.mp rising).1 _ (.head _)) low high rest
  | p :: p' :: rest, rising, k + 1, x, y, hx, hy, low, high => by
    obtain ⟨first, rising⟩ := List.pairwise_cons.mp rising
    have hx : (p' :: rest)[k]? = some x := hx
    have reached : p'.flow ≤ q := by
      rcases List.mem_cons.mp (List.mem_of_getElem? hx) with rfl | later
      · exact low
      · exact ((List.pairwise_cons.mp rising).1 x later).le.trans low
    rw [curveFactor_rest (first p' (.head _)) reached]
    exact curveFactor_segment rising hx hy low high

end Sys2Proof.Machine
end

section
namespace Sys2Proof.Proofs
open Sys2Proof Sys2Proof.Machine

/-- Settles O29: the raw VCF is the rounded quotient, and the clamp has three cases. -/
theorem volumeCorrection : Obligations.VolumeCorrection := by
  unfold Obligations.VolumeCorrection
  refine ⟨fun coefA coefB temp => ?_, fun coefA coefB => ?_, fun _ => rfl, by decide, by decide, by decide⟩
  · obtain ⟨low, high⟩ := roundHalfUp_nearest (den := 100000000) (by decide)
      (10000000000000 - coefA * (temp - 1500) * 100000 + coefB * ((temp - 1500) * (temp - 1500)))
    exact ⟨rawVcf coefA coefB temp, low, high, vcf_below, vcf_above, vcf_within⟩
  · have raw := rawVcf_reference coefA coefB
    have within := vcf_within (coefA := coefA) (coefB := coefB) (temp := 1500) (by omega) (by omega)
    omega

/-- Settles O30: the ends by the curve's first and last points, the rest segment by segment. -/
theorem meterFactorCurve : Obligations.MeterFactorCurve := by
  unfold Obligations.MeterFactorCurve
  refine ⟨fun _ => rfl, fun curve q rising => ⟨fun x first below => ?_, fun x => curveFactor_last rising, fun k x y =>
    curveFactor_segment rising⟩⟩
  obtain ⟨rest, rfl⟩ := List.head?_eq_some_iff.mp first
  exact curveFactor_first below rest

end Sys2Proof.Proofs
end

section
/-! The end of a gate: every probe judged, its arm acted on, the deadman timer behind them (R62 to R67, R116). -/

namespace Sys2Proof.Machine

/-! ### The temperature of a gate (R64) -/

/-- A quotient rounded to nearest, halves away from zero, lies within half a unit of the exact one, and on the far side of a
tie. -/
theorem roundHalfAway_nearest {den : Nat} (h : 0 < den) (num : Int) :
    2 * |den * roundHalfAway num den - num| ≤ den ∧
      (2 * |den * roundHalfAway num den - num| = den → |num| ≤ den * |roundHalfAway num den|) := by
  have pos : (0 : Int) < den := by omega
  unfold roundHalfAway
  split
  · next nonneg => exact nearest_spec pos nonneg
  · next negative =>
    obtain ⟨q, hq⟩ : ∃ q, (2 * -num + (den : Int)) / (2 * den) = q := ⟨_, rfl⟩
    have spec := nearest_spec pos (t := -num) (by omega)
    have flipped : |(den : Int) * -q - num| = |den * q - -num| := by
      rw [← abs_neg]
      congr 1
      ring
    rw [hq, abs_neg num] at spec
    rwa [hq, flipped, abs_neg]

theorem Probe.measures_gateTemperature (p : Probe) (offset : Int) : p.measures offset (gateTemperature p.count offset) := by
  refine ⟨fun none => if_pos none, fun some => ⟨rawTemperature p.count, if_neg some, ?_⟩⟩
  have nearest := roundHalfAway_nearest (den := 385 * p.count) (by omega) ((40000 - (p.count : Int)) * 10000000)
  rw [Nat.cast_mul] at nearest
  exact nearest

/-! ### A probe's count (R62) -/

/-- A probe's count takes an edge, up to the top of its range. -/
theorem execProbeEdge_eq (a : Fin 6) (s : State) : execProbeEdge a s =
    .next { s with probes := s.probes.modify a (fun p => { p with count := min 4294967295 (p.count + 1) }) } := by
  have saturates (n : Nat) : (if n < Config.maxCount32 then n + 1 else Config.maxCount32) = min 4294967295 (n + 1) := by
    rw [show Config.maxCount32 = 4294967295 from rfl]
    split <;> omega
  simp only [execProbeEdge, saturates]

/-! ### A probe's move (R65, R66) -/

/-- What a probe's passage from `p` to `q` brings about on its arm (R67). -/
def Probe.eventTo (p q : Probe) : ProbeEvent :=
  if q.status = .failed ∧ p.status ≠ .failed then .failed
  else if p.status = .failed ∧ q.status = .valid then .recovered
  else .none

theorem Probe.eventTo_failed {p q : Probe} : p.eventTo q = .failed ↔ q.status = .failed ∧ p.status ≠ .failed := by
  unfold Probe.eventTo
  split
  · next h => exact ⟨fun _ => h, fun _ => rfl⟩
  · next h => split <;> exact ⟨nofun, fun c => absurd c h⟩

/-- An invalid gate moves a probe by the table of R66. -/
theorem Probe.invalidMove_spec (p : Probe) :
    (p.invalidMove.1.count = p.count ∧ p.invalidMove.1.lastGate = p.lastGate ∧ p.fails p.invalidMove.1) ∧
      p.invalidMove.2 = p.eventTo p.invalidMove.1 := by
  unfold Probe.invalidMove Probe.fails Probe.eventTo
  cases hs : p.status
  case valid => simp
  case failed => simp
  case unknown => by_cases early : p.invalidRun < 10 <;> simp [early]
  case holding => by_cases early : p.invalidRun < 10 <;> simp [early]

/-- A valid gate moves a probe by the table of R65. -/
theorem Probe.validMove_spec {p : Probe} {x : Int} (valid : -4500 ≤ x ∧ x ≤ 6500) (count : p.count = 0)
    (last : p.lastGate = some x) :
    p.moves (p.validMove x).1 (some x) ∧ (p.validMove x).2 = p.eventTo (p.validMove x).1 := by
  simp only [Probe.moves, if_pos valid]
  unfold Probe.validMove Probe.eventTo
  cases hs : p.status
  case failed =>
    rcases Nat.lt_or_ge p.recoveryRun 2 with early | late
    · simp [early, count, last]
    · simp [late, Nat.not_lt.mpr late, count, last]
  case unknown => simp [count, last]
  case valid => simp [count, last]
  case holding => simp [count, last]

/-- A gate's judgement moves a probe by the tables of R65 and R66. -/
theorem Probe.judge_spec (p : Probe) (t : Option Int) :
    p.moves (p.judge t).1 t ∧ (p.judge t).2 = p.eventTo (p.judge t).1 := by
  obtain ⟨⟨count, last, fails⟩, event⟩ := ({ p with count := 0, lastGate := t } : Probe).invalidMove_spec
  cases t with
  | none => exact ⟨⟨count, last, fails⟩, event⟩
  | some x =>
    have valid_iff : validGate x = true ↔ -4500 ≤ x ∧ x ≤ 6500 := by simp [validGate]
    by_cases valid : -4500 ≤ x ∧ x ≤ 6500
    · have judged : p.judge (some x) = ({ p with count := 0, lastGate := some x } : Probe).validMove x :=
        if_pos (valid_iff.mpr valid)
      rw [judged]
      exact Probe.validMove_spec valid rfl rfl
    · have judged : p.judge (some x) = ({ p with count := 0, lastGate := some x } : Probe).invalidMove :=
        if_neg (mt valid_iff.mp valid)
      rw [judged]
      refine ⟨⟨count, last, ?_⟩, event⟩
      dsimp only
      rw [if_neg valid]
      exact fails

/-! ### The deadman timer behind arms that close (R116) -/

/-- No arm begins to flow from `s` to `t`, and the deadman timer follows where one has left the flowing states. -/
structure State.calms (s t : State) : Prop where
  fewer : ∀ a, (t.arm a).state.flowing = true → (s.arm a).state.flowing = true
  bay : if ∃ a, (s.arm a).state.flowing = true ∧ (t.arm a).state.flowing = false then s.bayFollows t else t.bay = s.bay

/-- Arms that flow on as they did, under the same bay. -/
theorem State.calms_of_same {s t : State} (arms : ∀ a, (t.arm a).state.flowing = (s.arm a).state.flowing)
    (bay : t.bay = s.bay) : s.calms t :=
  ⟨fun a h => arms a ▸ h, (if_neg fun ⟨a, flows, still⟩ => by rw [arms a, flows] at still; cases still).mpr bay⟩

theorem State.calms_trans {s t v : State} (h : s.calms t) (g : t.calms v) : s.calms v := by
  refine ⟨fun a flows => h.fewer a (g.fewer a flows), ?_⟩
  have first : s.bayFollows t ∨ t.bay = s.bay := by
    have bay := h.bay
    split at bay
    · exact .inl bay
    · exact .inr bay
  by_cases left : ∃ a, (t.arm a).state.flowing = true ∧ (v.arm a).state.flowing = false
  · obtain ⟨a, flows, still⟩ := left
    rw [if_pos ⟨a, h.fewer a flows, still⟩]
    have follows : t.bayFollows v := (if_pos ⟨a, flows, still⟩).mp g.bay
    exact State.bayFollows_trans first follows fun ⟨b, hb⟩ => ⟨b, g.fewer b hb⟩
  · have bay : v.bay = t.bay := (if_neg left).mp g.bay
    have same : ∀ b, (v.arm b).state.flowing = (t.arm b).state.flowing := fun b => by
      cases ht : (t.arm b).state.flowing with
      | false => exact Bool.eq_false_iff.mpr fun c => by rw [g.fewer b c] at ht; cases ht
      | true => exact Bool.not_eq_false _ ▸ fun c => left ⟨b, ht, c⟩
    have whole := h.bay
    unfold State.bayFollows at whole ⊢
    simp only [same, bay]
    exact whole

/-- A cause raised closes an arm that flows, carries a line and lacks the cause, and moves no other from its state (R105). -/
theorem Arm.withCause_state (x : Arm) (c : HoldCause) : (x.withCause c).state =
    if x.state.flowing = true ∧ x.active.isSome = true ∧ x.holds.has c = false then .closing else x.state := by
  unfold Arm.withCause
  by_cases takes : x.active.isSome = true ∧ x.holds.has c = false
  · by_cases flows : x.state.flowing = true
    · rw [if_pos takes, if_pos flows, if_pos ⟨flows, takes⟩]
    · rw [if_pos takes, if_neg flows, if_neg fun h => flows h.1]
  · rw [if_neg takes, if_neg fun h => takes h.2]

theorem Arm.withCause_stops (x : Arm) (c : HoldCause) :
    x.state.flowing = true ∧ (x.withCause c).state.flowing = false ↔
      x.state.flowing = true ∧ x.active.isSome = true ∧ x.holds.has c = false := by
  rw [Arm.withCause_state]
  split
  · next stops => exact ⟨fun _ => stops, fun _ => ⟨stops.1, rfl⟩⟩
  · next stays => exact ⟨fun ⟨flows, still⟩ => absurd (flows.symm.trans still) nofun, fun stops => absurd stops stays⟩

theorem Arm.flowing_of_withCause {x : Arm} {c : HoldCause} (h : (x.withCause c).state.flowing = true) :
    x.state.flowing = true := by
  rw [Arm.withCause_state] at h
  split at h
  · cases h
  · exact h

theorem State.heldBy_arm {s t : State} {a : Fin 6} {c : HoldCause} (h : s.heldBy t a c) (b : Fin 6) :
    t.arm b = if b = a then (s.arm b).withCause c else s.arm b := by
  rw [State.arm_congr (congrArg State.arms h.1)]
  exact s.arm_modifyArm a b fun x => x.withCause c

theorem State.heldBy_port {s t : State} {a : Fin 6} {c : HoldCause} (h : s.heldBy t a c) (p : PortId) :
    t.port p = s.port p :=
  State.port_congr ((congrArg State.terminal h.1).trans rfl) ((congrArg State.console h.1).trans rfl) p

/-- The deadman timer follows a cause raised for one arm. -/
theorem State.heldBy_calms {s t : State} {a : Fin 6} {c : HoldCause} (h : s.heldBy t a c) : s.calms t := by
  have arm := State.heldBy_arm h
  refine ⟨fun b flows => ?_, ?_⟩
  · rw [arm] at flows
    split at flows
    · exact Arm.flowing_of_withCause flows
    · exact flows
  · have stops : (∃ b, (s.arm b).state.flowing = true ∧ (t.arm b).state.flowing = false) ↔
        (s.arm a).state.flowing = true ∧ (s.arm a).active.isSome = true ∧ (s.arm a).holds.has c = false := by
      rw [← Arm.withCause_stops]
      constructor
      · rintro ⟨b, flows, still⟩
        rw [arm] at still
        split at still
        · next same => exact same ▸ ⟨flows, still⟩
        · rw [flows] at still
          cases still
      · rintro ⟨flows, still⟩
        exact ⟨a, flows, by rw [arm, if_pos rfl]; exact still⟩
    obtain ⟨-, bay⟩ := h
    simp only [stops]
    exact bay

/-! ### A probe's event on its arm (R67) -/

/-- An arm as its probe's event leaves it (R67). -/
def Arm.probed (x : Arm) : ProbeEvent → Arm
  | .none => x
  | .failed => x.withCause .probe
  | .recovered => { x with holds := { x.holds with probe := false } }

/-- What is announced stays so where the ports gain notices at most. -/
theorem State.announced_of_raisesOnly {s t : State} {raised : NoticeKind → Nat → Prop} (h : s.raisesOnly t raised)
    {k : NoticeKind} {subject : Nat} (announced : s.announced k subject) : t.announced k subject := by
  intro p enabled
  obtain ⟨new, port, -⟩ := h p
  rw [port] at enabled ⊢
  obtain ⟨n, mem, same⟩ := announced p enabled
  exact ⟨n, List.mem_append_left _ mem, same⟩

/-- Nothing is raised where the ports stay. -/
theorem State.raisesOnly_of_same {s t : State} (terminal : t.terminal = s.terminal) (console : t.console = s.console)
    (raised : NoticeKind → Nat → Prop) : s.raisesOnly t raised := fun p =>
  ⟨[], by rw [List.append_nil]; exact State.port_congr terminal console p, by simp⟩

/-- Probe `a` has become `q` from `s` to `t`, and its event `e` has acted on arm `a`: the arm moves, PROBE_FAULT is raised for it
where the probe failed, the deadman timer follows, and nothing else moves (R67). -/
structure State.probeActed (s t : State) (a : Fin 6) (q : Probe) (e : ProbeEvent) : Prop where
  frame : t = { s with
    probes := s.probes.set a q, arms := s.arms.modify a (fun x => x.probed e), bay := t.bay, terminal := t.terminal
    console := t.console }
  calms : s.calms t
  raises : s.raisesOnly t (fun k subject => k = .probeFault ∧ subject = number a ∧ e = .failed)
  announces : e = .failed → t.announced .probeFault (number a)

theorem State.probeActed_probeActs (s : State) (a : Fin 6) (q : Probe) (e : ProbeEvent) :
    s.probeActed (({ s with probes := s.probes.set a q } : State).probeActs a e) a q e := by
  obtain ⟨m, hm⟩ : ∃ m : State, m = { s with probes := s.probes.set a q } := ⟨_, rfl⟩
  have quiet {t : State} (terminal : t.terminal = s.terminal) (console : t.console = s.console) :=
    State.raisesOnly_of_same terminal console fun k subject => k = .probeFault ∧ subject = number a ∧ e = .failed
  rw [← hm]
  cases e with
  | none =>
    have acts : m.probeActs a .none = m := rfl
    rw [acts, hm]
    refine ⟨?_, State.calms_of_same (fun _ => rfl) rfl, quiet rfl rfl, nofun⟩
    exact congrArg (fun arms => { s with probes := s.probes.set a q, arms := arms }) (s.arms.set_get_self a).symm
  | recovered =>
    have acts : m.probeActs a .recovered = m.clearHold a .probe := rfl
    rw [acts, hm]
    refine ⟨rfl, State.calms_of_same (fun b => ?_) rfl, quiet rfl rfl, nofun⟩
    rw [State.clearHold, State.arm_modifyArm]
    split <;> rfl
  | failed =>
    obtain ⟨u, hu⟩ : ∃ u, u = m.raise .probeFault (number a) := ⟨_, rfl⟩
    have acts : m.probeActs a .failed = u.raiseHold a .probe := by rw [hu]; rfl
    have held := u.raiseHold_heldBy a .probe
    have port := State.heldBy_port held
    have begins : s.calms u := by
      rw [hu, hm]
      exact State.calms_of_same (fun _ => rfl) rfl
    have raises : s.raisesOnly u (fun k subject => k = .probeFault ∧ subject = number a) := by
      rw [hu]
      exact State.raisesOnly_from (m.raisesOnly_raise _ _) (by rw [hm]) (by rw [hm]) (by rw [hm]; rfl)
    have announces : u.announced .probeFault (number a) := hu ▸ m.announced_raise _ _
    rw [acts]
    refine ⟨?_, State.calms_trans begins (State.heldBy_calms held), fun p => ?_, fun _ p => ?_⟩
    · obtain ⟨frame, -⟩ := held
      rw [frame, hu, hm]
      rfl
    · rw [port]
      obtain ⟨new, gains, each⟩ := raises p
      refine ⟨new, gains, fun n mem => ?_⟩
      obtain ⟨⟨kind, subject⟩, time⟩ := each n mem
      exact ⟨⟨kind, subject, rfl⟩, time⟩
    · rw [port]
      exact announces p

/-! ### Every probe in turn -/

/-- The temperature that the gate's end gives a probe (R62 to R64). -/
def State.gateReading (s : State) (timedOut : Bool) (a : Fin 6) : Option Int :=
  if timedOut then none else gateTemperature (s.probes.get a).count (s.meterStore a).offset

/-- The gate's judgement of a probe (R65, R66). -/
def State.judgement (s : State) (timedOut : Bool) (a : Fin 6) : Probe × ProbeEvent :=
  (s.probes.get a).judge (s.gateReading timedOut a)

/-- The gate has judged the probes of these arms from `s` to `t`. -/
structure State.judgedTo (s t : State) (timedOut : Bool) (done : List (Fin 6)) : Prop where
  frame : t = { s with
    probes := t.probes, arms := t.arms, bay := t.bay, terminal := t.terminal, console := t.console }
  probes : ∀ b, t.probes.get b = if b ∈ done then (s.judgement timedOut b).1 else s.probes.get b
  arms : ∀ b, t.arm b = if b ∈ done then (s.arm b).probed (s.judgement timedOut b).2 else s.arm b
  calms : s.calms t
  raises : s.raisesOnly t (fun k subject => k = .probeFault ∧ ∃ a, subject = number a ∧ (s.judgement timedOut a).2 = .failed)
  announces : ∀ b ∈ done, (s.judgement timedOut b).2 = .failed → t.announced .probeFault (number b)

theorem State.judgedTo_nil (s : State) (timedOut : Bool) : s.judgedTo s timedOut [] :=
  ⟨rfl, fun _ => (if_neg List.not_mem_nil).symm, fun _ => (if_neg List.not_mem_nil).symm, State.calms_of_same (fun _ => rfl) rfl,
    s.raisesOnly_refl _, fun _ h => absurd h List.not_mem_nil⟩

/-- A probe not yet judged is judged as the gate found it. -/
theorem State.judgement_fresh {s t : State} {timedOut : Bool} {done : List (Fin 6)} (h : s.judgedTo t timedOut done)
    {a : Fin 6} (fresh : a ∉ done) : t.judgement timedOut a = s.judgement timedOut a := by
  have probe : t.probes.get a = s.probes.get a := (h.probes a).trans (if_neg fresh)
  have store : t.meterStore a = s.meterStore a := by rw [h.frame]; rfl
  simp only [State.judgement, State.gateReading, probe, store]

/-- One probe more is judged. -/
theorem State.judgedTo_judgeProbe {s t : State} {timedOut : Bool} {done : List (Fin 6)} (h : s.judgedTo t timedOut done)
    {a : Fin 6} (fresh : a ∉ done) : s.judgedTo (t.judgeProbe a timedOut) timedOut (done ++ [a]) := by
  obtain ⟨v, hv⟩ : ∃ v, v = t.judgeProbe a timedOut := ⟨_, rfl⟩
  have acted : t.probeActed v a (s.judgement timedOut a).1 (s.judgement timedOut a).2 := by
    rw [hv, ← State.judgement_fresh h fresh]
    exact t.probeActed_probeActs a _ _
  have member : ∀ b, b ∈ done ++ [a] ↔ b ∈ done ∨ b = a := by simp
  rw [← hv]
  refine ⟨?_, fun b => ?_, fun b => ?_, State.calms_trans h.calms acted.calms, ?_, fun b mem failed => ?_⟩
  · have rest : v = { t with
        probes := v.probes, arms := v.arms, bay := v.bay, terminal := v.terminal, console := v.console } := by
      rw [acted.frame]
    exact rest.trans (congrArg (fun w : State => { w with
      probes := v.probes, arms := v.arms, bay := v.bay, terminal := v.terminal, console := v.console }) h.frame)
  · have probes : v.probes = t.probes.set a (s.judgement timedOut a).1 := by rw [acted.frame]
    rw [probes, Table.get_set, h.probes]
    by_cases own : b = a
    · rw [if_pos own, if_pos ((member b).mpr (.inr own)), own]
    · simp [own]
  · have arm : v.arm b = if b = a then (t.arm b).probed (s.judgement timedOut a).2 else t.arm b := by
      rw [State.arm_congr (congrArg State.arms acted.frame)]
      exact t.arm_modifyArm a b fun x => x.probed (s.judgement timedOut a).2
    rw [arm, h.arms]
    by_cases own : b = a
    · rw [if_pos own, if_pos ((member b).mpr (.inr own)), own, if_neg fresh]
    · simp [own]
  · refine State.raisesOnly_trans (by rw [h.frame]; rfl) h.raises (State.raisesOnly_mono acted.raises ?_)
    rintro k subject ⟨kind, own, failed⟩
    exact ⟨kind, a, own, failed⟩
  · rcases (member b).mp mem with before | rfl
    · exact State.announced_of_raisesOnly acted.raises (h.announces b before failed)
    · exact acted.announces failed

theorem State.judgedTo_endGate (s : State) (timedOut : Bool) :
    ({ s with gate := Gate.cold } : State).judgedTo (s.endGate timedOut) timedOut (List.finRange 6) := by
  rw [State.endGate, State.forArms, armList_eq_finRange]
  exact foldl_finRange (P := fun done t => ({ s with gate := Gate.cold } : State).judgedTo t timedOut done)
    (State.judgedTo_nil _ timedOut) fun done t a h fresh => State.judgedTo_judgeProbe h fresh

/-- The end of a gate moves every probe by its reading, and its arm by the probe's move. -/
theorem State.gateEnded_endGate (s : State) (timedOut : Bool) :
    s.gateEnded (s.endGate timedOut) (s.gateReading timedOut) := by
  obtain ⟨frame, probes, arms, ⟨-, bay⟩, raises, announces⟩ := s.judgedTo_endGate timedOut
  have same : ∀ a, ({ s with gate := Gate.cold } : State).judgement timedOut a = s.judgement timedOut a := fun _ => rfl
  have probe : ∀ a, (s.endGate timedOut).probes.get a = (s.judgement timedOut a).1 := fun a =>
    (probes a).trans (if_pos (List.mem_finRange a))
  have arm : ∀ a, (s.endGate timedOut).arm a = (s.arm a).probed (s.judgement timedOut a).2 := fun a =>
    (arms a).trans (if_pos (List.mem_finRange a))
  have moves : ∀ a, (s.probes.get a).moves (s.judgement timedOut a).1 (s.gateReading timedOut a) ∧
      (s.judgement timedOut a).2 = (s.probes.get a).eventTo (s.judgement timedOut a).1 := fun a => Probe.judge_spec _ _
  refine ⟨frame, bay, State.raisesOnly_from (State.raisesOnly_mono raises ?_), fun a => ?_⟩
  · rintro k subject ⟨kind, a, own, failed⟩
    rw [same, (moves a).2, Probe.eventTo_failed, ← probe] at failed
    exact ⟨kind, a, own, failed⟩
  · have announced := announces a (List.mem_finRange a)
    rw [same, (moves a).2] at announced
    rw [arm, (moves a).2, probe]
    refine ⟨(moves a).1, ?_⟩
    unfold Probe.eventTo at announced ⊢
    split
    · next failed => exact ⟨rfl, announced (if_pos failed)⟩
    · split
      · rfl
      · rfl

end Sys2Proof.Machine
end

section
namespace Sys2Proof.Proofs
open Sys2Proof Sys2Proof.Machine

/-- Settles O31: the edges count, and either end of a gate judges every probe by its reading. -/
theorem gatesJudgeTheProbes : Obligations.GatesJudgeTheProbes := by
  unfold Obligations.GatesJudgeTheProbes
  intro s
  refine ⟨fun short => ?_, fun last => ?_, fun a => ?_, ?_, fun due => ?_⟩
  · exact if_pos (Nat.add_lt_of_lt_sub short)
  · exact if_neg (by rw [last]; decide)
  · exact execProbeEdge_eq a s
  · exact ⟨s.endGate false, s.gateReading false, rfl, fun a => Probe.measures_gateTemperature _ _, s.gateEnded_endGate false⟩
  · exact ⟨s.endGate true, congrArg Host.Outcome.next (State.expiry_own due _), s.gateEnded_endGate true⟩

end Sys2Proof.Proofs
end

section
/-! A hold cause raised by request or timeout, and the requests that free an arm (R87, R97, R107 to R110). -/

namespace Sys2Proof.Machine

/-! ### SUSPEND ARM and HOLD ARM (R107, R108) -/

/-- A hold request for an arm without a line is refused. -/
theorem State.frame_holdRequest_free {s : State} {p : PortId} (h : s.ready p) {who : Senders} (hw : who.permits p = true)
    {a : Fin 6} (free : (s.arm a).active = none) (tag code : Byte) (c : HoldCause) :
    s.frame p tag code who (holdRequest c (number a)) = s.turnedAway p tag code .wrongState := by
  refine State.frame_refused h hw ?_
  simp [holdRequest, State.checked, State.arm_heard, free]

/-- A hold request for an arm that carries a line raises its cause. -/
theorem State.frame_holdRequest_carries {s : State} {p : PortId} (h : s.ready p) {who : Senders}
    (hw : who.permits p = true) {a : Fin 6} {ref : LineRef} (active : (s.arm a).active = some ref) (tag code : Byte)
    (c : HoldCause) :
    s.frame p tag code who (holdRequest c (number a)) = (s.raiseHold a c).answered p tag code [] := by
  refine State.frame_answered h hw ?_
  rw [← (beside_heard p).raiseHold]
  simp [holdRequest, State.checked, State.arm_heard, active]

/-! ### CLEAR LOCKOUT, RELEASE ARM and RESUME ARM (R97, R109, R110) -/

theorem clearLockout_refused {s : State} {a : Fin 6} (h : (s.arm a).state ≠ .locked ∨ (s.arm a).zeroRun < 10) :
    clearLockout (number a) s = s.refuse .wrongState := by
  simp [clearLockout, State.checked, h]

theorem clearLockout_cleared {s : State} {a : Fin 6} (locked : (s.arm a).state = .locked) (still : 10 ≤ (s.arm a).zeroRun) :
    clearLockout (number a) s =
      (s.modifyArm a (fun x => { x with state := .idle, stray := 0, strayCarries := ⟨0, 0, 0⟩ })).ok [] := by
  rw [clearLockout, indexOf_number]
  exact State.checked_ok _ _ _ (by simp [locked, still])

theorem releaseArm_refused {s : State} {a : Fin 6} (free : (s.arm a).active = none) :
    releaseArm (number a) s = s.refuse .wrongState := by
  simp [releaseArm, State.checked, free]

theorem releaseArm_released {s : State} {a : Fin 6} {ref : LineRef} (active : (s.arm a).active = some ref) :
    releaseArm (number a) s = (s.clearHold a .terminal).ok [] := by
  rw [releaseArm, indexOf_number]
  exact State.checked_ok _ _ _ (by simp [active])

/-- The causes that RESUME ARM may not clear (R109). -/
theorem HoldSet.blocksResume_iff (h : HoldSet) : h.blocksResume = true ↔
    h.terminal = true ∨ h.ground = true ∨ h.overfill = true ∨ h.deadman = true ∨ h.probe = true ∨ h.additive = true := by
  simp [HoldSet.blocksResume, or_assoc]

/-- A set of the driver's causes alone is empty once they are cleared. -/
theorem HoldSet.cleared_of_unblocked {h : HoldSet} (free : h.blocksResume = false) :
    ((h.put false .operator).put false .noFlow).put false .pulse = HoldSet.clear := by
  simp [HoldSet.blocksResume] at free
  simp [HoldSet.put, HoldSet.clear, free]

theorem resumeArm_refused {s : State} {a : Fin 6} (state : (s.arm a).state ≠ .suspended) :
    resumeArm (number a) s = s.refuse .wrongState := by
  simp [resumeArm, State.checked, state]

theorem resumeArm_held {s : State} {a : Fin 6} (state : (s.arm a).state = .suspended)
    (blocked : (s.arm a).holds.blocksResume = true) : resumeArm (number a) s = s.refuse .held := by
  simp [resumeArm, State.checked, state, blocked]

theorem resumeArm_resumed {s : State} {a : Fin 6} (state : (s.arm a).state = .suspended)
    (free : (s.arm a).holds.blocksResume = false) : resumeArm (number a) s =
      (s.modifyArm a (fun x => { x with
        holds := HoldSet.clear, suspendTimer := none, state := .lowStart, stageVolume := x.setup.restart,
        stageGross := 0, zeroRun := 0, closeCount := 0, noFlowTimer := some 30000 })).restartDeadman.ok [] := by
  have resumed : s.modifyArm a Arm.resume = s.modifyArm a (fun x => { x with
      holds := HoldSet.clear, suspendTimer := none, state := .lowStart, stageVolume := x.setup.restart,
      stageGross := 0, zeroRun := 0, closeCount := 0, noFlowTimer := some 30000 }) :=
    s.modifyArm_congr a (by rw [Arm.resume, HoldSet.cleared_of_unblocked free])
  rw [resumeArm, indexOf_number, ← resumed]
  exact State.checked_ok _ _ _ (by simp [state, free])

end Sys2Proof.Machine
end

section
namespace Sys2Proof.Proofs
open Sys2Proof Sys2Proof.Machine

/-- Settles O39: each raises its cause for the arm, which takes it by the table of R105. -/
theorem holdsCloseTheArm : Obligations.HoldsCloseTheArm := by
  unfold Obligations.HoldsCloseTheArm
  intro tag a s
  refine ⟨fun h free => ?_, fun h free => ?_, fun ref h active => ⟨_, ?_, s.raiseHold_heldBy a .operator⟩,
    fun ref h active => ⟨_, ?_, s.raiseHold_heldBy a .terminal⟩,
    fun ms due state timer => ⟨_, ?_, s.raiseHold_heldBy a .noFlow⟩⟩
  · exact congrArg Host.Outcome.next (State.frame_holdRequest_free h rfl free _ _ _)
  · exact congrArg Host.Outcome.next (State.frame_holdRequest_free h rfl free _ _ _)
  · exact congrArg Host.Outcome.next (State.frame_holdRequest_carries h rfl active _ _ _)
  · exact congrArg Host.Outcome.next (State.frame_holdRequest_carries h rfl active _ _ _)
  · refine congrArg Host.Outcome.next ((State.expiry_own due _).trans (if_pos ⟨state, ?_⟩))
    rw [timer, Option.isSome_some]

/-- Settles O40: each request by its checks, then its act. -/
theorem armsAreFreedByRequest : Obligations.ArmsAreFreedByRequest := by
  unfold Obligations.ArmsAreFreedByRequest
  intro tag a s
  dsimp only
  refine ⟨fun h => ⟨fun bad => ?_, fun locked still => ?_⟩, fun h => ⟨fun free => ?_, fun ref active => ?_⟩,
    fun h => ⟨fun state => ?_, fun state blocked => ?_, fun state free => ?_⟩⟩
  · refine congrArg Host.Outcome.next (State.frame_refused h rfl (clearLockout_refused ?_))
    rwa [State.arm_heard]
  · refine congrArg Host.Outcome.next (State.frame_answered h rfl ?_)
    rw [clearLockout_cleared (by rwa [State.arm_heard]) (by rwa [State.arm_heard]), State.modifyArm_heard]
  · refine congrArg Host.Outcome.next (State.frame_refused h rfl (releaseArm_refused ?_))
    rwa [State.arm_heard]
  · refine congrArg Host.Outcome.next (State.frame_answered h rfl ?_)
    rw [releaseArm_released (ref := ref) (by rwa [State.arm_heard]), State.clearHold, State.modifyArm_heard]
    rfl
  · refine congrArg Host.Outcome.next (State.frame_refused h rfl (resumeArm_refused ?_))
    rwa [State.arm_heard]
  · refine congrArg Host.Outcome.next (State.frame_refused h rfl (resumeArm_held ?_ ?_))
    · rwa [State.arm_heard]
    · rwa [State.arm_heard, HoldSet.blocksResume_iff]
  · rw [← HoldSet.blocksResume_iff, Bool.not_eq_true] at free
    refine congrArg Host.Outcome.next (State.frame_answered h rfl ?_)
    rw [resumeArm_resumed (by rwa [State.arm_heard]) (by rwa [State.arm_heard]), State.modifyArm_heard]
    rfl

end Sys2Proof.Proofs
end

section
/-! The valve outputs, and the permissives: a cause raised for every arm, and one cleared from every arm (R80, R112, R113). -/

namespace Sys2Proof.Machine

/-! ### The valve outputs (R80) -/

theorem ArmState.flowing_iff (st : ArmState) : st.flowing = true ↔ st = .lowStart ∨ st = .fullFlow ∨ st = .topOff := by
  cases st <;> simp [ArmState.flowing]

theorem Arm.full_iff (x : Arm) : x.full = true ↔ x.state = .fullFlow ∧ x.reducedFlow = false := by
  simp [Arm.full]

/-- FULL is on only with LOW. -/
theorem Arm.low_of_full {x : Arm} (h : x.full = true) : x.low = true := by
  rw [Arm.low, ((Arm.full_iff x).mp h).1]
  rfl

/-- An arm that does not flow has both valves shut. -/
theorem Arm.shut_of_still {x : Arm} (still : x.state.flowing = false) : x.low = false ∧ x.full = false :=
  ⟨still, Bool.eq_false_iff.mpr fun h => by
    have low := Arm.low_of_full h
    rw [Arm.low, still] at low
    cases low⟩

/-- A flowing arm carries a line and holds no cause. -/
theorem Arm.standing.flows {x : Arm} (h : x.standing) (flows : x.state.flowing = true) :
    x.active.isSome = true ∧ x.holds = HoldSet.clear := by
  obtain ⟨active, -, holds⟩ := h
  refine ⟨active.mpr ⟨fun e => ?_, fun e => ?_⟩, by_contra fun held => ?_⟩
  · rw [e] at flows
    cases flows
  · rw [e] at flows
    cases flows
  · rcases holds held with e | e
    · rw [e] at flows
      cases flows
    · rw [e] at flows
      cases flows

/-- Where every arm that carries a line holds one cause, every valve is shut. -/
theorem State.valvesOff_of_held {s : State} (stands : s.armsStand) {c : HoldCause}
    (held : ∀ a, (s.arm a).active.isSome = true → (s.arm a).holds.has c = true) : s.valvesOff := fun a =>
  Arm.shut_of_still (Bool.eq_false_iff.mpr fun flows => by
    obtain ⟨active, clear⟩ := (stands a).flows flows
    have holds := held a active
    rw [clear] at holds
    cases c <;> cases holds)

/-! ### A cause raised for every arm (R105) -/

/-- An arm that stands by its state does not flow once a cause is raised for it. -/
theorem Arm.standing.still_withCause {x : Arm} (h : x.standing) (c : HoldCause) : (x.withCause c).state.flowing = false := by
  rw [Arm.withCause_state]
  by_cases flows : x.state.flowing = true
  · obtain ⟨active, clear⟩ := h.flows flows
    rw [if_pos ⟨flows, active, by rw [clear]; cases c <;> rfl⟩]
    rfl
  · rw [if_neg fun takes => flows takes.1]
    exact Bool.not_eq_true _ ▸ flows

/-- A cause is raised for every arm in turn. -/
def State.holdAll (s : State) (c : HoldCause) : State := s.forArms (fun a t => t.raiseHold a c)

theorem State.arm_holdAll (s : State) (c : HoldCause) (b : Fin 6) : (s.holdAll c).arm b = (s.arm b).withCause c := by
  refine State.arm_forArms (g := fun _ x => x.withCause c) (fun a t b => ?_) b
  rw [State.heldBy_arm (t.raiseHold_heldBy a c)]
  split
  · next own => rw [own]
  · rfl

theorem State.holdAll_frame (s : State) (c : HoldCause) :
    s.holdAll c = { s with arms := s.arms.map (fun x => x.withCause c), bay := (s.holdAll c).bay } := by
  have frame : s.holdAll c = { s with arms := (s.holdAll c).arms, bay := (s.holdAll c).bay } := by
    refine State.forArms_keeps (P := fun t => t = { s with arms := t.arms, bay := t.bay }) rfl fun a t ht => ?_
    obtain ⟨held, -⟩ := t.raiseHold_heldBy a c
    generalize t.raiseHold a c = v at held ⊢
    rw [held]
    exact congrArg (fun w : State => { w with arms := t.arms.modify a (fun x => x.withCause c), bay := v.bay }) ht
  have arms : (s.holdAll c).arms = s.arms.map (fun x => x.withCause c) := Table.ext_get fun b => by
    rw [Table.get_map]
    exact s.arm_holdAll c b
  rw [← arms]
  exact frame

theorem State.holdAll_calms (s : State) (c : HoldCause) : s.calms (s.holdAll c) :=
  State.forArms_keeps (P := s.calms) (State.calms_of_same (fun _ => rfl) rfl) fun a t h =>
    State.calms_trans h (State.heldBy_calms (t.raiseHold_heldBy a c))

/-- A cause raised for every arm that stands closes each that flows, and so stops the deadman timer (R105, R116). -/
theorem State.holdAll_eq {s : State} (stands : s.armsStand) (c : HoldCause) : s.holdAll c = { s with
    arms := s.arms.map (fun x => x.withCause c)
    bay := { s.bay with deadman := if ∃ a, (s.arm a).state.flowing = true then { s.bay.deadman with elapsed := none }
      else s.bay.deadman } } := by
  have still : ∀ a, ((s.holdAll c).arm a).state.flowing = false := fun a => by
    rw [State.arm_holdAll]
    exact (stands a).still_withCause c
  have bay := (s.holdAll_calms c).bay
  rw [State.holdAll_frame]
  by_cases flows : ∃ a, (s.arm a).state.flowing = true
  · obtain ⟨a, flowing⟩ := flows
    rw [if_pos ⟨a, flowing, still a⟩, State.bayFollows, if_neg (by simp [still])] at bay
    rw [if_pos ⟨a, flowing⟩, bay]
  · rw [if_neg fun ⟨a, flowing, _⟩ => flows ⟨a, flowing⟩] at bay
    rw [if_neg flows, bay]

theorem State.holdAll_valvesOff {s : State} (stands : s.armsStand) (c : HoldCause) : (s.holdAll c).valvesOff := fun a =>
  Arm.shut_of_still (by rw [State.arm_holdAll]; exact (stands a).still_withCause c)

/-! ### A cause cleared from every arm (R106) -/

/-- One change of every arm in turn is that change of the table. -/
theorem State.forArms_modifyArm (s : State) (f : Arm → Arm) :
    s.forArms (fun a t => t.modifyArm a f) = { s with arms := s.arms.map f } := by
  have frame : s.forArms (fun a t => t.modifyArm a f) =
      { s with arms := (s.forArms (fun a t => t.modifyArm a f)).arms } :=
    State.forArms_keeps (P := fun t => t = { s with arms := t.arms }) rfl fun a t ht =>
      congrArg (fun w : State => { w with arms := t.arms.modify a f }) ht
  have arms : (s.forArms (fun a t => t.modifyArm a f)).arms = s.arms.map f := Table.ext_get fun b => by
    rw [Table.get_map]
    refine State.arm_forArms (g := fun _ => f) (fun a t b => ?_) b
    rw [State.arm_modifyArm]
    split
    · next own => rw [own]
    · rfl
  rw [frame, arms]

/-! ### The events of a permissive (R112, R113) -/

theorem State.modifyPermissive_congr (s : State) (i : Permissive) {f g : PermissiveInput → PermissiveInput}
    (h : f (s.permissive i) = g (s.permissive i)) : s.modifyPermissive i f = s.modifyPermissive i g := by
  cases i
  · exact congrArg (fun x => { s with bay := { s.bay with ground := x } }) h
  · exact congrArg (fun x => { s with bay := { s.bay with overfill := x } }) h

/-- A drop while a permissive is recognized LOST stops its restoration (R112). -/
theorem State.losePermissive_lost {s : State} {i : Permissive} (level : (s.permissive i).level = true)
    (recognized : (s.permissive i).recognized = .lost) :
    s.losePermissive i = s.modifyPermissive i (fun x => { x with level := false, timer := none }) := by
  simp [State.losePermissive, level, recognized]

/-- The return of a permissive recognized LOST starts its restoration (R113). -/
theorem State.returnPermissive_lost {s : State} {i : Permissive} (level : (s.permissive i).level = false)
    (recognized : (s.permissive i).recognized = .lost) :
    s.returnPermissive i = s.modifyPermissive i (fun x => { x with level := true, timer := some 5000 }) := by
  simp only [State.returnPermissive, level, Bool.false_eq_true, if_false]
  exact s.modifyPermissive_congr i (by rw [if_pos recognized])

/-- The end of its restoration recognizes a permissive PRESENT and clears its cause from every arm (R113). -/
theorem State.restorePermissive_running {s : State} {i : Permissive} {ms : Nat} (timer : (s.permissive i).timer = some ms) :
    s.restorePermissive i = { s.modifyPermissive i (fun x => { x with recognized := .present, timer := none }) with
      arms := s.arms.map (fun x => { x with holds := x.holds.put false (permissiveCause i) }) } := by
  rw [State.restorePermissive, timer, Option.isSome_some, if_pos rfl]
  exact (State.forArms_modifyArm _ _).trans (by rw [State.modifyPermissive_arms])

/-- A drop while a permissive is recognized PRESENT is its loss (R112). -/
theorem State.losePermissive_present {s : State} {i : Permissive} (level : (s.permissive i).level = true)
    (recognized : (s.permissive i).recognized = .present) : s.losePermissive i =
      ((s.modifyPermissive i (fun _ => ⟨false, .lost, none⟩)).holdAll (permissiveCause i)).raise .permissiveLost 0 := by
  simp only [State.losePermissive, level, recognized, if_true]
  rfl

/-- The loss of a permissive is recognized and its cause raised for every arm at once, as one state (R112). -/
theorem State.holdAll_permissiveLost {s : State} {i : Permissive} (stands : s.armsStand) :
    (s.modifyPermissive i (fun _ => ⟨false, .lost, none⟩)).holdAll (permissiveCause i) = { s with
      arms := s.arms.map (fun x => x.withCause (permissiveCause i))
      bay := { (s.modifyPermissive i (fun _ => ⟨false, .lost, none⟩)).bay with
        deadman := if ∃ a, (s.arm a).state.flowing = true then { s.bay.deadman with elapsed := none }
          else s.bay.deadman } } := by
  obtain ⟨m, hm⟩ : ∃ m, m = s.modifyPermissive i (fun _ => ⟨false, .lost, none⟩) := ⟨_, rfl⟩
  have arm : ∀ a, m.arm a = s.arm a := fun a => State.arm_congr (by rw [hm, State.modifyPermissive_arms]) a
  have stands : m.armsStand := fun a => (arm a).symm ▸ stands a
  rw [← hm, State.holdAll_eq stands]
  simp only [arm]
  rw [hm]
  cases i <;> rfl

end Sys2Proof.Machine
end

section
namespace Sys2Proof.Proofs
open Sys2Proof Sys2Proof.Machine

/-- Settles O41: the outputs by the arm's state, then the three events of a permissive. -/
theorem permissives : Obligations.Permissives := by
  unfold Obligations.Permissives
  refine ⟨fun s a => ⟨ArmState.flowing_iff _, Arm.full_iff _, fun ⟨stands, _⟩ on => ?_,
    fun ⟨stands, ground, overfill⟩ lost => ?_⟩, fun i s => ?_⟩
  · exact ((stands a).flows (on.elim id Arm.low_of_full)).1
  · rcases lost with lost | lost
    · exact State.valvesOff_of_held stands (c := .ground) (ground lost)
    · exact State.valvesOff_of_held stands (c := .overfill) (overfill lost)
  · intro cause
    have named : cause = permissiveCause i := rfl
    clear_value cause
    subst named
    refine ⟨fun level recognized stands => ⟨_, congrArg Host.Outcome.next (State.losePermissive_present level recognized),
      State.holdAll_permissiveLost stands, State.holdAll_valvesOff ?_ _⟩, fun level recognized => ?_, fun level recognized => ?_,
      fun ms due timer => ?_⟩
    · exact fun a => (State.arm_congr (State.modifyPermissive_arms s i _) a).symm ▸ stands a
    · exact congrArg Host.Outcome.next (State.losePermissive_lost level recognized)
    · exact congrArg Host.Outcome.next (State.returnPermissive_lost level recognized)
    · exact congrArg Host.Outcome.next ((State.expiry_own due _).trans (State.restorePermissive_running timer))

end Sys2Proof.Proofs
end

section
/-! The power-fail save: the lines taken arm by arm, the arms at rest, and the images of the orders (R100, R172, R173). -/

namespace Sys2Proof.Machine

/-! ### One arm is saved (R93, R100, R142, R157) -/

/-- The save of one arm: its line's record is taken, and it comes to rest. -/
def State.saveOn (s : State) (a : Fin 6) : State := (s.takeLine a true).modifyArm a Arm.rest

theorem State.save_taken (s : State) :
    s.forArms (fun a t => (t.takeLine a true).modifyArm a Arm.rest) = (List.finRange 6).foldl State.saveOn s := by
  rw [← armList_eq_finRange]
  rfl

/-- The arm at rest whose last overrun is this, its stray volumes kept. -/
def Arm.restedWith (x : Arm) (overrun : Nat) : Arm := { x.rest with lastOverrun := overrun }

/-- An arm without a line comes to rest. -/
theorem State.saveOn_free {s : State} {a : Fin 6} (h : (s.arm a).active = none) : s.saveOn a = s.modifyArm a Arm.rest := by
  have taken : s.takeLine a true = s := by simp [State.takeLine, h]
  rw [State.saveOn, taken]

/-- An arm with a line comes to rest with the line's overrun, the line's record fixed without a notice. -/
theorem State.saveOn_carries {s : State} {a : Fin 6} {ref : LineRef} {l : Line} (h : (s.arm a).active = some ref)
    (hl : s.lineAt ref = some l) : s.saveOn a =
      ((s.idleEngaged a).modifyLine ref (fun _ => s.fixed a l)).modifyArm a
        (fun x => x.restedWith l.overrun) := by
  have taken : s.takeLine a true = (s.fixLine a true).modifyArm a Arm.releaseLine := by
    rw [State.takeLine, h, State.fixLine_abandonDosing h hl]
    rfl
  rw [State.saveOn, taken, State.fixLine_eq h hl, Bool.not_true, Bool.and_false, State.raiseIf_false,
    State.modifyArm_modifyArm, State.modifyArm_modifyArm]
  rfl

/-! ### The lines of the arms saved -/

/-- A line when the lines active on these arms have been taken. -/
def State.takenOn (s : State) (arms : List (Fin 6)) (l : Line) : Line :=
  match l.state with
  | .active a => if a ∈ arms then s.fixed a l else l
  | .waiting => l
  | .ended => l

theorem State.takenOn_active (s : State) {l : Line} {a : Fin 6} (h : l.state = .active a) (arms : List (Fin 6)) :
    s.takenOn arms l = if a ∈ arms then s.fixed a l else l := by simp only [State.takenOn, h]

theorem State.takenOn_inactive (s : State) {l : Line} (h : ∀ a, l.state ≠ .active a) (arms : List (Fin 6)) :
    s.takenOn arms l = l := by
  unfold State.takenOn
  split
  · next a active => exact absurd active (h a)
  · rfl
  · rfl

theorem State.takenOn_nil (s : State) (l : Line) : s.takenOn [] l = l := by
  unfold State.takenOn
  split <;> simp

/-- One arm more bears only on a line active there. -/
theorem State.takenOn_other (s : State) {l : Line} {a : Fin 6} (h : l.state ≠ .active a) (arms : List (Fin 6)) :
    s.takenOn (arms ++ [a]) l = s.takenOn arms l := by
  by_cases active : ∃ b, l.state = .active b
  · obtain ⟨b, active⟩ := active
    have other : b ≠ a := fun e => h (e ▸ active)
    rw [s.takenOn_active active, s.takenOn_active active]
    simp [other]
  · have inactive : ∀ b, l.state ≠ .active b := fun b active' => active ⟨b, active'⟩
    rw [s.takenOn_inactive inactive, s.takenOn_inactive inactive]

/-- An order when the lines active on these arms have been taken. -/
def State.takenOrder (s : State) (arms : List (Fin 6)) (o : Order) : Order :=
  { o with lines := o.lines.map (s.takenOn arms) }

theorem State.takenOrder_nil (s : State) : s.takenOrder [] = id := by
  funext o
  rw [State.takenOrder, show s.takenOn [] = id from funext s.takenOn_nil, List.map_id]
  rfl

/-- One arm more bears only on the order of a line active there. -/
theorem State.takenOrder_other (s : State) {o : Order} {a : Fin 6} (h : ∀ k l, o.line? k = some l → l.state ≠ .active a)
    (arms : List (Fin 6)) : s.takenOrder (arms ++ [a]) o = s.takenOrder arms o := by
  have lines : o.lines.map (s.takenOn (arms ++ [a])) = o.lines.map (s.takenOn arms) := by
    refine List.map_congr_left fun l hl => s.takenOn_other ?_ arms
    obtain ⟨i, hi⟩ := List.mem_iff_getElem?.mp hl
    exact h (i + 1) l hi
  rw [State.takenOrder, lines, State.takenOrder]

/-- The order whose one line active on the arm is taken there. -/
theorem State.takenOrder_own (s : State) {o : Order} {a : Fin 6} {k : Nat} {l : Line} (hl : o.line? k = some l)
    (hs : l.state = .active a) (only : ∀ j m, o.line? j = some m → m.state = .active a → j = k) (arms : List (Fin 6)) :
    s.takenOrder (arms ++ [a]) o =
      { o with lines := (s.takenOrder arms o).lines.set (k - 1) (s.fixed a l) } := by
  have pos := Order.line?_pos hl
  have found := Order.line?_some hl
  have lines : o.lines.map (s.takenOn (arms ++ [a])) = (o.lines.map (s.takenOn arms)).set (k - 1) (s.fixed a l) := by
    refine List.ext_getElem? fun i => ?_
    rw [List.getElem?_set, List.getElem?_map, List.getElem?_map, List.length_map]
    by_cases hi : k - 1 = i
    · subst hi
      rw [if_pos rfl, if_pos (List.getElem?_eq_some_iff.mp found).1, found, Option.map_some, s.takenOn_active hs,
        if_pos (List.mem_append_right _ (.head _))]
    · rw [if_neg hi]
      cases hm : o.lines[i]? with
      | none => rfl
      | some m =>
        refine congrArg some (s.takenOn_other (fun active => hi ?_) arms)
        have same := only (i + 1) m hm active
        omega
  rw [State.takenOrder, lines]
  rfl

/-! ### Every arm in turn -/

/-- The arm that the save leaves. -/
def State.armSaved (s : State) (a : Fin 6) : Arm :=
  (s.arm a).restedWith (((s.activeLine a).map Line.overrun).getD (s.arm a).lastOverrun)

theorem State.armSaved_free {s : State} {a : Fin 6} (h : (s.arm a).active = none) : s.armSaved a = (s.arm a).rest := by
  have idle : s.activeLine a = none := by simp [State.activeLine, h]
  rw [State.armSaved, idle]
  rfl

theorem State.armSaved_carries {s : State} {a : Fin 6} {ref : LineRef} {l : Line} (h : (s.arm a).active = some ref)
    (hl : s.lineAt ref = some l) : s.armSaved a = (s.arm a).restedWith l.overrun := by
  rw [State.armSaved, State.activeLine_of h, hl]
  rfl

theorem State.armSaved_still (s : State) (a : Fin 6) : (s.armSaved a).state.flowing = false := (s.arm a).restart_still

/-- These arms have been saved, seen from the state before. -/
structure State.savedTo (s t : State) (done : List (Fin 6)) : Prop where
  frame : t = { s with
    orders := s.orders.map (Option.map (s.takenOrder done)), arms := t.arms, injectors := t.injectors }
  arms : ∀ a, t.arm a = if a ∈ done then s.armSaved a else s.arm a
  injectors : t.injectors.map Injector.idle = s.injectors.map Injector.idle

theorem State.savedTo_nil (s : State) : s.savedTo s [] := by
  refine ⟨?_, fun _ => (if_neg List.not_mem_nil).symm, rfl⟩
  have orders : s.orders.map (Option.map (s.takenOrder [])) = s.orders := Table.ext_get fun k => by
    rw [Table.get_map, State.takenOrder_nil, Option.map_id, id]
  rw [orders]

section Step

variable {s t : State} {done : List (Fin 6)} {a : Fin 6} (kept : s.linesKept) (saved : s.bay.saved = false)
  (h : s.savedTo t done) (fresh : a ∉ done)

include h in
theorem State.savedTo_order (k : Fin 24) : t.order k = (s.order k).map (s.takenOrder done) := by
  rw [h.frame]
  exact Table.get_map _ _ k

include h fresh in
theorem State.savedTo_fresh : t.arm a = s.arm a := (h.arms a).trans (if_neg fresh)

include h fresh in
/-- The arms saved, when the arm just saved joins them. -/
theorem State.savedTo_arms {f : Arm → Arm} (own : f (s.arm a) = s.armSaved a)
    (b : Fin 6) : (t.arms.modify a f).get b = if b ∈ done ++ [a] then s.armSaved b else s.arm b := by
  refine (State.arm_modifyArm t a b f).trans ?_
  by_cases same : b = a
  · rw [if_pos same, same, State.savedTo_fresh h fresh, own, if_pos (List.mem_append_right _ (.head _))]
  · rw [if_neg same, h.arms]
    simp [same]

include kept saved h fresh in
/-- An arm without a line moves alone. -/
theorem State.savedTo_free (free : (s.arm a).active = none) : s.savedTo (t.saveOn a) (done ++ [a]) := by
  have arm := State.savedTo_fresh h fresh
  have orders : s.orders.map (Option.map (s.takenOrder (done ++ [a]))) = s.orders.map (Option.map (s.takenOrder done)) := by
    refine Table.ext_get fun k => ?_
    rw [Table.get_map, Table.get_map]
    refine Option.map_congr fun o ho => s.takenOrder_other (fun j l hl active => ?_) done
    have carries := (((kept.2 saved).2 k o j l ho hl).2 a active).1
    cases free.symm.trans carries
  rw [State.saveOn_free (by rw [arm]; exact free)]
  refine ⟨?_, State.savedTo_arms h fresh (State.armSaved_free free).symm, h.injectors⟩
  rw [orders]
  exact congrArg (fun w : State => { w with arms := t.arms.modify a Arm.rest }) h.frame

include kept saved h fresh in
/-- An arm with a line moves with its line, in the line's place. -/
theorem State.savedTo_carries {ref : LineRef} (active : (s.arm a).active = some ref) :
    s.savedTo (t.saveOn a) (done ++ [a]) := by
  obtain ⟨carried, loaded⟩ := kept.2 saved
  obtain ⟨l, line, state, -⟩ := carried a ref active
  obtain ⟨o, ho, hl⟩ := (s.lineAt_iff ref l).mp line
  have arm := State.savedTo_fresh h fresh
  have active' : (t.arm a).active = some ref := by rw [arm, active]
  have order : t.order ref.slot = some (s.takenOrder done o) := by rw [State.savedTo_order h, ho, Option.map_some]
  have untaken : (s.takenOrder done o).line? ref.line = some l := by
    rw [State.takenOrder, Order.line?_map, hl, Option.map_some, s.takenOn_active state, if_neg fresh]
  have fixed : t.fixed a l = s.fixed a l := by
    have store : t.store = s.store := by rw [h.frame]
    simp only [State.fixed, State.meterStore, arm, store]
  have own : ∀ k o j m, s.order k = some o → o.line? j = some m → m.state = .active a → ref = ⟨k, j⟩ :=
    fun k o j m ho hm hs => Option.some.inj (active.symm.trans ((loaded k o j m ho hm).2 a hs).1)
  have orders : t.orders.set ref.slot (some { o with
      lines := (s.takenOrder done o).lines.set (ref.line - 1) (s.fixed a l) }) =
        s.orders.map (Option.map (s.takenOrder (done ++ [a]))) := by
    refine Table.ext_get fun k => ?_
    rw [Table.get_set, Table.get_map]
    by_cases here : k = ref.slot
    · subst here
      have ho' : s.orders.get ref.slot = some o := ho
      rw [if_pos rfl, ho', Option.map_some, s.takenOrder_own hl state fun j m hm hs => by rw [own _ o j m ho hm hs]]
    · rw [if_neg here]
      refine (State.savedTo_order h k).trans (Option.map_congr fun o' ho' => ?_)
      exact (s.takenOrder_other (fun j m hm hs => here (by rw [own k o' j m ho' hm hs])) done).symm
  have taken : t.saveOn a = ({ t with
      orders := s.orders.map (Option.map (s.takenOrder (done ++ [a]))), injectors := (t.idleEngaged a).injectors } :
        State).modifyArm a (fun x => x.restedWith l.overrun) := by
    rw [State.saveOn_carries active' (State.lineAt_of order untaken), fixed, ← orders]
    exact congrArg (fun w : State => w.modifyArm a (fun x => x.restedWith l.overrun))
      (State.modifyLine_set (s := t.idleEngaged a) order untaken _)
  rw [taken]
  have armSaved := (State.armSaved_carries active line).symm
  refine ⟨?_, fun b => (State.savedTo_arms (f := fun x => x.restedWith l.overrun) h fresh armSaved b :), ?_⟩
  · exact congrArg (fun w : State => { w with
      orders := s.orders.map (Option.map (s.takenOrder (done ++ [a])))
      arms := t.arms.modify a (fun x => x.restedWith l.overrun)
      injectors := (t.idleEngaged a).injectors }) h.frame
  · exact (State.idleEngaged_injectors t a).trans h.injectors

end Step

/-- Every arm is saved. -/
theorem State.savedTo_all {s : State} (kept : s.linesKept) (saved : s.bay.saved = false) :
    s.savedTo ((List.finRange 6).foldl State.saveOn s) (List.finRange 6) := by
  refine foldl_finRange (P := fun done t => s.savedTo t done) s.savedTo_nil fun done t a h fresh => ?_
  cases active : (s.arm a).active with
  | none => exact State.savedTo_free kept saved h fresh active
  | some ref => exact State.savedTo_carries kept saved h fresh active

/-! ### The save as a whole (R172, R173) -/

/-- An order as the save leaves it: the lines active on arms taken, its timers stopped. -/
def State.orderSaved (s : State) (o : Order) : Order := (s.takenOrder (List.finRange 6) o).stopTimers

/-- With every arm saved and at rest, the windows, the orders' timers and the deadman timer stop, and the images are taken. -/
theorem State.save_of_still {s t : State} (ht : t = (List.finRange 6).foldl State.saveOn s)
    (still : ∀ a, (t.arm a).state.flowing = false) : s.save = { t.idleInjectors with
      orders := t.orders.map (Option.map Order.stopTimers)
      journal := { t.journal with saveArea := s.save.images }
      bay := { t.bay with powerFail := true, saved := true, deadman := { t.bay.deadman with elapsed := none } } } := by
  obtain ⟨u, hu⟩ : ∃ u : State, u = { t.idleInjectors with orders := t.orders.map (Option.map Order.stopTimers) } :=
    ⟨_, rfl⟩
  have rest : ¬ ∃ a, (u.arm a).state.flowing = true := by
    rintro ⟨a, flows⟩
    rw [hu] at flows
    exact Bool.false_ne_true ((still a).symm.trans flows)
  have whole : s.save = { u with
      journal := { u.journal with saveArea := u.images }
      bay := { u.bay with powerFail := true, saved := true, deadman := { u.bay.deadman with elapsed := none } } } := by
    unfold State.save
    rw [State.save_taken, ← ht]
    dsimp only
    rw [← hu, State.settleDeadman_eq, if_neg rest]
    rfl
  have images : s.save.images = u.images := by
    rw [whole]
    rfl
  rw [images, whole, hu]
  rfl

/-- The state after the save. -/
theorem State.save_eq {s : State} (kept : s.linesKept) (saved : s.bay.saved = false) : s.save = { s with
    orders := s.orders.map (Option.map s.orderSaved), arms := s.save.arms, injectors := s.injectors.map Injector.idle
    journal := { s.journal with saveArea := s.save.images }
    bay := { s.bay with powerFail := true, saved := true, deadman := { s.bay.deadman with elapsed := none } } } ∧
      ∀ a, s.save.arm a = s.armSaved a := by
  have taken := State.savedTo_all kept saved
  obtain ⟨t, ht⟩ : ∃ t, t = (List.finRange 6).foldl State.saveOn s := ⟨_, rfl⟩
  rw [← ht] at taken
  have arm : ∀ a, t.arm a = s.armSaved a := fun a => (taken.arms a).trans (if_pos (List.mem_finRange a))
  have whole := State.save_of_still ht fun a => by
    rw [arm]
    exact s.armSaved_still a
  have arms : s.save.arms = t.arms := by
    rw [whole]
    rfl
  have orders : t.orders.map (Option.map Order.stopTimers) = s.orders.map (Option.map s.orderSaved) := by
    rw [taken.frame]
    refine Table.ext_get fun k => ?_
    rw [Table.get_map, Table.get_map, Table.get_map, Option.map_map]
    rfl
  have injectors : t.idleInjectors.injectors = s.injectors.map Injector.idle := taken.injectors
  refine ⟨?_, fun a => (State.arm_congr arms a).trans (arm a)⟩
  rw [arms, ← orders, ← injectors]
  refine whole.trans ?_
  generalize s.save.images = images
  exact congrArg (fun w : State => { w with
    orders := t.orders.map (Option.map Order.stopTimers), arms := t.arms, injectors := t.idleInjectors.injectors
    journal := { w.journal with saveArea := images }
    bay := { w.bay with powerFail := true, saved := true, deadman := { w.bay.deadman with elapsed := none } } }) taken.frame

theorem State.orderSaved_line (s : State) {o : Order} {k : Nat} {l : Line} (h : o.line? k = some l) :
    (s.orderSaved o).line? k = some (s.takenOn (List.finRange 6) l) := by
  have lines : (s.orderSaved o).line? k = (s.takenOrder (List.finRange 6) o).line? k := rfl
  rw [lines, State.takenOrder, Order.line?_map, h, Option.map_some]

/-! ### The record of a line, fixed with and without a dosing record (R142) -/

theorem State.fixed_undosed {s : State} {a : Fin 6} (h : (s.arm a).dosing = none) (l : Line) :
    (s.fixed a l).record.additive = l.record.additive ∧ (s.fixed a l).flags.doseDeviation = l.flags.doseDeviation := by
  simp [State.fixed, Arm.strays, h]

theorem State.fixed_additive {s : State} {a : Fin 6} {r : DosingRecord} (h : (s.arm a).dosing = some r) (l : Line) :
    (s.fixed a l).record.additive = some (r.fixed l.record.gv) := by
  simp [State.fixed, h]

/-- DOSE_DEVIATION of a line whose record is fixed against this dosing record (R142). -/
theorem State.fixed_doseDeviation {s : State} {a : Fin 6} {r : DosingRecord} (h : (s.arm a).dosing = some r) (l : Line) :
    (s.fixed a l).flags.doseDeviation = true ↔ l.flags.doseDeviation = true ∨ 0 < (r.fixed l.record.gv).required ∧
      (r.tolerance * (r.fixed l.record.gv).required : Int) <
        |((r.fixed l.record.gv).dosed : Int) - (r.fixed l.record.gv).required| * 100 := by
  have strays : (s.arm a).strays l.record.gv = r.strays l.record.gv := by
    rw [Arm.strays, h, Option.map_some, Option.getD_some]
  have flag : (s.fixed a l).flags.doseDeviation = (l.flags.doseDeviation || (s.arm a).strays l.record.gv) := rfl
  rw [flag, strays, Bool.or_eq_true, DosingRecord.strays, decide_eq_true_iff]

end Sys2Proof.Machine
end

section
namespace Sys2Proof.Proofs
open Sys2Proof Sys2Proof.Machine

/-- Settles O51: the arms are saved one by one, then the windows, the orders' timers and the deadman timer stop. -/
theorem powerFailSave : Obligations.PowerFailSave := by
  unfold Obligations.PowerFailSave
  intro s
  refine ⟨fun saved => if_pos saved, fun saved kept _ => ?_⟩
  obtain ⟨frame, arms⟩ := State.save_eq kept saved
  obtain ⟨t, ht⟩ : ∃ t, t = s.save := ⟨_, rfl⟩
  rw [← ht] at frame arms
  have order : ∀ k, t.order k = (s.order k).map s.orderSaved := fun k => by
    rw [frame]
    exact Table.get_map _ _ k
  have images : t.journal.saveArea = t.images := congrArg (fun w : State => w.journal.saveArea) frame
  refine ⟨t, ?_, ?_, fun a => Arm.shut_of_still (by rw [arms]; exact s.armSaved_still a), fun a => ?_, images,
    fun k free => by rw [order, free, Option.map_none],
    fun k o ho => ⟨s.orderSaved o, by rw [order, ho, Option.map_some], rfl, List.length_map _, fun j l hl =>
      ⟨_, s.orderSaved_line hl, fun inactive => s.takenOn_inactive inactive _, fun a active => ?_⟩⟩⟩
  · rw [ht]
    exact if_neg (by rw [saved]; nofun)
  · have orders : t.orders = s.orders.map (Option.map s.orderSaved) := congrArg State.orders frame
    rw [orders, images]
    exact frame
  · rw [arms]
    rfl
  · rw [s.takenOn_active active, if_pos (List.mem_finRange a)]
    exact ⟨rfl, fun undosed => State.fixed_undosed undosed l,
      fun r dosing => ⟨State.fixed_additive dosing l, State.fixed_doseDeviation dosing l⟩⟩

end Sys2Proof.Proofs
end

section
/-!
The interlock of the permissives, arm by arm (`State.secure`): what an operation does to one arm that stands by its state and
holds the causes of the lost permissives.
-/

namespace Sys2Proof.Machine

/-! ### One arm under the interlock (R105, R112) -/

/-- The arm stands by its state, and holds the cause of each permissive recognized LOST where it carries a line. -/
def State.secure (s : State) (b : Fin 6) : Prop :=
  (s.arm b).standing ∧ ∀ i, (s.permissive i).recognized = .lost → (s.arm b).active.isSome = true →
    (s.arm b).holds.has (permissiveCause i) = true

theorem State.interlocked_iff (s : State) : s.interlocked ↔ ∀ b, s.secure b := by
  refine ⟨fun ⟨stands, ground, overfill⟩ b => ⟨stands b, fun i lost => ?_⟩, fun h => ⟨fun b => (h b).1,
    fun lost b => (h b).2 .ground lost, fun lost b => (h b).2 .overfill lost⟩⟩
  cases i
  · exact ground lost b
  · exact overfill lost b

/-- An arm stands where it stood, carries a line only where it did, and keeps the causes of the permissives. -/
structure Arm.guards (x y : Arm) : Prop where
  standing : x.standing → y.standing
  active : y.active.isSome = true → x.active.isSome = true
  holds : ∀ i, x.holds.has (permissiveCause i) = true → y.holds.has (permissiveCause i) = true

theorem Arm.guards_refl (x : Arm) : x.guards x := ⟨id, id, fun _ => id⟩

/-- An arm whose line, state, closing reason and causes stay as they are. -/
theorem Arm.guards.same {x y : Arm} (h : (y.active, y.state, y.reason, y.holds) = (x.active, x.state, x.reason, x.holds)) :
    x.guards y := by
  simp only [Prod.mk.injEq] at h
  obtain ⟨active, state, reason, holds⟩ := h
  exact ⟨(Arm.follows_of active state reason holds).standing, fun h => active ▸ h, fun _ h => holds ▸ h⟩

/-- An arm that follows (`Arm.follows`) and keeps the causes of the permissives. -/
theorem Arm.follows.guards {x y : Arm} (h : x.follows y)
    (holds : ∀ i, x.holds.has (permissiveCause i) = true → y.holds.has (permissiveCause i) = true) : x.guards y :=
  ⟨h.standing, fun active => h.active ▸ active, holds⟩

theorem HoldSet.has_put_true {h : HoldSet} (c : HoldCause) {d : HoldCause} (held : h.has d = true) :
    (h.put true c).has d = true := by
  cases c <;> cases d <;> simp_all [HoldSet.put, HoldSet.has]

theorem HoldSet.has_put_false {h : HoldSet} {c d : HoldCause} (other : c ≠ d) (held : h.has d = true) :
    (h.put false c).has d = true := by
  cases c <;> cases d <;> simp_all [HoldSet.put, HoldSet.has]

theorem permissiveCause_injective : Function.Injective permissiveCause := fun i j same => by
  cases i <;> cases j <;> simp_all [permissiveCause]

variable {s t : State} {a b : Fin 6}

theorem State.secure.step (h : s.secure b) (arm : (s.arm b).guards (t.arm b))
    (same : ∀ i, (t.permissive i).recognized = (s.permissive i).recognized) : t.secure b := by
  obtain ⟨stands, held⟩ := h
  exact ⟨arm.standing stands, fun i lost active => arm.holds i (held i (same i ▸ lost) (arm.active active))⟩

theorem State.permissive_congr (ground : t.bay.ground = s.bay.ground) (overfill : t.bay.overfill = s.bay.overfill)
    (i : Permissive) : t.permissive i = s.permissive i := by
  cases i
  · exact ground
  · exact overfill

/-- A change beside the arms and the permissives. -/
theorem State.secure.beside (h : s.secure b)
    (same : (t.arms, t.bay.ground, t.bay.overfill) = (s.arms, s.bay.ground, s.bay.overfill)) : t.secure b := by
  simp only [Prod.mk.injEq] at same
  obtain ⟨arms, ground, overfill⟩ := same
  exact h.step (State.arm_congr arms b ▸ Arm.guards_refl _) fun i => by rw [State.permissive_congr ground overfill i]

theorem State.secure.modifyArm {f : Arm → Arm} (h : s.secure b) (keeps : (s.arm a).guards (f (s.arm a))) :
    (s.modifyArm a f).secure b := by
  refine h.step ?_ fun _ => rfl
  rw [State.arm_modifyArm]
  split
  · next own => exact own ▸ keeps
  · exact Arm.guards_refl _

/-- A change of another arm. -/
theorem State.secure.modifyOther (h : s.secure b) (other : b ≠ a) {f : Arm → Arm} : (s.modifyArm a f).secure b := by
  refine h.step ?_ fun _ => rfl
  rw [State.arm_modifyArm, if_neg other]
  exact Arm.guards_refl _

theorem State.secure.forArms {f : Fin 6 → State → State} (h : s.secure b)
    (keeps : ∀ a t, State.secure t b → (f a t).secure b) : (s.forArms f).secure b :=
  State.forArms_keeps h keeps

theorem State.secure.foldl {α : Type} {f : State → α → State} (keeps : ∀ (t : State) x, t.secure b → (f t x).secure b) :
    ∀ (l : List α) {s : State}, s.secure b → (l.foldl f s).secure b
  | [], _, h => h
  | x :: l, _, h => State.secure.foldl keeps l (keeps _ x h)

/-! ### Updates of parts of the state -/

theorem State.secure.modifyDosing {f : DosingRecord → DosingRecord} (h : s.secure b) : (s.modifyDosing a f).secure b :=
  h.modifyArm (.same rfl)

theorem State.secure.modifyDecoder {f : Decoder → Decoder} (h : s.secure b) : (s.modifyDecoder a f).secure b :=
  h.modifyArm (.same rfl)

theorem State.secure.setPosition {p : Fin 2} {i : Option (Fin 8)} (h : s.secure b) : (s.setPosition a p i).secure b :=
  h.modifyArm (.same rfl)

theorem State.secure.modifyInjector {i : Fin 8} {f : Injector → Injector} (h : s.secure b) :
    (s.modifyInjector i f).secure b := h.beside rfl

theorem State.secure.modifyPort {p : PortId} {f : Port → Port} (h : s.secure b) : (s.modifyPort p f).secure b := by
  cases p <;> exact h.beside rfl

theorem State.secure.modifyDeadman {f : Deadman → Deadman} (h : s.secure b) : (s.modifyDeadman f).secure b := h.beside rfl

theorem State.secure.modifyOrder {slot : Fin 24} {f : Order → Order} (h : s.secure b) : (s.modifyOrder slot f).secure b :=
  h.beside rfl

theorem State.secure.setOrder {slot : Fin 24} {o : Option Order} (h : s.secure b) :
    (s.setOrder slot o).secure b := h.beside rfl

theorem State.secure.endClaim {num : Option Nat} (h : s.secure b) : (s.endClaim num).secure b := h.beside rfl

theorem State.secure.modifyMeterStore {f : MeterStore → MeterStore} (h : s.secure b) : (s.modifyMeterStore a f).secure b :=
  h.beside rfl

theorem State.secure.modifyInjectorStore {i : Fin 8} {f : InjectorStore → InjectorStore} (h : s.secure b) :
    (s.modifyInjectorStore i f).secure b := h.beside rfl

theorem State.secure.setSlots {t : Table 48 JournalSlot} (h : s.secure b) : (s.setSlots t).secure b := h.beside rfl

theorem State.secure.raise {k : NoticeKind} {subject : Nat} (h : s.secure b) : (s.raise k subject).secure b := h.beside rfl

theorem State.secure.modifyLine {ref : LineRef} {f : Line → Line} (h : s.secure b) :
    (s.modifyLine ref f).secure b := h.beside rfl

theorem State.secure.modifyActiveLine {f : Line → Line} (h : s.secure b) : (s.modifyActiveLine a f).secure b := by
  unfold State.modifyActiveLine
  split
  · exact h.modifyLine
  · exact h

theorem State.secure.settleDeadman (h : s.secure b) : s.settleDeadman.secure b := by
  unfold State.settleDeadman
  split
  · exact h
  · exact h.modifyDeadman

theorem State.secure.compose {o : Order} {cause : CloseCause} (h : s.secure b) : (s.compose o cause).secure b := by
  unfold State.compose
  split
  · exact h.beside rfl
  · exact h

/-- An injector of an arm, where one is engaged, changes. -/
theorem State.secure.modifyEngaged {x : Option (Fin 8)} {f : Injector → Injector} (h : s.secure b) :
    (match x with
      | some i => s.modifyInjector i f
      | none => s).secure b := by
  split
  · exact h.modifyInjector
  · exact h

/-! ### Queued starts, and hold causes (R83, R105, R106) -/

theorem State.secure.dropQueued (h : s.secure b) : (s.dropQueued a).secure b := by
  unfold State.dropQueued
  split
  · exact (h.modifyArm (by exact .same rfl)).raise
  · exact h

theorem State.secure.dropQueuedOf {num : Nat} (h : s.secure b) : (s.dropQueuedOf num).secure b := by
  refine h.forArms fun a t ht => ?_
  split
  · split
    · exact ht.dropQueued
    · exact ht
  · exact ht

theorem Arm.guards_withCause (x : Arm) (c : HoldCause) : x.guards (x.withCause c) := by
  refine (x.follows_withCause c).guards fun i held => ?_
  unfold Arm.withCause
  split
  · split <;> exact HoldSet.has_put_true c held
  · exact held

/-- A cause raised for one arm moves no permissive. -/
theorem State.permissive_raiseHold (s : State) (a : Fin 6) (c : HoldCause) (i : Permissive) :
    (s.raiseHold a c).permissive i = s.permissive i := by
  obtain ⟨-, bay⟩ := s.raiseHold_heldBy a c
  refine State.permissive_congr ?_ ?_ i <;>
  · split at bay
    · rw [bay]
      split <;> rfl
    · rw [bay]

theorem State.secure.raiseHold {c : HoldCause} (h : s.secure b) : (s.raiseHold a c).secure b := by
  refine h.step ?_ fun i => by rw [State.permissive_raiseHold]
  rw [State.heldBy_arm (s.raiseHold_heldBy a c)]
  split
  · exact Arm.guards_withCause _ c
  · exact Arm.guards_refl _

/-- A cause is cleared that is no permissive's. -/
theorem State.secure.clearHold {c : HoldCause} (h : s.secure b) (other : ∀ i, c ≠ permissiveCause i) :
    (s.clearHold a c).secure b := by
  refine h.step (((s.steady_clearHold a c).lines.arms b).guards fun i held => ?_) fun _ => rfl
  rw [State.clearHold, State.arm_modifyArm]
  split
  · exact HoldSet.has_put_false (other i) held
  · exact held

end Sys2Proof.Machine
end

section
namespace Sys2Proof.Machine

variable {s : State} {a b : Fin 6}

/-! ### The dosing unit (07) -/

theorem State.secure.judgeOverspeed (h : s.secure b) : (s.judgeOverspeed a).secure b := by
  unfold State.judgeOverspeed
  split
  · split
    · exact h.modifyEngaged.raiseHold
    · exact h
  · exact h

theorem State.secure.judgeReducedFlow (h : s.secure b) : (s.judgeReducedFlow a).secure b := by
  unfold State.judgeReducedFlow
  split
  · split
    · exact h.modifyArm (.same rfl)
    · split
      · exact (h.modifyArm (by exact .same rfl)).raise
      · exact h
  · exact h

theorem State.secure.judgeAdditiveClear (h : s.secure b) : (s.judgeAdditiveClear a).secure b := by
  unfold State.judgeAdditiveClear
  split
  · split
    · exact h.clearHold nofun
    · exact h
  · exact h

theorem State.secure.judgeDosing (h : s.secure b) : (s.judgeDosing a).secure b :=
  h.judgeOverspeed.judgeReducedFlow.judgeAdditiveClear

theorem State.secure.issueShot (h : s.secure b) : (s.issueShot a).secure b := by
  unfold State.issueShot
  split
  · split
    · exact h.modifyDosing.modifyInjector
    · exact h
  · exact h

theorem State.secure.shotGood {i : Fin 8} {r : DosingRecord} {retry : Bool} (h : s.secure b) :
    (s.shotGood a i r retry).secure b := h.modifyInjector.modifyDosing.issueShot.judgeDosing

theorem State.secure.feedbackPulse {i : Fin 8} (h : s.secure b) : (s.feedbackPulse a i).secure b := by
  unfold State.feedbackPulse
  dsimp only
  split
  · split
    · split
      · exact h.modifyDosing.shotGood
      · exact h.modifyDosing.modifyInjector
    · exact h.modifyDosing
  · exact h.modifyDosing

theorem State.secure.takeOver {r : DosingRecord} {i j : Fin 8} (h : s.secure b) : (s.takeOver a r i j).secure b :=
  (h.modifyInjector.modifyArm (by exact .same rfl)).modifyActiveLine.issueShot.judgeDosing

theorem State.secure.disengage {r : DosingRecord} (h : s.secure b) : (s.disengage a r).secure b :=
  (h.modifyArm (by exact .same rfl)).raiseHold.judgeReducedFlow

theorem State.secure.injectorFails {r : DosingRecord} {j : Fin 8} (h : s.secure b) : (s.injectorFails a r j).secure b := by
  unfold State.injectorFails
  dsimp only
  split
  · exact h.modifyInjector.modifyInjectorStore.raise.takeOver
  · exact h.modifyInjector.modifyInjectorStore.raise.disengage

theorem State.secure.windowExpires {i : Fin 8} (h : s.secure b) : (s.windowExpires i).secure b := by
  unfold State.windowExpires
  split
  · exact h.modifyInjector
  · split
    · exact h
    · split
      · exact h
      · split
        · split
          · exact h.modifyDosing.modifyInjector.judgeDosing
          · exact h.injectorFails
        · exact h

theorem State.secure.openDosing {recipe : Option (Fin 16)} (h : s.secure b) : (s.openDosing a recipe).secure b := by
  unfold State.openDosing
  split
  · exact h
  · split
    · exact h
    · exact h.modifyArm (.same rfl)

theorem State.secure.serveDosing {gross : Nat} (h : s.secure b) : (s.serveDosing a gross).secure b := by
  unfold State.serveDosing
  split
  · exact h.modifyDosing.issueShot.judgeDosing
  · exact h

theorem State.secure.finishDosing (h : s.secure b) : (s.finishDosing a).secure b := by
  unfold State.finishDosing
  split
  · split
    · exact (h.modifyArm (by exact .same rfl)).issueShot.judgeDosing
    · exact h
  · exact h

theorem State.secure.abandonDosing (h : s.secure b) : (s.abandonDosing a).secure b := by
  unfold State.abandonDosing
  split
  · exact h.modifyEngaged.modifyDosing
  · exact h

theorem State.secure.stopDosing (h : s.secure b) : (s.stopDosing a).secure b := by
  unfold State.stopDosing
  dsimp only
  split
  · split
    · exact h.abandonDosing.modifyArm (.same rfl)
    · exact h.abandonDosing
  · exact h.abandonDosing

theorem State.secure.fixDosing {quiet : Bool} (h : s.secure b) : (s.fixDosing a quiet).secure b := by
  unfold State.fixDosing
  split
  · exact h
  · dsimp only
    split
    · exact (h.modifyEngaged.modifyActiveLine.modifyArm (by exact .same rfl)).raise
    · exact h.modifyEngaged.modifyActiveLine.modifyArm (.same rfl)

/-! ### The pulse decoder (03) -/

theorem State.secure.judgeAllowance (h : s.secure b) : (s.judgeAllowance a).secure b := by
  unfold State.judgeAllowance
  dsimp only
  split
  · exact h.modifyDecoder.raiseHold
  · exact h

theorem State.secure.judgeMisses {lost : Channel} (h : s.secure b) : (s.judgeMisses a lost).secure b := by
  unfold State.judgeMisses
  split
  · exact h.modifyDecoder.modifyActiveLine
  · exact h

theorem State.secure.meterEdge {c : Channel} (h : s.secure b) : (s.meterEdge a c).secure b := by
  unfold State.meterEdge
  dsimp only
  split
  · exact h
  · split
    · exact h.modifyDecoder
    · split
      · exact h.modifyDecoder
      · split
        · exact h.modifyDecoder.judgeAllowance.judgeMisses
        · exact h.modifyDecoder

/-! ### Probes (04) -/

theorem State.secure.probeActs {e : ProbeEvent} (h : s.secure b) : (s.probeActs a e).secure b := by
  cases e
  case none => exact h
  case failed => exact h.raise.raiseHold
  case recovered => exact h.clearHold nofun

theorem State.secure.judgeProbe {timedOut : Bool} (h : s.secure b) : (s.judgeProbe a timedOut).secure b := by
  have judged : ∀ probes, State.secure { s with probes := probes } b := fun _ => h.beside rfl
  exact (judged _).probeActs

theorem State.secure.endGate {timedOut : Bool} (h : s.secure b) : (s.endGate timedOut).secure b := by
  have begun : State.secure { s with gate := Gate.cold } b := h.beside rfl
  exact begun.forArms fun _ _ ht => ht.judgeProbe

/-! ### Permissives, stop and deadman (06) -/

/-- A permissive changes that stays recognized as it is. -/
theorem State.secure.modifyPermissive {i : Permissive} {f : PermissiveInput → PermissiveInput} (h : s.secure b)
    (same : (f (s.permissive i)).recognized = (s.permissive i).recognized) : (s.modifyPermissive i f).secure b := by
  refine h.step (by rw [State.arm_congr (s.modifyPermissive_arms i f)]; exact Arm.guards_refl _) fun j => ?_
  rw [State.permissive_modifyPermissive]
  split
  · next own => rw [own, same]
  · rfl

theorem Arm.withCause_holds {x : Arm} (active : x.active.isSome = true) (c : HoldCause) :
    (x.withCause c).holds.has c = true := by
  have put : ∀ h : HoldSet, (h.put true c).has c = true := fun h => by cases c <;> rfl
  unfold Arm.withCause
  by_cases takes : x.holds.has c = false
  · rw [if_pos ⟨active, takes⟩]
    split <;> exact put _
  · rw [if_neg fun h => takes h.2]
    simpa using takes

theorem State.arm_holdLost (s : State) (i : Permissive) (b : Fin 6) :
    ((s.modifyPermissive i (fun _ => ⟨false, .lost, none⟩)).holdAll (permissiveCause i)).arm b =
      (s.arm b).withCause (permissiveCause i) := by
  rw [State.arm_holdAll, State.arm_congr (s.modifyPermissive_arms i _)]

/-- A cause raised for every arm moves no permissive. -/
theorem State.permissive_holdAll (s : State) (c : HoldCause) (i : Permissive) :
    (s.holdAll c).permissive i = s.permissive i :=
  State.forArms_keeps (P :=
    fun t => t.permissive i = s.permissive i) rfl fun a t ht => (t.permissive_raiseHold a c i).trans ht

theorem State.permissive_holdLost (s : State) (i j : Permissive) :
    ((s.modifyPermissive i (fun _ => ⟨false, .lost, none⟩)).holdAll (permissiveCause i)).permissive j =
      if j = i then ⟨false, .lost, none⟩ else s.permissive j := by
  rw [State.permissive_holdAll, State.permissive_modifyPermissive]

/-- The loss of a permissive raises its cause for every arm that carries a line. -/
theorem State.secure.losePermissive {i : Permissive} (h : s.secure b) : (s.losePermissive i).secure b := by
  cases level : (s.permissive i).level with
  | false =>
    rw [State.losePermissive, level, if_neg nofun]
    exact h
  | true =>
    cases recognized : (s.permissive i).recognized with
    | lost =>
      rw [State.losePermissive_lost level recognized]
      exact h.modifyPermissive rfl
    | present =>
      rw [State.losePermissive_present level recognized]
      refine State.secure.raise ?_
      have arm := s.arm_holdLost i b
      have permissive := s.permissive_holdLost i
      generalize State.holdAll _ (permissiveCause i) = t at arm permissive ⊢
      obtain ⟨stands, held⟩ := h
      obtain ⟨standing, active, holds⟩ := (s.arm b).guards_withCause (permissiveCause i)
      refine ⟨arm ▸ standing stands, fun j lost carries => ?_⟩
      rw [arm] at carries ⊢
      by_cases own : j = i
      · exact own ▸ Arm.withCause_holds (active carries) _
      · rw [permissive, if_neg own] at lost
        exact holds j (held j lost (active carries))

theorem State.secure.returnPermissive {i : Permissive} (h : s.secure b) : (s.returnPermissive i).secure b := by
  unfold State.returnPermissive
  dsimp only
  split
  · exact h
  · exact h.modifyPermissive rfl

/-- A restored permissive is PRESENT, and its cause is cleared from every arm. -/
theorem State.secure.restorePermissive {i : Permissive} (h : s.secure b) : (s.restorePermissive i).secure b := by
  cases timer : (s.permissive i).timer with
  | none =>
    rw [State.restorePermissive, timer, if_neg nofun]
    exact h
  | some ms =>
    have stands := ((s.steady_restorePermissive i).lines.arms b).standing h.1
    rw [State.restorePermissive_running timer] at stands ⊢
    refine ⟨stands, fun j lost carries => ?_⟩
    have permissive := s.permissive_modifyPermissive i j (fun x => { x with recognized := .present, timer := none })
    have lost : ((s.modifyPermissive i (fun x => { x with recognized := .present, timer :=
      none })).permissive j).recognized =
      .lost := by cases j <;> exact lost
    have arm : ∀ (t : State) (f : Arm → Arm), ({ t with arms := s.arms.map f } : State).arm b = f (s.arm b) := fun _ _ =>
      Table.get_map _ _ _
    rw [arm] at carries ⊢
    by_cases own : j = i
    · rw [permissive, if_pos own] at lost
      cases lost
    · rw [permissive, if_neg own] at lost
      exact HoldSet.has_put_false (fun same => own (permissiveCause_injective same).symm) (h.2 j lost carries)

theorem State.secure.stopReleased (h : s.secure b) : s.stopReleased.secure b := by
  unfold State.stopReleased
  split
  · exact h.beside rfl
  · exact h

theorem State.secure.stopTimeout (h : s.secure b) : s.stopTimeout.secure b := by
  unfold State.stopTimeout
  split
  · exact h.beside rfl
  · exact h

theorem State.secure.warnDeadman (h : s.secure b) : s.warnDeadman.secure b := by
  unfold State.warnDeadman
  split
  · exact h.beside rfl
  · exact h

theorem State.secure.expireDeadman (h : s.secure b) : s.expireDeadman.secure b := by
  unfold State.expireDeadman
  split
  · have held : (s.forArms (fun a t => if (t.arm a).state.flowing then t.raiseHold a .deadman else t)).secure b := by
      refine h.forArms fun a t ht => ?_
      split
      · exact ht.raiseHold
      · exact ht
    exact held.modifyDeadman
  · exact h

theorem State.secure.pressDeadman (h : s.secure b) : s.pressDeadman.secure b := by
  have cleared : (s.forArms (fun a t => t.clearHold a .deadman)).secure b := h.forArms fun _ _ ht => ht.clearHold nofun
  unfold State.pressDeadman
  dsimp only
  split
  · exact cleared.modifyDeadman
  · exact cleared

theorem State.secure.deadmanButton {pressed : Bool} (h : s.secure b) : (s.deadmanButton pressed).secure b := by
  have moved : (s.modifyDeadman (fun d => { d with pressed := pressed })).secure b := h.beside rfl
  unfold State.deadmanButton
  dsimp only
  split
  · exact moved.pressDeadman
  · exact moved

/-! ### One millisecond -/

theorem State.secure.elapse (h : s.secure b) : s.elapse.secure b := by
  refine h.step ?_ fun i => by cases i <;> rfl
  rw [State.arm_elapse]
  exact .same rfl

end Sys2Proof.Machine
end

section
/-! The interlock where lines start, end and close on their arms, and in the metering sample (R81 to R98). -/

namespace Sys2Proof.Machine

variable {s : State} {a b : Fin 6}

/-! ### Orders (02) -/

theorem State.secure.closeOrder {slot : Fin 24} {cause : CloseCause} (h : s.secure b) :
    (s.closeOrder slot cause).secure b := by
  unfold State.closeOrder
  split
  · refine State.secure.raise (State.secure.raise ?_)
    unfold State.closeQuietly
    split
    · exact h.compose.endClaim.dropQueuedOf.setOrder
    · exact h
  · exact h

theorem State.secure.judgeOrder {slot : Fin 24} (h : s.secure b) : (s.judgeOrder slot).secure b := by
  cases ho : s.order slot with
  | none =>
    simp only [State.judgeOrder, ho]
    exact h
  | some o =>
    rcases State.judgeOrder_cases ho with ⟨-, -, e⟩ | ⟨-, -, e⟩ | ⟨-, -, -, e⟩ | ⟨-, -, e⟩ <;> rw [e]
    · exact h.closeOrder
    · exact h.closeOrder
    · exact h.modifyOrder
    · exact h

/-! ### The close command, and the end of a line (R89, R92) -/

theorem Arm.guards_closeForLineEnd {x : Arm} : x.guards x.closeForLineEnd := by
  refine ⟨fun h => (Arm.closeForLineEnd_stands h).1, fun h => x.closeForLineEnd_active ▸ h, fun i held => ?_⟩
  unfold Arm.closeForLineEnd
  split <;> exact held

theorem State.secure.closeForLineEnd {r : LineResult} {f : LineFlags → LineFlags} (h : s.secure b) :
    (s.closeForLineEnd a r f).secure b :=
  ((h.modifyActiveLine.modifyArm (by exact .same rfl)).finishDosing.modifyArm Arm.guards_closeForLineEnd).settleDeadman

theorem State.secure.decideOverrun (h : s.secure b) : (s.decideOverrun a).secure b := by
  unfold State.decideOverrun
  split
  · exact h
  · exact h.modifyActiveLine.modifyArm (.same rfl)

theorem State.secure.fixLine {quiet : Bool} (h : s.secure b) : (s.fixLine a quiet).secure b :=
  h.modifyActiveLine.fixDosing.decideOverrun

/-- The end of another arm's line. -/
theorem State.secure.finishOther (h : s.secure b) (other : b ≠ a) : (s.finishLine a).secure b := by
  unfold State.finishLine
  split
  · exact h
  · exact (h.fixLine.modifyLine.modifyOther other).raise.judgeOrder

/-- The end of an arm's line leaves it bare. -/
theorem State.finishLine_bare (standing : (s.arm a).standing) : ((s.finishLine a).arm a).bare := by
  unfold State.finishLine
  split
  · next free => exact Arm.bare_of_standing standing free
  · next ref _ =>
    refine (State.loadsSame_judgeOrder _ ref.slot).bare ((State.loadsSame_raise _ _ _).bare ?_)
    rw [State.arm_modifyArm, if_pos rfl]
    exact ⟨rfl, rfl⟩

/-- An arm without a line or a cause is secure in a state without a line. -/
theorem State.secure_rest {f : Arm → Arm} (bare : (f (s.arm a)).bare)
    (state : (f (s.arm a)).state = .idle ∨ (f (s.arm a)).state = .locked) (reason : (f (s.arm a)).reason = none) :
    (s.modifyArm a f).secure a := by
  obtain ⟨free, clear⟩ := bare
  rw [State.secure, State.arm_modifyArm, if_pos rfl]
  refine ⟨⟨?_, ?_, fun held => absurd clear held⟩, fun i _ active => by simp [free] at active⟩
  · rcases state with e | e <;> simp [free, e]
  · rcases state with e | e <;> simp [reason, e]

/-- An arm's line ends and the arm goes IDLE or LOCKED. -/
theorem State.secure.finishAndRest {f : Arm → Arm} (h : s.secure b) (loads :
    ∀ x, (f x).active = x.active ∧ (f x).holds = x.holds)
    (rests : ∀ x, ((f x).state = .idle ∨ (f x).state = .locked) ∧ (f x).reason = none) :
    ((s.finishLine a).modifyArm a f).secure b := by
  by_cases own : b = a
  · subst own
    obtain ⟨free, clear⟩ := State.finishLine_bare h.1
    exact State.secure_rest ⟨(loads _).1.trans free, (loads _).2.trans clear⟩ (rests _).1 (rests _).2
  · exact (h.finishOther own).modifyOther own

theorem State.secure.endSuspended {r : LineResult} {f : LineFlags → LineFlags} (h : s.secure b) :
    (s.endSuspended a r f).secure b :=
  h.modifyActiveLine.abandonDosing.finishAndRest (fun _ => ⟨rfl, rfl⟩) fun _ => ⟨.inl rfl, rfl⟩

/-! ### A line's start (R81, R82, R84) -/

theorem State.secure.beginOther {slot : Fin 24} {k : Nat} (h : s.secure b) (other : b ≠ a) :
    (s.beginLine a slot k).secure b :=
  (h.modifyOrder.modifyMeterStore.modifyOther other).openDosing.modifyDeadman

/-- The permissives that a start requires are PRESENT (R81, check 4). -/
theorem State.present_of_checks {o : Order} {l : Line} {recheck : Bool} (h : ∀ c ∈ s.startChecks a o l recheck, c.1 = false)
    (i : Permissive) : (s.permissive i).recognized = .present := by
  have passed := h (!s.bay.permits, .permissive) (by simp [State.startChecks])
  cases recognized : (s.permissive i).recognized with
  | present => rfl
  | lost =>
    have fails : (!s.bay.permits) = true := (Bay.permits_iff _).mpr (by
      cases i
      · exact .inl recognized
      · exact .inr (.inl recognized))
    rw [fails] at passed
    cases passed

/-- A line begins on a bare arm while both permissives are PRESENT. -/
theorem State.secure_beginLine {slot : Fin 24} {k : Nat} (bare : (s.arm a).bare)
    (present : ∀ i, (s.permissive i).recognized = .present) : (s.beginLine a slot k).secure a := by
  refine State.secure.modifyDeadman (State.secure.openDosing ?_)
  rw [State.secure, State.arm_modifyArm, if_pos rfl]
  refine ⟨⟨by simp [Arm.startLine], by simp [Arm.startLine], fun held => absurd bare.2 held⟩, fun i lost => ?_⟩
  have lost : (s.permissive i).recognized = .lost := by cases i <;> exact lost
  rw [present i] at lost
  cases lost

theorem State.secure.recheckOther (h : s.secure b) (other : b ≠ a) : (s.recheckQueued a).secure b := by
  unfold State.recheckQueued
  split
  · exact h.modifyOther other
  · split
    · split
      · exact h.dropQueued.modifyOther other
      · exact (h.modifyOther other).beginOther other
    · exact h.dropQueued.modifyOther other

/-- A bare arm goes IDLE, or its queued start begins. -/
theorem State.secure_recheckQueued (bare : (s.arm a).bare) : (s.recheckQueued a).secure a := by
  have dropped : ((s.dropQueued a).modifyArm a Arm.goIdle).secure a :=
    State.secure_rest ((s.loadsSame_dropQueued a).bare bare) (.inl rfl) rfl
  unfold State.recheckQueued
  split
  · exact State.secure_rest bare (.inl rfl) rfl
  · split
    · split
      · exact dropped
      · next passed =>
        refine State.secure_beginLine ?_ fun i => ?_
        · rw [State.arm_modifyArm, if_pos rfl]
          exact bare
        · have present := State.present_of_checks fun c hc => by
            simpa using List.any_eq_false.mp (Bool.not_eq_true _ ▸ passed) c hc
          exact (congrArg PermissiveInput.recognized (State.permissive_congr rfl rfl i)).trans (present i)
    · exact dropped

/-- A line's end on an arm, and the re-check of the queued start (R84, R92). -/
theorem State.secure.completeClose (h : s.secure b) : ((s.finishLine a).recheckQueued a).secure b := by
  by_cases own : b = a
  · subst own
    exact State.secure_recheckQueued (State.finishLine_bare h.1)
  · exact (h.finishOther own).recheckOther own

/-! ### The metering sample (R85, R86, R91, R96, R98) -/

theorem State.secure.judgeFlow {pulses : Nat} (h : s.secure b) : (s.judgeFlow a pulses).secure b := by
  unfold State.judgeFlow
  split
  · exact h
  · next l _ =>
    split
    · exact h.closeForLineEnd
    · split
      · next flows =>
        exact h.modifyArm (Arm.follows.guards (y := (s.arm a).staged l.remaining pulses)
          (Arm.follows_flowing flows (Arm.stage_flowing flows _) rfl rfl rfl) fun _ => id)
      · exact h

theorem State.secure.leakDetected (h : s.secure b) : (s.leakDetected a).secure b := by
  have finished := h.modifyActiveLine (a := a)
    (f := fun l => { l with result := some (l.result.getD .aborted), flags := { l.flags with leak := true } })
    |>.abandonDosing (a := a)
  unfold State.leakDetected
  dsimp only
  refine State.secure.raise ?_
  by_cases own : b = a
  · subst own
    have bare := (State.loadsSame_dropQueued _ b).bare (State.finishLine_bare finished.1)
    exact State.secure_rest bare (.inr rfl) rfl
  · exact ((finished.finishOther own).dropQueued).modifyOther own

theorem State.secure.judgeClose {pulses : Nat} (h : s.secure b) : (s.judgeClose a pulses).secure b := by
  unfold State.judgeClose
  dsimp only
  split
  · exact h.leakDetected
  · split
    · next closes =>
      split
      · exact h.completeClose
      · next reason =>
        have follows := (State.steady_suspend closes.1 reason).lines.arms b
        refine h.step (follows.guards fun i held => ?_) fun _ => rfl
        rw [State.suspend, State.arm_congr (State.raise_arms _ _ _), State.arm_modifyArm]
        split <;> exact held
      · exact h
    · exact h

theorem State.secure.sample (h : s.secure b) : (s.sample a).secure b := by
  have metered : (s.meterSample a (s.sampleOf a)).secure b :=
    (h.modifyArm (by exact .same rfl)).modifyMeterStore.modifyActiveLine
  unfold State.sample
  dsimp only
  split
  · exact (metered.serveDosing.modifyArm (by exact .same rfl)).judgeFlow.judgeClose
  · unfold State.straySample State.addStray
    dsimp only
    split
    · exact ((metered.modifyArm (by exact .same rfl)).modifyArm (by exact .same rfl)).raise
    · exact (metered.modifyArm (by exact .same rfl)).modifyArm (.same rfl)

/-! ### START LINE, END LINE, CANCEL ORDER and the stop (R36, R81, R88, R114) -/

theorem State.secure.checked {checks : List (Bool × ReplyCode)} {act : Answer} (h : s.secure b)
    (acts : (∀ c ∈ checks, c.1 = false) → act.1.secure b) : (s.checked checks act).1.secure b := by
  unfold State.checked
  split
  · exact h
  · next passes => exact acts fun c hm => by simpa using List.find?_eq_none.mp passes c hm

/-- A stray sample moves no permissive. -/
theorem State.permissive_sample (free : (s.arm a).active = none) (i : Permissive) :
    (s.sample a).permissive i = s.permissive i := by
  rw [State.sample_stray free]
  cases s.straysOver a <;> exact State.permissive_congr rfl rfl i

theorem State.secure.startLine {arm num k : Nat} (h : s.secure b) : (startLine arm num k s).1.secure b := by
  unfold Machine.startLine
  split
  · exact h
  · next a _ =>
    split
    · exact h
    · split
      · exact h
      · next slot o l _ =>
        refine h.checked fun passed => ?_
        split
        · next idle =>
          by_cases own : b = a
          · subst own
            have free : (s.arm b).active = none := by simpa [idle] using h.1.1
            have sampled := (State.steady_sample_stray free).lines.arms b
            have bare := Arm.bare_of_standing (sampled.standing h.1) (sampled.active.trans free)
            refine State.secure_beginLine bare fun i => ?_
            rw [State.permissive_sample free]
            exact State.present_of_checks passed i
          · exact h.sample.beginOther own
        · exact h.modifyArm (.same rfl)

theorem State.secure.endLine {arm : Nat} (h : s.secure b) : (endLine arm s).1.secure b := by
  unfold Machine.endLine
  split
  · exact h
  · split
    · exact h
    · exact h
    · exact h
    · exact h.endSuspended
    · exact h.closeForLineEnd
    · exact h.closeForLineEnd
    · exact h.closeForLineEnd

theorem State.secure.cancelActive {slot : Fin 24} (h : s.secure b) : (s.cancelActive slot).secure b := by
  refine h.forArms fun a t ht => ?_
  split
  · split
    · exact ht.closeForLineEnd
    · exact ht
  · exact ht

theorem State.secure.cancelOrder {num : Nat} (h : s.secure b) : (cancelOrder num s).1.secure b := by
  unfold Machine.cancelOrder
  split
  · exact h
  · split
    · exact h
    · dsimp only [State.ok]
      exact h.setOrder.dropQueuedOf
    · dsimp only [State.ok]
      exact h.endClaim.setOrder.dropQueuedOf
    · split
      · dsimp only [State.ok]
        exact h.cancelActive.modifyOrder.dropQueuedOf.modifyOrder
      · exact h.modifyOrder.closeOrder

theorem State.secure.stopPressed (h : s.secure b) : s.stopPressed.secure b := by
  have active : ∀ f, (s.modifyStop f).secure b := fun _ => h.beside rfl
  have aborted : ∀ {t : State}, t.secure b → (t.forArms (fun a t => t.stopLine a)).secure b := fun ht =>
    ht.forArms fun a u hu => by
      unfold State.stopLine
      split
      · exact hu.closeForLineEnd
      · exact hu
  unfold State.stopPressed
  split
  · exact h
  · split
    · exact active _
    · exact ((aborted ((active _).forArms fun _ _ ht => ht.stopDosing)).forArms fun _ _ ht => ht.dropQueued).raise

end Sys2Proof.Machine
end

section
/-! The interlock through the requests, the power failure and the restarts; and along every step. -/

namespace Sys2Proof.Machine

variable {s : State} {a b : Fin 6}

/-! ### The permits and the orders (01, 02) -/

theorem State.secure.withdrawClaim {slot : Fin 24} (h : s.secure b) : (s.withdrawClaim slot).secure b := by
  unfold State.withdrawClaim
  split
  · exact h.modifyOrder.endClaim
  · exact h

theorem State.secure.barClaim {claim : Option (Fin 24)} (h : s.secure b) : (s.barClaim claim).secure b := by
  unfold State.barClaim
  split
  · exact h
  · split
    · split
      · exact h.withdrawClaim.raise
      · exact h
    · exact h

theorem State.secure.modifyPermit {e : Fin 200} {f : Permit → Permit} (h : s.secure b) : (s.modifyPermit e f).secure b :=
  h.beside rfl

theorem State.secure.writePermit {num carrier : Nat} {classes : BitVec 8} {expiry state : Nat} (h : s.secure b) :
    (writePermit num carrier classes expiry state s).1.secure b := by
  unfold Machine.writePermit
  split
  · exact h
  · refine h.checked fun _ => ?_
    split
    · refine h.checked fun _ => ?_
      dsimp only [State.ok]
      split
      · exact h.modifyPermit.barClaim
      · exact h.modifyPermit
    · unfold createPermit
      split
      · exact h
      · exact h.beside rfl

theorem State.secure.barPermit {num : Nat} (h : s.secure b) : (barPermit num s).1.secure b := by
  unfold Machine.barPermit
  split
  · exact h
  · split
    · exact h.modifyPermit.barClaim
    · exact h

theorem State.secure.deletePermit {num : Nat} (h : s.secure b) : (deletePermit num s).1.secure b := by
  unfold Machine.deletePermit
  split
  · exact h
  · exact h.checked fun _ => h.beside rfl

theorem State.secure.postOrder {num permit carrier tanker : Nat} {lines : List LineSpec} (h : s.secure b) :
    (postOrder num permit carrier tanker lines s).1.secure b := by
  refine h.checked fun _ => ?_
  split
  · exact h.setOrder
  · exact h

theorem State.secure.amendOrder {num permit tanker : Nat} {lines : List LineSpec} (h : s.secure b) :
    (amendOrder num permit tanker lines s).1.secure b := by
  unfold Machine.amendOrder
  split
  · exact h
  · refine h.checked fun _ => ?_
    dsimp only [State.ok]
    exact h.setOrder.dropQueuedOf

theorem State.secure.presentPermit {num tanker order : Nat} (h : s.secure b) :
    (presentPermit num tanker order s).1.secure b := by
  unfold Machine.presentPermit
  split
  · exact h
  · split
    · next e p slot o _ _ =>
      refine h.checked fun _ => ?_
      have bound : ∀ permits f, ({ s.modifyOrder slot f with permits := permits } : State).secure b :=
        fun _ _ => h.beside rfl
      dsimp only [State.ok, State.claimOrder]
      split
      · exact (bound _ _).raise
      · exact bound _ _
    · exact h

theorem State.secure.releaseClaim {order : Nat} (h : s.secure b) : (releaseClaim order s).1.secure b := by
  unfold Machine.releaseClaim
  split
  · exact h
  · exact h.checked fun _ => h.withdrawClaim

theorem State.secure.finishOrder {order : Nat} (h : s.secure b) : (finishOrder order s).1.secure b := by
  unfold Machine.finishOrder
  split
  · exact h
  · exact h.checked fun _ => h.modifyOrder.closeOrder

/-! ### The tables and the injectors (02, 07) -/

theorem State.secure.writeProduct {slot nameLength : Nat} {name : List Byte} {cls coefA coefB : Nat} (h : s.secure b) :
    (writeProduct slot nameLength name cls coefA coefB s).1.secure b := by
  unfold Machine.writeProduct
  split
  · exact h
  · exact h.checked fun _ => h.beside rfl

theorem State.secure.writeRecipe {slot additive rate tolerance : Nat} (h : s.secure b) :
    (writeRecipe slot additive rate tolerance s).1.secure b := by
  unfold Machine.writeRecipe
  split
  · exact h
  · exact h.checked fun _ => h.beside rfl

theorem State.secure.writeArmSetup {arm product lowStart restart topOff overrunLimit : Nat} (h : s.secure b) :
    (writeArmSetup arm product lowStart restart topOff overrunLimit s).1.secure b := by
  unfold Machine.writeArmSetup
  split
  · exact h
  · exact h.checked fun _ => h.modifyArm (.same rfl)

theorem State.secure.assignInjector {arm position injector : Nat} (h : s.secure b) :
    (assignInjector arm position injector s).1.secure b := by
  unfold Machine.assignInjector
  split
  · exact h.checked fun _ => h.setPosition.modifyInjector
  · exact h

theorem State.secure.removeInjector {arm position : Nat} (h : s.secure b) : (removeInjector arm position s).1.secure b := by
  unfold Machine.removeInjector
  split
  · refine h.checked fun _ => ?_
    split
    · exact h.setPosition.modifyInjector
    · exact h
  · exact h

theorem State.secure.assignStandby {primary standby : Nat} (h : s.secure b) :
    (assignStandby primary standby s).1.secure b := by
  unfold Machine.assignStandby
  split
  · exact h.checked fun _ => h.modifyInjector
  · exact h

theorem State.secure.releaseStandby {injector : Nat} (h : s.secure b) : (releaseStandby injector s).1.secure b := by
  unfold Machine.releaseStandby
  split
  · exact h
  · split
    · exact h.modifyInjector
    · exact h
    · exact h

theorem State.secure.returnInjector {injector : Nat} (h : s.secure b) : (returnInjector injector s).1.secure b := by
  unfold Machine.returnInjector
  split
  · exact h
  · exact h.checked fun _ => h.modifyInjectorStore

/-! ### Holds and arms (05, 06) -/

theorem State.secure.holdRequest {c : HoldCause} {arm : Nat} (h : s.secure b) : (holdRequest c arm s).1.secure b := by
  unfold Machine.holdRequest
  split
  · exact h
  · exact h.checked fun _ => h.raiseHold

theorem State.secure.releaseArm {arm : Nat} (h : s.secure b) : (releaseArm arm s).1.secure b := by
  unfold Machine.releaseArm
  split
  · exact h
  · exact h.checked fun _ => h.clearHold nofun

/-- RESUME ARM clears the driver's causes alone (R109). -/
theorem State.secure.resumeArm {arm : Nat} (h : s.secure b) : (resumeArm arm s).1.secure b := by
  unfold Machine.resumeArm
  split
  · exact h
  · next a _ =>
    refine h.checked fun passed => State.secure.modifyDeadman (h.modifyArm (Arm.follows.guards ?_ fun i held => ?_))
    · have suspended : (s.arm a).state = .suspended := by
        simpa using passed ((s.arm a).state != .suspended, .wrongState) (by simp)
      exact Arm.follows_resume suspended (passed ((s.arm a).holds.blocksResume, .held) (by simp))
    · cases i <;> exact held

theorem State.secure.clearLockout {arm : Nat} (h : s.secure b) : (clearLockout arm s).1.secure b := by
  unfold Machine.clearLockout
  split
  · exact h
  · next a _ =>
    refine h.checked fun passed => h.modifyArm ?_
    have locked : (s.arm a).state = .locked := by
      have first := passed ((s.arm a).state != .locked || decide ((s.arm a).zeroRun < 10), .wrongState) (by simp)
      simpa using (Bool.or_eq_false_iff.mp first).1
    exact ⟨fun ⟨active, reason, holds⟩ => ⟨by simpa [locked] using active, by simpa [locked] using reason,
      by simpa [locked] using holds⟩, id, fun _ => id⟩

/-! ### The calibration store (08) -/

theorem State.secure.calibrated (h : s.secure b) : s.calibrated.1.secure b := h.beside rfl

theorem State.secure.writeMeterItem {arm : Nat} {bad : Bool} {write : MeterStore → MeterStore} (h : s.secure b) :
    (writeMeterItem arm bad write s).1.secure b := by
  unfold Machine.writeMeterItem
  split
  · exact h.checked fun _ => h
  · exact h.checked fun _ => h.modifyMeterStore.calibrated

theorem State.secure.writeInjectorItem {injector additive shotSize kf : Nat} (h : s.secure b) :
    (writeInjectorItem injector additive shotSize kf s).1.secure b := by
  unfold Machine.writeInjectorItem
  split
  · exact h.checked fun _ => h
  · exact h.checked fun _ => h.modifyInjectorStore.calibrated

theorem State.secure.setSeal {level : Nat} (h : s.secure b) : (setSeal level s).1.secure b := by
  unfold Machine.setSeal
  split
  · exact h
  · refine h.checked fun _ => ?_
    dsimp only [State.ok, State.raiseSeal]
    split
    · exact h.beside rfl
    · exact h.beside rfl

theorem State.secure.writeTrialFactor {arm factor : Nat} (h : s.secure b) : (writeTrialFactor arm factor s).1.secure b := by
  refine h.checked fun _ => ?_
  split
  · exact h.modifyMeterStore
  · exact h

/-! ### Statistics, journal, notices and reads (03, 09, 10) -/

theorem State.secure.readAndClearStatistics {arm : Nat} (h : s.secure b) : (readAndClearStatistics arm s).1.secure b := by
  unfold Machine.readAndClearStatistics
  split
  · exact h
  · exact State.secure.foldl (fun _ _ ht => ht.modifyDecoder) _ h

theorem State.secure.collectNote {seq : Nat} (h : s.secure b) : (collectNote seq s).1.secure b := by
  refine h.checked fun _ => ?_
  split
  · exact h.setSlots
  · exact h

theorem State.secure.markPrinted {seq : Nat} (h : s.secure b) : (markPrinted seq s).1.secure b := by
  refine h.checked fun _ => ?_
  split
  · exact h.setSlots
  · exact h

theorem State.secure.fetchNotice {p : PortId} (h : s.secure b) : (fetchNotice p s).1.secure b := by
  unfold Machine.fetchNotice
  dsimp only
  split
  · exact h
  · exact h.modifyPort

theorem State.secure.noticeDone {p : PortId} (h : s.secure b) : (noticeDone p s).1.secure b := by
  unfold Machine.noticeDone
  split
  · exact h
  · exact h.modifyPort

theorem State.secure.readOrder {num slot part : Nat} (h : s.secure b) : (readOrder num slot part s).1.secure b := by
  unfold Machine.readOrder
  dsimp only
  split
  · exact h
  · split
    · exact h
    · split
      · exact h
      · split <;> exact h

theorem State.secure.readNote {seq part : Nat} (h : s.secure b) : (readNote seq part s).1.secure b := by
  refine h.checked fun _ => ?_
  split
  · split
    · exact h
    · split <;> exact h
  · exact h

theorem State.secure.readTotals {part : Nat} (h : s.secure b) : (readTotals part s).1.secure b := by
  unfold Machine.readTotals
  split
  · exact h
  · split <;> exact h

/-! ### Power failure and restarts (09, 10) -/

/-- Where no arm carries a line, arms that stand are secure. -/
theorem State.secure_of_free (stands : (s.arm b).standing) (free : (s.arm b).active = none) : s.secure b :=
  ⟨stands, fun _ _ active => by simp [free] at active⟩

/-- Where each arm's action brings that arm to a property and takes it from no other, acting on every arm brings
all to it. -/
theorem State.forArms_each {P : Arm → Prop} {f : Fin 6 → State → State} (own : ∀ a t, P ((f a t).arm a))
    (keep : ∀ a b t, P (State.arm t b) → P ((f a t).arm b)) (s : State) (b : Fin 6) : P ((s.forArms f).arm b) := by
  rw [State.forArms_eq]
  match b with
  | 0 => exact keep 5 0 _ (keep 4 0 _ (keep 3 0 _ (keep 2 0 _ (keep 1 0 _ (own 0 _)))))
  | 1 => exact keep 5 1 _ (keep 4 1 _ (keep 3 1 _ (keep 2 1 _ (own 1 _))))
  | 2 => exact keep 5 2 _ (keep 4 2 _ (keep 3 2 _ (own 2 _)))
  | 3 => exact keep 5 3 _ (keep 4 3 _ (own 3 _))
  | 4 => exact keep 5 4 _ (own 4 _)
  | 5 => exact own 5 _

/-- The save leaves every arm without a line. -/
theorem State.free_rested (s : State) (b : Fin 6) :
    ((s.forArms (fun a t => (t.takeLine a true).modifyArm a Arm.rest)).arm b).active = none := by
  refine State.forArms_each (P := fun x => x.active = none) (fun a t => ?_) (fun a b t free => ?_) s b
  · rw [State.arm_modifyArm, if_pos rfl]
    rfl
  · rw [State.arm_modifyArm]
    split
    · rfl
    · next other =>
      unfold State.takeLine
      split
      · rw [State.arm_modifyArm, if_neg other]
        exact ((t.steady_fixTaken a true).lines.arms b).active.trans free
      · exact free

theorem State.secure_save (s : State) (b : Fin 6) : s.save.secure b := by
  have rested := State.secure_of_free (s.armsStand_rested b) (s.free_rested b)
  unfold State.save
  dsimp only
  generalize s.forArms (fun a t => (t.takeLine a true).modifyArm a Arm.rest) = t at rested ⊢
  have stopped : State.secure { t.idleInjectors with orders := t.orders.map (Option.map Order.stopTimers) } b :=
    rested.beside rfl
  have settled := stopped.settleDeadman
  generalize State.settleDeadman _ = u at settled ⊢
  exact settled.beside rfl

theorem State.secure_coldStart (s : State) (b : Fin 6) : s.coldStart.secure b := by
  have cold : s.coldBlocks.secure b := by
    have arm : s.coldBlocks.arm b = Arm.cold := Table.get_fill _ _
    exact State.secure_of_free (arm ▸ Arm.cold_standing) (arm ▸ rfl)
  have recovered := State.secure.foldl (b := b) (f := State.recover) (fun t o ht => by
    unfold State.recover
    split
    · exact ht.compose
    · exact ht) s.journal.saveArea cold
  have noted : ∀ {t : State}, t.secure b → (t.announceRecovery s.journal.saveArea).secure b := fun {t} ht => by
    unfold State.announceRecovery
    dsimp only
    split <;> split
    · exact ht.raise.raise
    · exact ht.raise
    · exact ht.raise
    · exact ht
  exact noted recovered

theorem State.secure_restart (s : State) (b : Fin 6) : s.restart.secure b := by
  have rested (t : State) : (State.discardTrials (State.idleInjectors { t with arms := t.arms.map Arm.restart })).secure b := by
    have arm : (State.discardTrials (State.idleInjectors { t with arms := t.arms.map Arm.restart })).arm b =
        (t.arm b).restart := Table.get_map _ _ _
    exact State.secure_of_free (arm ▸ (t.arm b).rest_standing) (arm ▸ rfl)
  have blocks : s.restartBlocks.secure b := (rested _).settleDeadman
  unfold State.restart
  dsimp only
  generalize s.restartBlocks = t at blocks ⊢
  have emptied : State.secure { t with terminal := t.terminal.empty, console := t.console.empty } b := blocks.beside rfl
  exact State.secure.foldl (fun _ _ ht => ht.raise.raise) _ emptied

/-! ### Every step -/

theorem State.secure.request {judge : State → Answer} (h : s.secure b) (j : Request judge) : (judge s).1.secure b := by
  cases j
  case refused => exact h
  case readBay => exact h
  case readPermit =>
    unfold readPermit
    split <;> exact h
  case readOrder => exact h.readOrder
  case readArm =>
    unfold readArm
    split <;> exact h
  case readInjector =>
    unfold readInjector
    split <;> exact h
  case readNote => exact h.readNote
  case listNotes => exact h
  case readTotals => exact h.readTotals
  case readStatistics =>
    unfold readStatistics
    split <;> exact h
  case fetchNotice => exact h.fetchNotice
  case noticeDone => exact h.noticeDone
  case setNoticeLevels => exact h.checked fun _ => h.modifyPort
  case setClock => exact h.checked fun _ => h.beside rfl
  case writePermit => exact h.writePermit
  case barPermit => exact h.barPermit
  case deletePermit => exact h.deletePermit
  case writeProduct => exact h.writeProduct
  case writeRecipe => exact h.writeRecipe
  case writeArmSetup => exact h.writeArmSetup
  case assignInjector => exact h.assignInjector
  case removeInjector => exact h.removeInjector
  case assignStandby => exact h.assignStandby
  case releaseStandby => exact h.releaseStandby
  case returnInjector => exact h.returnInjector
  case postOrder => exact h.postOrder
  case amendOrder => exact h.amendOrder
  case cancelOrder => exact h.cancelOrder
  case holdRequest => exact h.holdRequest
  case releaseArm => exact h.releaseArm
  case clearLockout => exact h.clearLockout
  case collectNote => exact h.collectNote
  case writeKFactor => exact h.writeMeterItem
  case writeCurve => exact h.writeMeterItem
  case writeOffset => exact h.writeMeterItem
  case writeInjectorItem => exact h.writeInjectorItem
  case setSeal => exact h.setSeal
  case writeTrialFactor => exact h.writeTrialFactor
  case readAndClearStatistics => exact h.readAndClearStatistics
  case restart => exact s.secure_restart b
  case presentPermit => exact h.presentPermit
  case releaseClaim => exact h.releaseClaim
  case startLine => exact h.startLine
  case resumeArm => exact h.resumeArm
  case endLine => exact h.endLine
  case finishOrder => exact h.finishOrder
  case markPrinted => exact h.markPrinted

theorem State.secure.event {e : State → State} (h : s.secure b) (j : Event e) : (e s).secure b := by
  cases j
  case claimTimeout =>
    dsimp only
    split
    · split
      · exact h.withdrawClaim.raise
      · exact h
    · exact h
  case idleOrderTimeout =>
    dsimp only
    split
    · split
      · exact h.modifyOrder.closeOrder
      · exact h
    · exact h
  case meterEdge => exact h.meterEdge
  case sample => exact h.sample
  case endGate => exact h.endGate
  case noFlowTimeout =>
    dsimp only
    split
    · exact h.raiseHold
    · exact h
  case suspendTimeout =>
    dsimp only
    split
    · exact h.endSuspended
    · exact h
  case losePermissive => exact h.losePermissive
  case returnPermissive => exact h.returnPermissive
  case restorePermissive => exact h.restorePermissive
  case stopPressed => exact h.stopPressed
  case stopReleased => exact h.stopReleased
  case stopTimeout => exact h.stopTimeout
  case warnDeadman => exact h.warnDeadman
  case expireDeadman => exact h.expireDeadman
  case deadmanButton => exact h.deadmanButton
  case totalled => exact h.modifyInjectorStore
  case feedbackPulse => exact h.feedbackPulse
  case latePulse => exact h.modifyDosing
  case windowExpires => exact h.windowExpires
  case switchChange => exact h.beside rfl
  case powerFail => exact h.beside rfl
  case save => exact s.secure_save b
  case coldStart => exact s.secure_coldStart b
  case gap =>
    dsimp only
    split
    · exact h.modifyPort
    · exact h
  case clockAdvance => exact h.beside rfl
  case referenceEdge => exact h.beside rfl
  case probeEdge => exact h.beside rfl

/-- The interlock of an arm runs along every step. -/
theorem State.secure_along (b : Fin 6) : Along (fun s t => s.secure b → t.secure b) where
  refl _ := id
  trans h g := g ∘ h
  queue _ _ _ h := h.beside rfl
  port _ _ _ h := h.modifyPort
  request j _ h := h.request j
  event j _ h := h.event j
  elapse _ h := h.elapse

end Sys2Proof.Machine
end

section
namespace Sys2Proof.Proofs
open Sys2Proof Sys2Proof.Machine

/-- Settles O55: each arm is secure after a request, an event, a reception and a millisecond (`State.secure_along`). -/
theorem interlockHolds : Obligations.InterlockHolds := by
  unfold Obligations.InterlockHolds
  intro s t e h
  rw [State.interlocked_iff] at h ⊢
  exact fun b => (State.secure_along b).step e (h b)

end Sys2Proof.Proofs
end

section
/-! The deadman timer: its warning, its expiry, and the button (R116, R117, R118, R120). -/

namespace Sys2Proof.Machine

/-! ### The warning and the expiry (R117, R120) -/

theorem State.warnDeadman_due {s : State} {ms : Nat} (running : s.bay.deadman.elapsed = some ms)
    (fresh : s.bay.deadman.warned = false) :
    s.warnDeadman = (s.modifyDeadman (fun d => { d with warned := true })).raise .deadmanDue 0 :=
  if_pos (by simp [running, fresh])

/-- DEADMAN is raised for every arm that flows, in turn. -/
def State.holdFlowing (s : State) : State :=
  s.forArms (fun a t => if (t.arm a).state.flowing then t.raiseHold a .deadman else t)

/-- A timer that is stopped, or that has given no warning since it was restarted, has no expiry (R120). -/
theorem State.expireDeadman_void {s : State} (void : s.bay.deadman.elapsed = none ∨ s.bay.deadman.warned = false) :
    s.expireDeadman = s :=
  if_neg fun ⟨running, warned⟩ => by rcases void with e | e <;> simp [e] at running warned

theorem State.expireDeadman_warned {s : State} {ms : Nat} (running : s.bay.deadman.elapsed = some ms)
    (warned : s.bay.deadman.warned = true) :
    s.expireDeadman = s.holdFlowing.modifyDeadman (fun d => { d with elapsed := none }) :=
  if_pos (by simp [running, warned])

theorem State.arm_holdFlowing (s : State) (b : Fin 6) : s.holdFlowing.arm b =
    if (s.arm b).state.flowing = true then (s.arm b).withCause .deadman else s.arm b := by
  refine State.arm_forArms (g := fun _ x => if x.state.flowing = true then x.withCause .deadman else x) (fun a t b => ?_) b
  by_cases flows : (t.arm a).state.flowing = true
  · rw [if_pos flows, if_pos flows, State.heldBy_arm (t.raiseHold_heldBy a .deadman)]
    split
    · next own => rw [own]
    · rfl
  · rw [if_neg flows, if_neg flows]
    split
    · next own => rw [own]
    · rfl

/-- A cause raised for one arm moves the arms and the deadman timer's elapsed time alone. -/
theorem State.raiseHold_frame (s : State) (a : Fin 6) (c : HoldCause) : s.raiseHold a c = { s with
    arms := (s.raiseHold a c).arms
    bay := { s.bay with deadman := { s.bay.deadman with elapsed := (s.raiseHold a c).bay.deadman.elapsed } } } := by
  obtain ⟨frame, bay⟩ := s.raiseHold_heldBy a c
  generalize s.raiseHold a c = t at frame bay ⊢
  have timer : t.bay = { s.bay with deadman := { s.bay.deadman with elapsed := t.bay.deadman.elapsed } } := by
    split at bay
    · rw [bay]
      split <;> rfl
    · rw [bay]
  rw [← timer, frame]

theorem State.holdFlowing_frame (s : State) : s.holdFlowing = { s with
    arms := s.arms.map (fun x => if x.state.flowing = true then x.withCause .deadman else x)
    bay := { s.bay with deadman := { s.bay.deadman with elapsed := s.holdFlowing.bay.deadman.elapsed } } } := by
  have frame : s.holdFlowing = { s with
      arms := s.holdFlowing.arms
      bay := { s.bay with deadman := { s.bay.deadman with elapsed := s.holdFlowing.bay.deadman.elapsed } } } := by
    refine State.forArms_keeps (P := fun t => t = { s with
      arms := t.arms
      bay := { s.bay with deadman := { s.bay.deadman with elapsed := t.bay.deadman.elapsed } } }) rfl fun a t ht => ?_
    split
    · have held := t.raiseHold_frame a .deadman
      generalize t.raiseHold a .deadman = v at held ⊢
      rw [ht] at held
      exact held
    · exact ht
  have arms : s.holdFlowing.arms = s.arms.map (fun x => if x.state.flowing = true then x.withCause .deadman else x) :=
    Table.ext_get fun b => by
      rw [Table.get_map]
      exact s.arm_holdFlowing b
  rw [← arms]
  exact frame

/-- The expiry closes every arm that flows and stops the timer. -/
theorem State.expireDeadman_eq {s : State} {ms : Nat} (running : s.bay.deadman.elapsed = some ms)
    (warned : s.bay.deadman.warned = true) : s.expireDeadman = { s with
      arms := s.arms.map (fun x => if x.state.flowing = true then x.withCause .deadman else x)
      bay := { s.bay with deadman := { s.bay.deadman with elapsed := none } } } := by
  rw [State.expireDeadman_warned running warned, State.holdFlowing_frame]
  rfl

theorem State.expireDeadman_valvesOff {s : State} {ms : Nat} (running : s.bay.deadman.elapsed = some ms)
    (warned : s.bay.deadman.warned = true) (stands : s.armsStand) : s.expireDeadman.valvesOff := fun a => by
  refine Arm.shut_of_still ?_
  rw [State.expireDeadman_warned running warned]
  have arm := s.arm_holdFlowing a
  rw [State.arm_congr (State.modifyDeadman_arms _ _), arm]
  split
  · exact (stands a).still_withCause .deadman
  · next still => exact Bool.not_eq_true _ ▸ still

/-! ### The button (R118) -/

/-- A press clears DEADMAN from every arm, and restarts the timer while any arm flows. -/
theorem State.pressDeadman_eq (s : State) : s.pressDeadman = { s with
    arms := s.arms.map (fun x => { x with holds := { x.holds with deadman := false } })
    bay := { s.bay with deadman := if ∃ a, (s.arm a).state.flowing = true
      then { s.bay.deadman with elapsed := some 0, warned := false } else s.bay.deadman } } := by
  have cleared : s.forArms (fun a t => t.clearHold a .deadman) =
      { s with arms := s.arms.map (fun x => { x with holds := { x.holds with deadman := false } }) } :=
    s.forArms_modifyArm fun x => { x with holds := x.holds.put false .deadman }
  have flows : (∃ a, (State.arm { s with arms := s.arms.map (fun x => { x with holds := { x.holds with deadman := false } }) }
      a).state.flowing = true) ↔ ∃ a, (s.arm a).state.flowing = true :=
    exists_congr fun a => by rw [State.arm, Table.get_map]; rfl
  unfold State.pressDeadman
  dsimp only
  rw [cleared]
  by_cases any : ∃ a, (s.arm a).state.flowing = true
  · rw [if_pos any, if_pos ((State.anyFlowing_iff _).mpr (flows.mpr any))]
    rfl
  · rw [if_neg any, if_neg fun c => any (flows.mp ((State.anyFlowing_iff _).mp c))]

theorem State.deadmanButton_press {s : State} (released : s.bay.deadman.pressed = false) :
    s.deadmanButton true = (s.modifyDeadman (fun d => { d with pressed := true })).pressDeadman :=
  if_pos (by rw [released]; rfl)

end Sys2Proof.Machine
end

section
namespace Sys2Proof.Proofs
open Sys2Proof Sys2Proof.Machine

/-- Settles O43: the warning, the void expiry, the expiry, the press and the release, each as one state. -/
theorem deadman : Obligations.Deadman := by
  unfold Obligations.Deadman
  refine fun s => ⟨fun ms due running fresh => ?_, fun due void => ?_, fun ms due running warned stands => ?_,
    fun released => ?_, rfl⟩
  · exact congrArg Host.Outcome.next ((State.expiry_own due _).trans (State.warnDeadman_due running fresh))
  · exact congrArg Host.Outcome.next ((State.expiry_own due _).trans (State.expireDeadman_void void))
  · exact ⟨s.expireDeadman, congrArg Host.Outcome.next (State.expiry_own due _), State.expireDeadman_eq running warned,
      State.expireDeadman_valvesOff running warned stands⟩
  · exact congrArg Host.Outcome.next ((State.deadmanButton_press released).trans (State.pressDeadman_eq _))

end Sys2Proof.Proofs
end

section
/-! ### The cold start's notes (R174) -/

namespace Sys2Proof.Machine

/-- A line of an image as its note records it: a running line was cut off, ABORTED (R174). -/
def Line.cutOff (l : Line) : Line := if l.isRunning = true then { l with result := some .aborted } else l

/-- An image as its note records it (R174). -/
def Order.cutOff (o : Order) : Order := { o with lines := o.lines.map Line.cutOff }

theorem Line.cutOff_isRunning (l : Line) : l.cutOff.isRunning = false := by
  unfold Line.cutOff
  split
  · simp [Line.isRunning]
  · next h => simpa using h

theorem Line.cutOff_isWaiting (l : Line) : l.cutOff.isWaiting = l.isWaiting := by
  unfold Line.cutOff
  split <;> rfl

theorem Line.recovered_cutOff (l : Line) : l.cutOff.recovered = l.recovered := by
  unfold Line.cutOff
  split
  · next running =>
    obtain ⟨active, none⟩ : l.isActive = true ∧ l.result = none := by simpa [Line.isRunning] using running
    cases state : l.state <;> simp_all [Line.recovered, Line.isActive]
  · rfl

/-- The line record of a line that is not running, recovered, holds the line. -/
theorem noteLine_recovered_records {l : Line} (h : l.isRunning = false) : (noteLine l.recovered).records l := by
  have result : (noteLine l.recovered).result = if l.isWaiting then some .notLoaded else l.result := by
    cases state : l.state with
    | waiting => simp [noteLine, Line.recovered, Line.isWaiting, state]
    | ended => simp [noteLine, Line.recovered, Line.isWaiting, state]
    | active a =>
      obtain ⟨r, hr⟩ : ∃ r, l.result = some r := by
        simpa [Line.isRunning, Line.isActive, state, Option.isSome_iff_exists] using h
      simp [noteLine, Line.recovered, Line.isWaiting, state, hr]
  cases state : l.state <;> simp only [Line.recovered, state] at result ⊢ <;>
    exact ⟨rfl, rfl, rfl, rfl, result, rfl, rfl, rfl, l.record.averages_average, rfl, rfl, rfl, rfl⟩

/-- The note a cold start composes from an image records the image cut off. -/
theorem noteOf_recovered_records (o : Order) (seq : Nat) (clock : Clock) :
    (noteOf { o with lines := o.lines.map Line.recovered } .interrupted seq clock).records o.cutOff .interrupted clock := by
  refine noteOf_records (o := o.cutOff) (x := { o with lines := o.lines.map Line.recovered }) (g := Line.recovered)
    rfl rfl rfl rfl rfl ?_ (fun l hl => ?_) _ _ _
  · simp [Order.cutOff, Line.recovered_cutOff]
  · obtain ⟨x, -, rfl⟩ := List.mem_map.mp hl
    exact noteLine_recovered_records x.cutOff_isRunning

theorem State.recover_delivered {s : State} {o : Order} (h : o.delivered = true) :
    s.recover o = s.compose { o with lines := o.lines.map Line.recovered } .interrupted := if_pos h

theorem State.recover_undelivered {s : State} {o : Order} (h : o.delivered = false) : s.recover o = s :=
  if_neg (by simp [h])

/-- The images that delivered product become notes in their order, where there is room for all (R174). -/
theorem State.foldl_recover (images : List Order) : ∀ {s : State}, s.journal.listed →
    s.storedCount + images.length ≤ 48 →
    ∃ j, s.journal.gainsAll j
        ((images.filter Order.delivered).map (fun o n => n.records o.cutOff .interrupted s.clock)) ∧
      images.foldl State.recover s = { s with journal := j } := by
  induction images with
  | nil => exact fun _ _ => ⟨_, rfl, rfl⟩
  | cons o rest ih =>
    intro s listed room
    rw [List.length_cons] at room
    cases delivered : o.delivered with
    | false =>
      rw [List.foldl_cons, State.recover_undelivered delivered, List.filter_cons_of_neg (by simp [delivered])]
      exact ih listed (by omega)
    | true =>
      obtain ⟨k, hk⟩ := Journal.nextSlot_exists listed (by unfold State.storedCount at room; omega)
      have gains : s.journal.gainsAt (s.recover o).journal k (fun n => n.records o.cutOff .interrupted s.clock) := by
        rw [State.recover_delivered delivered]
        exact State.compose_gainsAt hk _ _ (noteOf_recovered_records o _ _)
      have frame : s.recover o = { s with journal := (s.recover o).journal } := by
        rw [State.recover_delivered delivered]
        exact s.compose_frame _ _
      obtain ⟨relisted, count⟩ := Journal.gainsAt_listed listed hk gains
      obtain ⟨j, all, folded⟩ := @ih { s with journal := (s.recover o).journal } relisted (by
        unfold State.storedCount at room ⊢
        dsimp only
        omega)
      rw [List.foldl_cons, List.filter_cons_of_pos delivered, frame]
      exact ⟨j, ⟨k, _, hk, gains, all⟩, folded⟩

/-! ### The cold start (R174, R181) -/

/-- The notices of a recovery, where its notes are in the journal. -/
theorem State.announceRecovery_eq (s : State) (images : List Order) :
    s.announceRecovery images = (s.raiseIf (images.any Order.delivered) .noteStored 0).raiseIf
      (decide (images ≠ [] ∧ 44 ≤ s.storedCount)) .journalNearFull 0 := by
  have near : (!images.isEmpty && decide (44 ≤ s.storedCount)) = decide (images ≠ [] ∧ 44 ≤ s.storedCount) := by
    cases images <;> simp
  unfold State.announceRecovery
  rw [near]
  rfl

theorem State.coldStart_empty {s : State} (h : s.journal.saveArea = []) : s.coldStart = s.coldBlocks := by
  rw [State.coldStart, h]
  rfl

/-- An image that delivered nothing is discarded (R174). -/
theorem State.coldStart_undelivered {s : State} {o : Order} (h : s.journal.saveArea = [o]) (none : o.delivered = false)
    (room : s.storedCount ≤ 43) : s.coldStart = s.coldBlocks := by
  have few : ¬ 44 ≤ s.coldBlocks.storedCount := Nat.not_le.mpr (Nat.lt_succ_of_le room)
  rw [State.coldStart, h, List.foldl_cons, List.foldl_nil, State.recover_undelivered none, State.announceRecovery_eq]
  simp [none, few]

/-- Every image meets its fate, in the order of the images (R174). -/
theorem State.coldStart_recovers {s : State} (listed : s.journal.listed)
    (room : s.storedCount + s.journal.saveArea.length ≤ 48) :
    ∃ j, Journal.gainsAll { s.journal with saveArea := [] } j
        ((s.journal.saveArea.filter Order.delivered).map (fun o n => n.records o.cutOff .interrupted Clock.cold)) ∧
      s.coldStart = (({ s.coldBlocks with journal := j } : State).raiseIf (s.journal.saveArea.any Order.delivered)
        .noteStored 0).raiseIf (decide (s.journal.saveArea ≠ [] ∧ 44 ≤ j.slots.count JournalSlot.isStored))
          .journalNearFull 0 := by
  obtain ⟨j, all, folded⟩ := State.foldl_recover s.journal.saveArea (s := s.coldBlocks) listed room
  refine ⟨j, all, ?_⟩
  rw [State.coldStart, folded, State.announceRecovery_eq]
  rfl

/-- One image that delivered product becomes one note (R164, R165, R174). -/
theorem State.coldStart_delivered {s : State} {o : Order} {k : Fin 48} (h : s.journal.saveArea = [o])
    (delivered : o.delivered = true) (hk : s.journal.nextSlot k) (room : s.storedCount ≤ 42) :
    s.coldStart = ({ s.coldBlocks with journal := s.coldBlocks.journal.store k (noteOf
      { o with lines := o.lines.map Line.recovered } .interrupted s.coldBlocks.journal.nextSequence Clock.cold) } :
        State).raise .noteStored 0 := by
  have slot : s.coldBlocks.journal.nextSlot k := hk
  generalize hn : noteOf { o with lines := o.lines.map Line.recovered } .interrupted s.coldBlocks.journal.nextSequence
    Clock.cold = n
  have composed : s.coldBlocks.recover o = { s.coldBlocks with journal := s.coldBlocks.journal.store k n } := by
    rw [State.recover_delivered delivered, State.compose_eq slot, ← hn]
    rfl
  have few : ¬ 44 ≤ ({ s.coldBlocks with journal := s.coldBlocks.journal.store k n } : State).storedCount := by
    have count := Table.count_set s.journal.slots JournalSlot.isStored k (.stored n)
    have stored : (JournalSlot.stored n).isStored = true := rfl
    rw [stored, if_pos rfl] at count
    change ¬ 44 ≤ (s.journal.slots.set k (.stored n)).count JournalSlot.isStored
    unfold State.storedCount at room
    split at count <;> omega
  rw [State.coldStart, h, List.foldl_cons, List.foldl_nil, composed, State.announceRecovery_eq]
  simp [delivered, few]

theorem Order.delivered_of {o : Order} {l : Line} (hl : l ∈ o.lines) (some : 0 < l.record.gv) : o.delivered = true :=
  List.any_eq_true.mpr ⟨l, hl, decide_eq_true some⟩

theorem Order.undelivered {o : Order} (none : ∀ l ∈ o.lines, l.record.gv = 0) : o.delivered = false :=
  List.any_eq_false.mpr fun l hl => by simp [none l hl]

/-- What the note of an image says of a line. -/
theorem NoteLine.records_cutOff {x : Line} {y : NoteLine} (h : y.records x.cutOff) :
    y.compartment = x.compartment ∧ y.gvLitres = (x.record.gv + 500) / 1000 ∧ y.flags = x.flags ∧
      y.result = if x.isWaiting = true then some .notLoaded else if x.isRunning = true then some .aborted
        else x.result := by
  obtain ⟨compartment, -, -, -, result, flags, gv, -⟩ := h
  rw [x.cutOff_isWaiting] at result
  unfold Line.cutOff at compartment result flags gv
  by_cases running : x.isRunning = true
  · rw [if_pos running] at compartment result flags gv
    exact ⟨compartment, gv, flags, by rw [if_pos running]; exact result⟩
  · rw [if_neg running] at compartment result flags gv
    exact ⟨compartment, gv, flags, by rw [if_neg running]; exact result⟩

end Sys2Proof.Machine
end

section
namespace Sys2Proof.Proofs
open Sys2Proof Sys2Proof.Machine

/-- Settles O52: the cold blocks, then the images one after another, each composed or discarded. -/
theorem coldStart : Obligations.ColdStart := by
  unfold Obligations.ColdStart
  intro s
  refine ⟨fun unsaved => ?_, fun saved => ?_, fun none => ?_, fun o one none room => ?_, fun kept room => ?_,
    fun o k l one hl some slot room => ?_⟩
  · exact if_neg (by simp [unsaved])
  · exact if_pos saved
  · exact congrArg Host.Outcome.next (State.coldStart_empty none)
  · exact congrArg Host.Outcome.next (State.coldStart_undelivered one (Order.undelivered none) room)
  · obtain ⟨-, listed, -⟩ := kept
    obtain ⟨j, gains, recovered⟩ := State.coldStart_recovers listed room
    exact ⟨j, gains, congrArg Host.Outcome.next recovered⟩
  · obtain ⟨order, -, -, -, -, time, cause, unset, -, length, lines⟩ :=
      noteOf_recovered_records o s.coldBlocks.journal.nextSequence Clock.cold
    refine ⟨_, congrArg Host.Outcome.next (State.coldStart_delivered one (Order.delivered_of hl some) slot room),
      s.coldBlocks.journal.lacks_nextSequence, order, cause, unset, time, ?_, fun j x y hx hy => ?_⟩
    · exact length.trans (List.length_map _)
    · exact NoteLine.records_cutOff (lines j x.cutOff y (by simp [Order.cutOff, hx]) hy)

end Sys2Proof.Proofs
end

section
/-! ### The emergency stop and the dosing unit (R114, R141) -/

namespace Sys2Proof.Machine

/-- The record that the stop leaves: nothing owed, no shot in flight, and FINISHING where it was ACCRUING (R141). -/
def DosingRecord.halted (r : DosingRecord) : DosingRecord :=
  { r with
    owed := 0
    shot := none
    accumulator := 0
    phase := if r.phase = .accruing then .finishing else r.phase }

/-- The arm whose record the stop has halted. -/
def Arm.halted (x : Arm) : Arm :=
  { x with
    dosing := x.dosing.map DosingRecord.halted
    reducedFlow := if ∃ r, x.dosing = some r ∧ r.phase = .accruing then false else x.reducedFlow }

theorem DosingRecord.halted_phase (r : DosingRecord) : r.halted.phase ≠ .accruing := by
  unfold DosingRecord.halted
  dsimp only
  split
  · nofun
  · next h => exact h

/-- No record accrues on an arm that the stop has halted. -/
theorem Arm.halted_dosing {x : Arm} {r : DosingRecord} (h : x.halted.dosing = some r) : r.phase ≠ .accruing := by
  obtain ⟨q, -, rfl⟩ := Option.map_eq_some_iff.mp h
  exact q.halted_phase

theorem Arm.halted_undosed {x : Arm} (h : x.dosing = none) : x.halted = x := by
  have still : ¬ ∃ r, x.dosing = some r ∧ r.phase = .accruing := fun ⟨r, hr, _⟩ => nomatch h.symm.trans hr
  rw [Arm.halted, if_neg still, h, Option.map_none]
  cases x
  cases h
  rfl

/-- A record past ACCRUING has nothing in its accumulator, so that abandoning its shots is all the stop does to it. -/
theorem Arm.halted_past {x : Arm} {r : DosingRecord} (h : x.dosing = some r) (past : r.phase ≠ .accruing)
    (bounded : r.bounded) : x.abandoned = x.halted := by
  have still : ¬ ∃ q, x.dosing = some q ∧ q.phase = .accruing := by
    rintro ⟨q, hq, accrues⟩
    cases h.symm.trans hq
    exact past accrues
  obtain ⟨-, -, empty⟩ := bounded
  rw [Arm.halted, if_neg still, Arm.abandoned, h, Option.map_some, Option.map_some, DosingRecord.halted, if_neg past,
    ← empty past]

/-- An ACCRUING record enters FINISHING once its shots are abandoned. -/
theorem Arm.halted_accruing {x : Arm} {r : DosingRecord} (h : x.dosing = some r) (accrues : r.phase = .accruing) :
    { x.abandoned with
      dosing := some { r with owed := 0, shot := none, phase := .finishing, accumulator := 0 }, reducedFlow := false } =
        x.halted := by
  rw [Arm.halted, if_pos ⟨r, h, accrues⟩, h, Option.map_some, DosingRecord.halted, if_pos accrues]
  rfl

/-- What the stop does to the dosing of one arm, as one state (R141). -/
theorem State.stopDosing_eq {s : State} {a : Fin 6} (bounded : ∀ r, (s.arm a).dosing = some r → r.bounded) :
    s.stopDosing a = (s.idleEngaged a).modifyArm a Arm.halted := by
  have arm : ((s.idleEngaged a).modifyArm a Arm.abandoned).arm a = (s.arm a).abandoned := by
    rw [State.arm_modifyArm, if_pos rfl]
    rfl
  unfold State.stopDosing
  dsimp only
  rw [State.abandonDosing_eq, arm]
  cases dosing : (s.arm a).dosing with
  | none =>
    rw [Arm.abandoned_self dosing, dosing]
    exact State.modifyArm_congr _ a ((Arm.abandoned_self dosing).trans (Arm.halted_undosed dosing).symm)
  | some r =>
    rw [show (s.arm a).abandoned.dosing = some { r with owed := 0, shot := none } by rw [Arm.abandoned, dosing]; rfl]
    dsimp only
    by_cases accrues : r.phase = .accruing
    · rw [if_pos accrues, State.modifyArm_modifyArm]
      exact State.modifyArm_congr _ a (Arm.halted_accruing dosing accrues)
    · rw [if_neg accrues]
      exact State.modifyArm_congr _ a (Arm.halted_past dosing accrues (bounded r dosing))

/-- The dosing of these arms has been stopped, seen from the state before. -/
structure State.haltedTo (s t : State) (done : List (Fin 6)) : Prop where
  frame : t = { s with arms := t.arms, injectors := t.injectors }
  arms : ∀ a, t.arm a = if a ∈ done then (s.arm a).halted else s.arm a
  idle : ∀ i, (∃ a ∈ done, (s.arm a).engaged = some i) → t.injector i = (s.injector i).idle
  same : ∀ i, (¬ ∃ a ∈ done, (s.arm a).engaged = some i) → t.injector i = s.injector i

theorem State.haltedTo_nil (s : State) : s.haltedTo s [] :=
  ⟨rfl, fun _ => (if_neg List.not_mem_nil).symm, fun _ ⟨_, h, _⟩ => absurd h List.not_mem_nil, fun _ _ => rfl⟩

/-- The injectors where the one an arm engages has been made IDLE. -/
theorem State.injector_idleEngaged (s : State) (a : Fin 6) (i : Fin 8) :
    (s.idleEngaged a).injector i = if (s.arm a).engaged = some i then (s.injector i).idle else s.injector i := by
  unfold State.idleEngaged State.injector
  dsimp only
  cases engaged : (s.arm a).engaged with
  | none => rfl
  | some j =>
    dsimp only
    rw [Table.get_modify]
    by_cases same : i = j
    · rw [if_pos same, if_pos (congrArg some same.symm)]
      rfl
    · rw [if_neg same, if_neg fun c => same (Option.some.inj c).symm]

/-- One arm more. -/
theorem State.haltedTo_step {s t : State} {done : List (Fin 6)} {a : Fin 6} (kept : s.dosingKept) (h : s.haltedTo t done)
    (fresh : a ∉ done) : s.haltedTo (t.stopDosing a) (done ++ [a]) := by
  have arm : t.arm a = s.arm a := (h.arms a).trans (if_neg fresh)
  rw [State.stopDosing_eq fun r hr => (kept a r (arm ▸ hr)).1]
  have injector : ∀ i, ((t.idleEngaged a).modifyArm a Arm.halted).injector i =
      if (s.arm a).engaged = some i then (t.injector i).idle else t.injector i := fun i => by
    rw [← arm]
    exact t.injector_idleEngaged a i
  refine ⟨?_, fun b => ?_, fun i ⟨b, hb, engaged⟩ => ?_, fun i none => ?_⟩
  · exact congrArg (fun w : State => { w with
      arms := t.arms.modify a Arm.halted, injectors := (t.idleEngaged a).injectors }) h.frame
  · rw [State.arm_modifyArm]
    by_cases same : b = a
    · rw [if_pos same, same, if_pos (List.mem_append_right _ (.head _))]
      exact congrArg Arm.halted arm
    · rw [if_neg same]
      refine (h.arms b).trans ?_
      simp [same]
  · rw [injector]
    by_cases before : ∃ b ∈ done, (s.arm b).engaged = some i
    · rw [h.idle i before]
      split <;> rfl
    · have own : b = a := (List.mem_append.mp hb).elim (fun c => absurd ⟨b, c, engaged⟩ before) List.mem_singleton.mp
      rw [if_pos (own ▸ engaged), h.same i before]
  · rw [injector, if_neg fun c => none ⟨a, List.mem_append_right _ (.head _), c⟩]
    exact h.same i fun ⟨b, hb, c⟩ => none ⟨b, List.mem_append_left _ hb, c⟩

/-- The dosing of every arm has been stopped, and no solenoid is on (R114, R124, R141). -/
theorem State.stopDosing_all {s : State} (kept : s.dosingKept) (roles : s.rolesKept) :
    s.forArms (fun a t => t.stopDosing a) =
      { s with arms := s.arms.map Arm.halted, injectors := s.injectors.map Injector.idle } := by
  have all : s.haltedTo ((List.finRange 6).foldl State.stopDosing s) (List.finRange 6) :=
    foldl_finRange (P := fun done t => s.haltedTo t done) s.haltedTo_nil fun done t a h fresh =>
      State.haltedTo_step kept h fresh
  have whole : s.forArms (fun a t => t.stopDosing a) = (List.finRange 6).foldl State.stopDosing s := by
    rw [← armList_eq_finRange]
    rfl
  rw [whole]
  generalize (List.finRange 6).foldl State.stopDosing s = t at all ⊢
  have arms : t.arms = s.arms.map Arm.halted := Table.ext_get fun a => by
    rw [Table.get_map]
    exact (all.arms a).trans (if_pos (List.mem_finRange a))
  have injectors : t.injectors = s.injectors.map Injector.idle := Table.ext_get fun i => by
    rw [Table.get_map]
    by_cases engaged : ∃ a ∈ List.finRange 6, (s.arm a).engaged = some i
    · exact all.idle i engaged
    · refine (all.same i engaged).trans ?_
      obtain ⟨-, -, -, solenoids⟩ := roles
      have closed : (s.injector i).window = none := by
        by_contra shot
        obtain ⟨a, -, -, ha, -⟩ := solenoids i (Option.isSome_iff_ne_none.mpr shot)
        exact engaged ⟨a, List.mem_finRange a, ha⟩
      have same : s.injector i = (s.injector i).idle := by
        rw [Injector.idle, ← closed]
      exact same
  rw [← arms, ← injectors]
  exact all.frame

end Sys2Proof.Machine
end

section
/-! ### The emergency stop and the running lines (R89, R114) -/

namespace Sys2Proof.Machine

/-- A line that ends ABORTED with flag ESTOP (R114). -/
def Line.stopped (l : Line) : Line := { l with result := some .aborted, flags := { l.flags with estop := true } }

/-- A line as the stop of these arms leaves it. -/
def Line.stoppedOn (arms : List (Fin 6)) (l : Line) : Line :=
  if l.isRunning = true ∧ ∃ a ∈ arms, l.state = .active a then l.stopped else l

/-- An order as the stop of these arms leaves it. -/
def Order.stoppedOn (arms : List (Fin 6)) (o : Order) : Order := { o with lines := o.lines.map (Line.stoppedOn arms) }

theorem Line.stopped_isRunning (l : Line) : l.stopped.isRunning = false := Bool.and_false _

theorem Line.stoppedOn_nil (l : Line) : l.stoppedOn [] = l := if_neg fun ⟨_, _, h, _⟩ => by cases h

theorem Line.stoppedOn_own {l : Line} {a : Fin 6} (running : l.isRunning = true) (active : l.state = .active a) :
    l.stoppedOn [a] = l.stopped := if_pos ⟨running, a, .head _, active⟩

theorem Line.stoppedOn_fresh {l : Line} {a : Fin 6} {arms : List (Fin 6)} (active : l.state = .active a) (h : a ∉ arms) :
    l.stoppedOn arms = l :=
  if_neg fun ⟨_, b, hb, active'⟩ => h (by cases active.symm.trans active'; exact hb)

/-- The stop of more arms acts on the line that the stop of the first ones left. -/
theorem Line.stoppedOn_append (arms more : List (Fin 6)) (l : Line) :
    (l.stoppedOn arms).stoppedOn more = l.stoppedOn (arms ++ more) := by
  by_cases first : l.isRunning = true ∧ ∃ a ∈ arms, l.state = .active a
  · obtain ⟨running, a, ha, active⟩ := first
    have ended : l.stopped.stoppedOn more = l.stopped := if_neg fun c => by simp [l.stopped_isRunning] at c
    have both : l.stoppedOn (arms ++ more) = l.stopped := if_pos ⟨running, a, List.mem_append_left _ ha, active⟩
    rw [show l.stoppedOn arms = l.stopped from if_pos ⟨running, a, ha, active⟩, ended, both]
  · rw [show l.stoppedOn arms = l from if_neg first]
    unfold Line.stoppedOn
    refine if_congr ⟨fun ⟨running, a, ha, active⟩ => ⟨running, a, List.mem_append_right _ ha, active⟩, ?_⟩ rfl rfl
    rintro ⟨running, a, ha, active⟩
    exact ⟨running, a, (List.mem_append.mp ha).resolve_left fun c => first ⟨running, a, c, active⟩, active⟩

/-- With every arm stopped, every running line has ended. -/
theorem Line.stoppedOn_all (l : Line) : l.stoppedOn (List.finRange 6) = if l.isRunning = true then l.stopped else l := by
  refine if_congr ⟨fun c => c.1, fun running => ⟨running, ?_⟩⟩ rfl rfl
  cases state : l.state with
  | active a => exact ⟨a, List.mem_finRange a, rfl⟩
  | waiting => simp [Line.isRunning, Line.isActive, state] at running
  | ended => simp [Line.isRunning, Line.isActive, state] at running

theorem Order.stoppedOn_append (arms more : List (Fin 6)) (o : Order) :
    (o.stoppedOn arms).stoppedOn more = o.stoppedOn (arms ++ more) := by
  simp only [Order.stoppedOn, List.map_map]
  exact congrArg (fun f => { o with lines := o.lines.map f }) (funext fun l => Line.stoppedOn_append arms more l)

theorem Order.stoppedOn_nil (o : Order) : o.stoppedOn [] = o := by
  rw [Order.stoppedOn, show Line.stoppedOn [] = id from funext Line.stoppedOn_nil, List.map_id]

/-! ### One arm -/

section OneArm

variable {s : State} {a : Fin 6} (kept : s.linesKept) (saved : s.bay.saved = false)

include kept saved in
/-- A running line that is ACTIVE on an arm is the running line the arm carries. -/
theorem State.running_of_line {k : Fin 24} {o : Order} {j : Nat} {l : Line} (ho : s.order k = some o)
    (hl : o.line? j = some l) (running : l.isRunning = true) (active : l.state = .active a) :
    (s.arm a).active = some ⟨k, j⟩ ∧ s.running a = true := by
  have carried := (((kept.2 saved).2 k o j l ho hl).2 a active).1
  refine ⟨carried, ?_⟩
  rw [State.running, State.activeLine_of carried, State.lineAt_of (ref := ⟨k, j⟩) ho hl]
  exact running

/-- An arm whose line runs carries it. -/
theorem State.running_line (running : s.running a = true) :
    ∃ ref l, (s.arm a).active = some ref ∧ s.lineAt ref = some l ∧ l.isRunning = true := by
  unfold State.running at running
  split at running
  · next l hl =>
    obtain ⟨ref, active, line⟩ := Option.bind_eq_some_iff.mp hl
    exact ⟨ref, l, active, line, running⟩
  · cases running

include kept saved in
/-- Where an arm carries no running line, its stop bears on no order. -/
theorem State.stoppedOn_still (still : ¬ s.running a = true) :
    s.orders.map (Option.map (Order.stoppedOn [a])) = s.orders := by
  refine Table.ext_get fun k => ?_
  rw [Table.get_map]
  cases ho : s.orders.get k with
  | none => rfl
  | some o =>
    have lines : o.lines.map (Line.stoppedOn [a]) = o.lines := by
      refine (List.map_congr_left fun l hl => if_neg ?_).trans (List.map_id _)
      rintro ⟨running, b, hb, active⟩
      cases List.mem_singleton.mp hb
      obtain ⟨j, hj⟩ := List.mem_iff_getElem?.mp hl
      exact still (State.running_of_line kept saved (j := j + 1) ho hj running active).2
    rw [Option.map_some, Order.stoppedOn, lines]

include kept saved in
/-- Where an arm carries a running line, its stop bears on that line alone. -/
theorem State.stoppedOn_line {ref : LineRef} {l : Line} (carried : (s.arm a).active = some ref)
    (line : s.lineAt ref = some l) (running : l.isRunning = true) (active : l.state = .active a) :
    (s.modifyLine ref Line.stopped).orders = s.orders.map (Option.map (Order.stoppedOn [a])) := by
  obtain ⟨o, ho, hl⟩ := (s.lineAt_iff ref l).mp line
  have own : ∀ k p j m, s.order k = some p → p.line? j = some m → m.isRunning = true → m.state = .active a → ref = ⟨k, j⟩ :=
    fun k p j m hp hm runs on =>
      Option.some.inj (carried.symm.trans (State.running_of_line kept saved hp hm runs on).1)
  have other : ∀ {m : Line}, (m.isRunning = true → m.state ≠ .active a) → m.stoppedOn [a] = m := fun h =>
    if_neg fun ⟨runs, b, hb, on⟩ => h runs (by cases List.mem_singleton.mp hb; exact on)
  rw [State.modifyLine_set ho hl]
  refine Table.ext_get fun k => ?_
  rw [Table.get_set, Table.get_map]
  by_cases here : k = ref.slot
  · have ho' : s.orders.get ref.slot = some o := ho
    rw [if_pos here, here, ho', Option.map_some]
    refine congrArg (fun lines => some { o with lines := lines }) (List.ext_getElem? fun i => ?_)
    have found := Order.line?_some hl
    rw [List.getElem?_set, List.getElem?_map]
    by_cases hi : ref.line - 1 = i
    · subst hi
      rw [if_pos rfl, if_pos (List.getElem?_eq_some_iff.mp found).1, found, Option.map_some,
        Line.stoppedOn_own running active]
    · rw [if_neg hi]
      cases hm : o.lines[i]? with
      | none => rfl
      | some m =>
        refine congrArg some (other fun runs on => hi ?_).symm
        rw [own ref.slot o (i + 1) m ho hm runs on]
        rfl
  · rw [if_neg here]
    cases hp : s.orders.get k with
    | none => rfl
    | some p =>
      have lines : p.lines.map (Line.stoppedOn [a]) = p.lines := by
        refine (List.map_congr_left fun m hm => other fun runs on => here ?_).trans (List.map_id _)
        obtain ⟨i, hi⟩ := List.mem_iff_getElem?.mp hm
        rw [own k p (i + 1) m hp hi runs on]
      rw [Option.map_some, Order.stoppedOn, lines]

include kept saved in
/-- An arm that flows carries a running line. -/
theorem State.still_of_ended (ended : ¬ s.running a = true) : (s.arm a).state.flowing = false := by
  by_contra flows
  rw [Bool.not_eq_false] at flows
  have carries : (s.arm a).active.isSome = true :=
    (kept.1 a).1.mpr ⟨fun c => by simp [c, ArmState.flowing] at flows, fun c => by simp [c, ArmState.flowing] at flows⟩
  obtain ⟨ref, active⟩ := Option.isSome_iff_exists.mp carries
  obtain ⟨l, line, state, ending⟩ := (kept.2 saved).1 a ref active
  refine ended ?_
  rw [State.running, State.activeLine_of active, line]
  have unended : l.isEnding = false := by
    by_contra c
    obtain ⟨closing, -⟩ := ending.mp (Bool.not_eq_false _ ▸ c)
    simp [closing, ArmState.flowing] at flows
  cases result : l.result with
  | none => simp [Line.isRunning, Line.isActive, state, result]
  | some r => simp [Line.isEnding, Line.isActive, state, result] at unended

/-- With no record accruing, the arm closes for the line end and the dosing unit does nothing. -/
theorem State.closesArm_halted (halted : ∀ r, (s.arm a).dosing = some r → r.phase ≠ .accruing)
    (idle : (s.arm a).state ≠ .idle) (locked : (s.arm a).state ≠ .locked) :
    s.closesArm a = (s.modifyArm a Arm.closedForLineEnd).settleDeadman := by
  have arm : (s.modifyArm a Arm.stopTimers).arm a = (s.arm a).stopTimers := by rw [State.arm_modifyArm, if_pos rfl]
  have past : ∀ r, ((s.modifyArm a Arm.stopTimers).arm a).dosing = some r → r.phase ≠ .accruing := fun r hr => by
    rw [arm] at hr
    exact halted r hr
  rw [State.closesArm, State.finishDosing_self past, State.modifyArm_modifyArm]
  exact congrArg State.settleDeadman (State.modifyArm_congr s a (Arm.closeForLineEnd_closed idle locked))

theorem State.stopLine_still (still : ¬ s.running a = true) : s.stopLine a = s := if_neg still

include kept in
/-- The stop of an arm whose line runs. -/
theorem State.stopLine_running {ref : LineRef} (carried : (s.arm a).active = some ref) (running : s.running a = true)
    (halted : ∀ r, (s.arm a).dosing = some r → r.phase ≠ .accruing) :
    s.stopLine a = ((s.modifyLine ref Line.stopped).modifyArm a Arm.closedForLineEnd).settleDeadman := by
  obtain ⟨idle, locked⟩ := (kept.1 a).closable carried
  have recorded : s.modifyActiveLine a (fun l =>
      { l with result := some .aborted, flags := { l.flags with estop := true } }) = s.modifyLine ref Line.stopped :=
    State.modifyActiveLine_of carried _
  rw [State.stopLine, if_pos running, State.closeForLineEnd_eq, recorded]
  exact State.closesArm_halted (s := s.modifyLine ref Line.stopped) halted idle locked

end OneArm

/-! ### Every arm in turn -/

/-- These arms have been stopped, seen from the state before. -/
structure State.stoppedTo (s t : State) (done : List (Fin 6)) : Prop where
  frame : t = { s with orders := s.orders.map (Option.map (Order.stoppedOn done)), arms := t.arms, bay := t.bay }
  arms : ∀ a, t.arm a = if a ∈ done ∧ s.running a = true then (s.arm a).closedForLineEnd else s.arm a
  follows : (∃ a ∈ done, s.running a = true) → s.bayFollows t
  still : (¬ ∃ a ∈ done, s.running a = true) → t.bay = s.bay
  kept : t.linesKept
  saved : t.bay.saved = false

theorem State.stoppedTo_nil {s : State} (kept : s.linesKept) (saved : s.bay.saved = false) : s.stoppedTo s [] := by
  have orders : s.orders.map (Option.map (Order.stoppedOn [])) = s.orders := Table.ext_get fun k => by
    rw [Table.get_map, show Order.stoppedOn [] = id from funext Order.stoppedOn_nil, Option.map_id, id]
  refine ⟨?_, fun a => (if_neg fun c => List.not_mem_nil c.1).symm, fun ⟨_, h, _⟩ => absurd h List.not_mem_nil, fun _ => rfl,
    kept, saved⟩
  rw [orders]

section Step

variable {s t : State} {done : List (Fin 6)} {a : Fin 6} (h : s.stoppedTo t done) (fresh : a ∉ done)

include h fresh in
theorem State.stoppedTo_fresh : t.arm a = s.arm a := (h.arms a).trans (if_neg fun c => fresh c.1)

include h in
/-- The orders when one arm more is stopped. -/
theorem State.stoppedTo_orders : t.orders.map (Option.map (Order.stoppedOn [a])) =
    s.orders.map (Option.map (Order.stoppedOn (done ++ [a]))) := by
  rw [h.frame]
  refine Table.ext_get fun k => ?_
  rw [Table.get_map, Table.get_map, Table.get_map, Option.map_map]
  exact congrArg (fun f => Option.map f (s.orders.get k)) (funext fun o => Order.stoppedOn_append done [a] o)

include h fresh in
/-- An arm not yet reached carries the line it did. -/
theorem State.stoppedTo_running (kept : s.linesKept) (saved : s.bay.saved = false) : t.running a = s.running a := by
  have arm := State.stoppedTo_fresh h fresh
  have lines : t.activeLine a = s.activeLine a := by
    unfold State.activeLine
    rw [arm]
    refine Option.bind_congr fun ref active => ?_
    obtain ⟨l, line, state, -⟩ := (kept.2 saved).1 a ref active
    obtain ⟨o, ho, hl⟩ := (s.lineAt_iff ref l).mp line
    have order : t.order ref.slot = some (o.stoppedOn done) := by
      have ho : s.orders.get ref.slot = some o := ho
      rw [h.frame]
      refine (Table.get_map _ _ _).trans ?_
      rw [ho, Option.map_some]
    rw [line]
    refine State.lineAt_of order ?_
    rw [Order.stoppedOn, Order.line?_map, hl, Option.map_some, Line.stoppedOn_fresh state fresh]
  rw [State.running, State.running, lines]

include h in
/-- An arm without a running line is left as it is. -/
theorem State.stoppedTo_idle (idle : ¬ t.running a = true) (before : ¬ s.running a = true) :
    s.stoppedTo (t.stopLine a) (done ++ [a]) := by
  have among : ∀ b, s.running b = true → b ∈ done ++ [a] → b ∈ done := fun b running hb =>
    (List.mem_append.mp hb).resolve_right fun e => before (List.mem_singleton.mp e ▸ running)
  have orders : s.orders.map (Option.map (Order.stoppedOn (done ++ [a]))) =
      s.orders.map (Option.map (Order.stoppedOn done)) :=
    (State.stoppedTo_orders h).symm.trans ((State.stoppedOn_still h.kept h.saved idle).trans (congrArg State.orders h.frame))
  rw [State.stopLine_still idle]
  refine ⟨by rw [orders]; exact h.frame, fun b => (h.arms b).trans (if_congr ?_ rfl rfl),
    fun ⟨b, hb, running⟩ => h.follows ⟨b, among b running hb, running⟩,
    fun none => h.still fun ⟨b, hb, running⟩ => none ⟨b, List.mem_append_left _ hb, running⟩, h.kept, h.saved⟩
  exact ⟨fun c => ⟨List.mem_append_left _ c.1, c.2⟩, fun c => ⟨among b c.2 c.1, c.2⟩⟩

include h fresh in
/-- An arm with a running line closes for its end. -/
theorem State.stoppedTo_closes (running : t.running a = true) (before : s.running a = true)
    (halted : ∀ r, (s.arm a).dosing = some r → r.phase ≠ .accruing) : s.stoppedTo (t.stopLine a) (done ++ [a]) := by
  have arm := State.stoppedTo_fresh h fresh
  obtain ⟨ref, l, carried, line, runs⟩ := State.running_line running
  obtain ⟨m, line', active, -⟩ := (h.kept.2 h.saved).1 a ref carried
  cases line.symm.trans line'
  have after := (t.keeps_stopLine a).lines h.kept
  have orders := State.stoppedOn_line h.kept h.saved carried line runs active
  rw [State.stoppedTo_orders h] at orders
  rw [State.stopLine_running h.kept carried running (arm ▸ halted)] at after ⊢
  obtain ⟨u, hu⟩ : ∃ u, u = (t.modifyLine ref Line.stopped).modifyArm a Arm.closedForLineEnd := ⟨_, rfl⟩
  rw [← hu] at after ⊢
  have uarm : ∀ b, u.arm b = if b = a then (t.arm b).closedForLineEnd else t.arm b := fun b => by
    rw [hu]
    exact State.arm_modifyArm _ a b _
  have uorders : u.orders = s.orders.map (Option.map (Order.stoppedOn (done ++ [a]))) := by
    rw [hu]
    exact orders
  have urest : u = { t with orders := u.orders, arms := u.arms } := by
    rw [hu]
    rfl
  have flows : (∃ b, (u.arm b).state.flowing = true) → ∃ b, (t.arm b).state.flowing = true := by
    rintro ⟨b, hb⟩
    rw [uarm] at hb
    split at hb
    · cases hb
    · exact ⟨b, hb⟩
  have ubay : u.bay = t.bay := by
    rw [hu]
    rfl
  have settled : u.settleDeadman = { u with bay := u.settleDeadman.bay } := by
    rw [State.settleDeadman_eq]
  have follows : t.bayFollows u.settleDeadman := by
    unfold State.bayFollows
    rw [State.settleDeadman_eq, ubay]
    rfl
  refine ⟨?_, fun b => ?_, fun _ => ?_, fun none => absurd ⟨a, List.mem_append_right _ (.head _), before⟩ none, after, ?_⟩
  · rw [settled, ← uorders]
    refine (congrArg (fun w : State => { w with bay := u.settleDeadman.bay }) urest).trans ?_
    exact congrArg (fun w : State => { w with orders := u.orders, arms := u.arms, bay := u.settleDeadman.bay }) h.frame
  · rw [settled]
    refine (uarm b).trans ?_
    by_cases same : b = a
    · rw [if_pos same, same, arm, if_pos ⟨List.mem_append_right _ (.head _), before⟩]
    · rw [if_neg same, h.arms]
      simp [same]
  · rw [settled] at follows ⊢
    exact State.bayFollows_trans (Classical.or_iff_not_imp_left.mpr fun c => h.still fun d => c (h.follows d)) follows flows
  · rw [State.settleDeadman_eq]
    dsimp only
    rw [ubay]
    split <;> exact h.saved

end Step

/-- Every arm has been stopped. -/
theorem State.stoppedTo_all {s : State} (kept : s.linesKept) (saved : s.bay.saved = false)
    (halted : ∀ a r, (s.arm a).dosing = some r → r.phase ≠ .accruing) :
    s.stoppedTo (s.forArms (fun a t => t.stopLine a)) (List.finRange 6) := by
  have whole : s.forArms (fun a t => t.stopLine a) = (List.finRange 6).foldl State.stopLine s := by
    rw [← armList_eq_finRange]
    rfl
  rw [whole]
  refine foldl_finRange (P := fun done t => s.stoppedTo t done) (State.stoppedTo_nil kept saved) fun done t a h fresh => ?_
  have same := State.stoppedTo_running h fresh kept saved
  by_cases running : t.running a = true
  · exact State.stoppedTo_closes h fresh running (same ▸ running) (halted a)
  · exact State.stoppedTo_idle h running (same ▸ running)

/-- Every running line has ended, and no arm flows (R89, R114, R116). -/
theorem State.stopLine_all {s t : State} (kept : s.linesKept) (saved : s.bay.saved = false)
    (halted : ∀ a r, (s.arm a).dosing = some r → r.phase ≠ .accruing) (ht : t = s.forArms (fun a t => t.stopLine a)) :
    t = { s with
        orders := s.orders.map (Option.map (Order.stoppedOn (List.finRange 6))), arms := t.arms
        bay := if ∃ a, s.running a = true then { s.bay with deadman := { s.bay.deadman with elapsed := none } }
          else s.bay } ∧
      (∀ a, t.arm a = if s.running a = true then (s.arm a).closedForLineEnd else s.arm a) ∧
      ∀ a, (t.arm a).state.flowing = false := by
  have all := State.stoppedTo_all kept saved halted
  rw [← ht] at all
  have arms : ∀ a, t.arm a = if s.running a = true then (s.arm a).closedForLineEnd else s.arm a := fun a => by
    simpa using all.arms a
  have still : ∀ a, (t.arm a).state.flowing = false := fun a => by
    rw [arms]
    split
    · rfl
    · next ended => exact State.still_of_ended kept saved ended
  have flows : ¬ ∃ a, (t.arm a).state.flowing = true := fun ⟨a, c⟩ => Bool.false_ne_true ((still a).symm.trans c)
  have bay : t.bay = if ∃ a, s.running a = true then { s.bay with deadman := { s.bay.deadman with elapsed := none } }
      else s.bay := by
    by_cases any : ∃ a, s.running a = true
    · obtain ⟨a, running⟩ := any
      have follows := all.follows ⟨a, List.mem_finRange a, running⟩
      unfold State.bayFollows at follows
      rw [if_pos ⟨a, running⟩, follows, if_neg flows]
    · rw [if_neg any]
      exact all.still fun ⟨a, _, running⟩ => any ⟨a, running⟩
  refine ⟨?_, arms, still⟩
  rw [← bay]
  exact all.frame

end Sys2Proof.Machine
end

section
/-! ### The emergency stop and the queued starts (R83, R114) -/

namespace Sys2Proof.Machine

/-- START_DROPPED is raised for an arm that holds a queued start (R83). -/
def State.cutsStart (s : State) (k : NoticeKind) (subject : Nat) : Prop :=
  k = .startDropped ∧ ∃ a, (s.arm a).queued.isSome = true ∧ subject = number a

/-- These arms' queued starts have been dropped, seen from the state before. -/
structure State.startsCutTo (s t : State) (done : List (Fin 6)) : Prop where
  frame : t = { s with arms := t.arms, terminal := t.terminal, console := t.console }
  arms : ∀ a, t.arm a = if a ∈ done then { s.arm a with queued := none } else s.arm a
  raises : s.raisesOnly t s.cutsStart
  drops : ∀ a ∈ done, (s.arm a).queued.isSome = true → t.announced .startDropped (number a)

theorem State.startsCutTo_nil (s : State) : s.startsCutTo s [] :=
  ⟨rfl, fun _ => (if_neg List.not_mem_nil).symm, s.raisesOnly_refl _, fun _ h => absurd h List.not_mem_nil⟩

section Step

variable {s t : State} {done : List (Fin 6)} {a : Fin 6} (h : s.startsCutTo t done) (fresh : a ∉ done)

include h fresh in
/-- An arm without a queued start is left as it is. -/
theorem State.startsCutTo_none (free : ¬ (s.arm a).queued.isSome = true) : s.startsCutTo (t.dropQueued a) (done ++ [a]) := by
  have arm : t.arm a = s.arm a := (h.arms a).trans (if_neg fresh)
  rw [State.dropQueued_eq, if_neg (by rw [arm]; exact free)]
  refine ⟨h.frame, fun b => ?_, h.raises, fun b hb start => h.drops b ?_ start⟩
  · by_cases same : b = a
    · have empty : (s.arm a).queued = none := by simpa using free
      rw [same, arm, if_pos (List.mem_append_right _ (.head _)), ← empty]
    · rw [h.arms]
      simp [same]
  · exact (List.mem_append.mp hb).resolve_right fun e => free (List.mem_singleton.mp e ▸ start)

include h fresh in
/-- An arm with a queued start loses it, and START_DROPPED is raised for it. -/
theorem State.startsCutTo_some (start : (s.arm a).queued.isSome = true) : s.startsCutTo (t.dropQueued a) (done ++ [a]) := by
  have arm : t.arm a = s.arm a := (h.arms a).trans (if_neg fresh)
  rw [State.dropQueued_eq, if_pos (by rw [arm]; exact start)]
  obtain ⟨u, hu⟩ : ∃ u : State, u = { t with arms := t.arms.modify a (fun x => { x with queued := none }) } := ⟨_, rfl⟩
  rw [← hu]
  have now : t.now = s.now := by
    rw [h.frame]
    rfl
  have dropped : t.raisesOnly (u.raise .startDropped (number a)) s.cutsStart := by
    refine State.raisesOnly_mono (State.raisesOnly_from (u.raisesOnly_raise _ _) (hu ▸ rfl) (hu ▸ rfl) (hu ▸ rfl)) ?_
    rintro k subject ⟨kind, who⟩
    exact ⟨kind, a, start, who⟩
  refine ⟨?_, fun b => ?_, State.raisesOnly_trans now h.raises dropped, fun b hb start' => ?_⟩
  · have frame : u.raise .startDropped (number a) = { t with
        arms := u.arms
        terminal := (u.raise .startDropped (number a)).terminal
        console := (u.raise .startDropped (number a)).console } := by
      rw [hu]
      rfl
    generalize u.raise .startDropped (number a) = v at frame ⊢
    rw [frame]
    exact congrArg (fun w : State => { w with arms := u.arms, terminal := v.terminal, console := v.console }) h.frame
  · have uarm : u.arm b = if b = a then { t.arm b with queued := none } else t.arm b := by
      rw [hu]
      exact State.arm_modifyArm t a b _
    rw [State.arm_congr (State.raise_arms _ _ _), uarm]
    by_cases same : b = a
    · rw [if_pos same, same, arm, if_pos (List.mem_append_right _ (.head _))]
    · rw [if_neg same, h.arms]
      simp [same]
  · rcases List.mem_append.mp hb with earlier | own
    · exact State.announced_of_raisesOnly dropped (h.drops b earlier start')
    · rw [List.mem_singleton.mp own]
      exact State.announced_raise _ _ _

end Step

/-- Every arm's queued start has been dropped. -/
theorem State.startsCutTo_all (s : State) : s.startsCutTo (s.forArms (fun a t => t.dropQueued a)) (List.finRange 6) := by
  have whole : s.forArms (fun a t => t.dropQueued a) = (List.finRange 6).foldl State.dropQueued s := by
    rw [← armList_eq_finRange]
    rfl
  rw [whole]
  refine foldl_finRange (P := fun done t => s.startsCutTo t done) s.startsCutTo_nil fun done t a h fresh => ?_
  by_cases start : (s.arm a).queued.isSome = true
  · exact State.startsCutTo_some h fresh start
  · exact State.startsCutTo_none h fresh start

/-! ### The activation (R114) -/

/-- The state when the stop is recognized ACTIVE and the dosing unit has been told. -/
def State.stopHalted (s : State) : State :=
  { s with
    arms := s.arms.map Arm.halted, injectors := s.injectors.map Injector.idle
    bay := { s.bay with stop := ⟨true, true, none⟩ } }

theorem State.arm_stopHalted (s : State) (a : Fin 6) : s.stopHalted.arm a = (s.arm a).halted := Table.get_map _ _ _

theorem State.running_stopHalted (s : State) (a : Fin 6) : s.stopHalted.running a = s.running a := by
  have lines : s.stopHalted.activeLine a = s.activeLine a := by
    unfold State.activeLine
    rw [State.arm_stopHalted]
    rfl
  rw [State.running, State.running, lines]

theorem State.linesKept_stopHalted {s : State} (kept : s.linesKept) : s.stopHalted.linesKept := by
  have follows : s.linesFollow s.stopHalted := by
    refine ⟨fun a => ?_, fun k => optionRel_refl Order.carries_refl _, rfl⟩
    rw [State.arm_stopHalted]
    exact Arm.follows_of rfl rfl rfl rfl
  exact follows.kept kept

/-- The activation, step by step, where the dosing unit is kept. -/
theorem State.activateStop_eq {s : State} (kept : s.dosingKept) (roles : s.rolesKept) : s.activateStop =
    ((s.stopHalted.forArms (fun a t => t.stopLine a)).forArms (fun a t => t.dropQueued a)).raise .estop 0 := by
  have dosed : (s.modifyStop (fun x => { x with level := true, active := true, timer := none })).forArms
      (fun a t => t.stopDosing a) = s.stopHalted :=
    State.stopDosing_all (s := s.modifyStop (fun x => { x with level := true, active := true, timer := none })) kept roles
  rw [State.activateStop, dosed]

/-- A line that the stop bears on, as R114 says it. -/
theorem Line.stoppedOn_finRange : Line.stoppedOn (List.finRange 6) = fun l =>
    if l.isRunning = true then { l with result := some .aborted, flags := { l.flags with estop := true } } else l :=
  funext Line.stoppedOn_all

/-- The arm that the activation leaves. -/
def State.armStopped (s : State) (a : Fin 6) : Arm :=
  { (if s.running a = true then (s.arm a).halted.closedForLineEnd else (s.arm a).halted) with queued := none }

/-- What the activation leaves, and what it raises. -/
theorem State.activateStop_spec {s t : State} (kept : s.linesKept) (doses : s.dosesKept) (saved : s.bay.saved = false)
    (ht : t = s.activateStop) :
    t = { s with
        orders := s.orders.map (Option.map (Order.stoppedOn (List.finRange 6)))
        arms := t.arms, injectors := s.injectors.map Injector.idle
        bay := { s.bay with
          stop := ⟨true, true, none⟩
          deadman := if ∃ a, s.running a = true then { s.bay.deadman with elapsed := none } else s.bay.deadman }
        terminal := t.terminal, console := t.console } ∧
      (∀ a, t.arm a = s.armStopped a) ∧ t.valvesOff ∧
      s.raisesOnly t (fun k subject => k = .estop ∧ subject = 0 ∨ s.cutsStart k subject) ∧ t.announced .estop 0 ∧
      ∀ a, (s.arm a).queued.isSome = true → t.announced .startDropped (number a) := by
  obtain ⟨-, dosing, roles⟩ := doses
  rw [State.activateStop_eq dosing roles] at ht
  obtain ⟨m, hm⟩ : ∃ m, m = s.stopHalted.forArms (fun a t => t.stopLine a) := ⟨_, rfl⟩
  obtain ⟨frame, arms, still⟩ := State.stopLine_all (State.linesKept_stopHalted kept) saved
    (fun a r hr => Arm.halted_dosing (s.arm_stopHalted a ▸ hr)) hm
  simp only [State.running_stopHalted, State.arm_stopHalted] at frame arms
  have cut := State.startsCutTo_all m
  rw [← hm] at ht
  obtain ⟨d, hd⟩ : ∃ d, d = m.forArms (fun a t => t.dropQueued a) := ⟨_, rfl⟩
  rw [← hd] at ht cut
  have queued : ∀ a, (m.arm a).queued = (s.arm a).queued := fun a => by
    rw [arms]
    split <;> rfl
  have darm : ∀ a, t.arm a = { m.arm a with queued := none } := fun a => by
    rw [ht]
    exact (cut.arms a).trans (if_pos (List.mem_finRange a))
  have raised : d.raisesOnly t (fun k subject => k = .estop ∧ subject = 0) := by
    rw [ht]
    exact d.raisesOnly_raise .estop 0
  refine ⟨?_, fun a => ?_, fun a => Arm.shut_of_still (by rw [darm]; exact still a), ?_, ?_, fun a start => ?_⟩
  · have bay : (if ∃ a, s.running a = true then
          { s.stopHalted.bay with deadman := { s.stopHalted.bay.deadman with elapsed := none } } else s.stopHalted.bay) =
        { s.bay with
          stop := ⟨true, true, none⟩
          deadman := if ∃ a, s.running a = true then { s.bay.deadman with elapsed := none } else s.bay.deadman } := by
      split <;> rfl
    rw [bay] at frame
    have last : t = { d with terminal := t.terminal, console := t.console } := by
      rw [ht]
      rfl
    have moved : t = { m with arms := t.arms, terminal := t.terminal, console := t.console } := by
      have arms : t.arms = d.arms := by
        rw [ht]
        rfl
      rw [arms]
      exact last.trans (congrArg (fun w : State => { w with terminal := t.terminal, console := t.console }) cut.frame)
    exact moved.trans (congrArg (fun w : State =>
      { w with arms := t.arms, terminal := t.terminal, console := t.console }) frame)
  · rw [darm, arms]
    rfl
  · have now : d.now = s.now := by
      rw [cut.frame, frame]
      rfl
    have starts : s.raisesOnly d s.cutsStart := by
      refine State.raisesOnly_mono (State.raisesOnly_from cut.raises ?_ ?_ ?_) fun k subject ⟨kind, a, start, who⟩ =>
        ⟨kind, a, queued a ▸ start, who⟩
      all_goals rw [frame]; rfl
    exact State.raisesOnly_trans now (State.raisesOnly_mono starts fun _ _ c => .inr c)
      (State.raisesOnly_mono raised fun _ _ c => .inl c)
  · rw [ht]
    exact d.announced_raise .estop 0
  · exact State.announced_of_raisesOnly raised (cut.drops a (List.mem_finRange a) (queued a ▸ start))

end Sys2Proof.Machine
end

section
namespace Sys2Proof.Proofs
open Sys2Proof Sys2Proof.Machine

/-- Settles O42: dosing, lines and queued starts are stopped in turn; a press, a release and its end move the stop alone. -/
theorem emergencyStop : Obligations.EmergencyStop := by
  unfold Obligations.EmergencyStop
  refine fun s => ⟨fun up inactive kept doses saved => ?_, fun up active => ?_, fun down active => ?_,
    fun ms due timer => ?_⟩
  · have pressed : s.stopPressed = s.activateStop := by
      rw [State.stopPressed, if_neg (by simp [up]), if_neg (by simp [inactive])]
    obtain ⟨frame, arms, off, raises, announced, drops⟩ := State.activateStop_spec kept doses saved rfl
    refine ⟨s.activateStop, congrArg Host.Outcome.next pressed, ?_, fun a => ?_, off, raises, announced, drops⟩
    · have orders : Order.stoppedOn (List.finRange 6) = fun o => { o with lines := o.lines.map (fun l =>
          if l.isRunning = true then { l with result := some .aborted, flags := { l.flags with estop := true } }
            else l) } :=
        funext fun o => congrArg (fun f => { o with lines := o.lines.map f }) Line.stoppedOn_finRange
      rw [orders] at frame
      exact frame
    · rw [arms, State.armStopped]
      split <;> rfl
  · have pressed : s.stopPressed = s.modifyStop (fun x => { x with level := true, timer := none }) := by
      rw [State.stopPressed, if_neg (by simp [up]), if_pos active]
    refine congrArg Host.Outcome.next (pressed.trans ?_)
    rw [State.modifyStop, active]
  · have released : s.stopReleased = s.modifyStop (fun x =>
        { x with level := false, timer := if x.active then some Config.restoreDelay else x.timer }) := if_pos down
    refine congrArg Host.Outcome.next (released.trans ?_)
    rw [State.modifyStop, active]
    rfl
  · exact congrArg Host.Outcome.next ((State.expiry_own due _).trans (if_pos (by rw [timer]; rfl)))

end Sys2Proof.Proofs
end

section
/-! The roles of the injectors, and the requests that give and take them (R124 to R129). -/

namespace Sys2Proof.Machine

variable {s : State} {a : Fin 6} {p : Fin 2} {i j : Fin 8}

/-! ### Roles (R124) -/

/-- An injector stands in no position and is no primary's standby. -/
def State.unassigned (s : State) (i : Fin 8) : Prop :=
  (∀ a p, (s.arm a).setup.positions.get p ≠ some i) ∧ ∀ j, (s.injector j).standby ≠ some i

theorem State.positionOf_stands (h : s.positionOf i = some (a, p)) : (s.arm a).setup.positions.get p = some i := by
  obtain ⟨b, -, hb⟩ := List.exists_of_findSome?_eq_some h
  obtain ⟨q, hq, e⟩ := Option.map_eq_some_iff.mp hb
  cases e
  simpa using List.find?_some hq

theorem State.positionOf_none_iff : s.positionOf i = none ↔ ∀ a p, (s.arm a).setup.positions.get p ≠ some i := by
  refine ⟨fun none a p place => ?_, fun nowhere => State.positionOf_eq fun a p => ?_⟩
  · have empty := List.findSome?_eq_none_iff.mp none a (mem_armList a)
    have passed := List.find?_eq_none.mp (Option.map_eq_none_iff.mp empty) p (mem_positionList p)
    simp [place] at passed
  · exact ⟨nofun, fun place => absurd place (nowhere a p)⟩

theorem State.primaryOf_names (h : s.primaryOf i = some j) : (s.injector j).standby = some i := by
  simpa using List.find?_some h

theorem State.primaryOf_none_iff : s.primaryOf i = none ↔ ∀ j, (s.injector j).standby ≠ some i := by
  refine ⟨fun none j names => ?_, fun nobody => State.primaryOf_eq fun j => ?_⟩
  · simpa [names] using List.find?_eq_none.mp none j (mem_injectorList j)
  · exact ⟨nofun, fun names => absurd names (nobody j)⟩

theorem State.role_unassigned_iff : s.role i = .unassigned ↔ s.unassigned i := by
  rw [State.unassigned, ← State.positionOf_none_iff, ← State.primaryOf_none_iff]
  cases place : s.positionOf i with
  | some x => simp [State.role, place]
  | none => cases primary : s.primaryOf i <;> simp [State.role, place, primary]

theorem State.isPrimary_iff : (s.role i).isPrimary = true ↔ ∃ a p, (s.arm a).setup.positions.get p = some i := by
  cases place : s.positionOf i with
  | some x =>
    obtain ⟨a, p⟩ := x
    exact ⟨fun _ => ⟨a, p, State.positionOf_stands place⟩, fun _ => by simp [State.role, place, Role.isPrimary]⟩
  | none =>
    have nowhere := State.positionOf_none_iff.mp place
    refine ⟨fun primary => ?_, fun ⟨a, p, stands⟩ => absurd stands (nowhere a p)⟩
    cases names : s.primaryOf i <;> simp [State.role, place, names, Role.isPrimary] at primary

/-- An injector that no primary names is no standby. -/
theorem State.role_not_standby (nobody : ∀ j, (s.injector j).standby ≠ some i) (j : Fin 8) : s.role i ≠ .standby j := by
  have none := State.primaryOf_none_iff.mpr nobody
  cases place : s.positionOf i <;> simp [State.role, place, none]

/-- The standby of a primary has that role (R124). -/
theorem State.rolesKept.role_standby (h : s.rolesKept) (names : (s.injector j).standby = some i) :
    s.role i = .standby j := by
  obtain ⟨-, pairs, -⟩ := h
  obtain ⟨-, nowhere, only, -⟩ := pairs j i names
  have primary : s.primaryOf i = some j := State.primaryOf_eq fun k =>
    ⟨fun e => by cases e; exact names, fun hk => by rw [only k hk]⟩
  simp [State.role, State.positionOf_none_iff.mpr nowhere, primary]

/-! ### ASSIGN INJECTOR and REMOVE INJECTOR (R125, R126) -/

theorem assignInjector_busy (busy : (s.arm a).state ≠ .idle) :
    assignInjector (number a) (number p) (number i) s = s.refuse .armBusy := by
  simp only [assignInjector, number, indexOf_number]
  simp [State.checked, busy]

theorem assignInjector_taken (idle : (s.arm a).state = .idle)
    (taken : (s.arm a).setup.positions.get p ≠ none ∨ ¬ s.unassigned i) :
    assignInjector (number a) (number p) (number i) s = s.refuse .inUse := by
  rw [← State.role_unassigned_iff, ← Option.isSome_iff_ne_none] at taken
  simp only [assignInjector, number, indexOf_number]
  simp [State.checked, idle, taken]

theorem assignInjector_placed (idle : (s.arm a).state = .idle) (free : (s.arm a).setup.positions.get p = none)
    (unassigned : s.unassigned i) (inService : (s.injectorStore i).failed = false) :
    assignInjector (number a) (number p) (number i) s =
      ((s.setPosition a p (some i)).modifyInjector i (fun x => { x with standby := none })).ok [] := by
  simp only [assignInjector, number, indexOf_number]
  exact State.checked_ok _ _ _ (by simp [idle, free, State.role_unassigned_iff.mpr unassigned, inService])

theorem removeInjector_removed (idle : (s.arm a).state = .idle) (place : (s.arm a).setup.positions.get p = some i) :
    removeInjector (number a) (number p) s =
      ((s.setPosition a p none).modifyInjector i (fun x => { x with standby := none })).ok [] := by
  simp only [removeInjector, number, indexOf_number, place]
  exact State.checked_ok _ _ _ (by simp [idle])

/-! ### ASSIGN STANDBY and RELEASE STANDBY (R127, R128) -/

theorem assignStandby_paired (other : j ≠ i) (inService : (s.injectorStore i).failed = false)
    (primary : ∃ a p, (s.arm a).setup.positions.get p = some j) (unassigned : s.unassigned i)
    (alone : (s.injector j).standby = none) (additive : (s.injectorStore i).additive = (s.injectorStore j).additive) :
    assignStandby (number j) (number i) s = (s.modifyInjector j (fun x => { x with standby := some i })).ok [] := by
  simp only [assignStandby, number, indexOf_number]
  exact State.checked_ok _ _ _ (by simp [other, inService, State.isPrimary_iff.mpr primary,
    State.role_unassigned_iff.mpr unassigned, alone, additive])

theorem assignStandby_taken (other : j ≠ i) (inService : (s.injectorStore i).failed = false)
    (primary : ∃ a p, (s.arm a).setup.positions.get p = some j)
    (taken : ¬ s.unassigned i ∨ (s.injector j).standby ≠ none) :
    assignStandby (number j) (number i) s = s.refuse .inUse := by
  rw [← State.role_unassigned_iff, ← Option.isSome_iff_ne_none] at taken
  simp only [assignStandby, number, indexOf_number]
  simp [State.checked, other, inService, State.isPrimary_iff.mpr primary, taken]

theorem releaseStandby_noStandby (nobody : ∀ j, (s.injector j).standby ≠ some i) :
    releaseStandby (number i) s = s.refuse .wrongState := by
  simp only [releaseStandby, number, indexOf_number]
  cases role : s.role i with
  | unassigned => rfl
  | primary => rfl
  | standby j => exact absurd role (State.role_not_standby nobody j)

theorem releaseStandby_released (roles : s.rolesKept) (names : (s.injector j).standby = some i) :
    releaseStandby (number i) s = (s.modifyInjector j (fun x => { x with standby := none })).ok [] := by
  simp only [releaseStandby, number, indexOf_number, roles.role_standby names]

/-! ### RETURN INJECTOR (R129) -/

theorem returnInjector_inService (inService : (s.injectorStore i).failed = false) :
    returnInjector (number i) s = s.refuse .wrongState := by
  simp only [returnInjector, number, indexOf_number]
  simp [State.checked, inService]

theorem returnInjector_returned (failed : (s.injectorStore i).failed = true) :
    returnInjector (number i) s = (s.modifyInjectorStore i (fun x => { x with failed := false })).ok [] := by
  simp only [returnInjector, number, indexOf_number]
  exact State.checked_ok _ _ _ (by simp [failed])

end Sys2Proof.Machine
end

section
namespace Sys2Proof.Proofs
open Sys2Proof Sys2Proof.Machine

/-- Settles O44: each request by its checks, which speak of roles as positions and pairs (`State.role_unassigned_iff`). -/
theorem injectorsAreDeployed : Obligations.InjectorsAreDeployed := by
  unfold Obligations.InjectorsAreDeployed
  intro tag s h
  dsimp only
  refine ⟨fun a p i => ⟨fun busy => ?_, fun idle taken => ?_, fun idle free unassigned inService => ?_,
    fun idle place => ?_⟩, fun j i other inService primary => ⟨fun unassigned alone additive => ?_, fun taken => ?_⟩,
    fun i => ⟨fun inService => ?_, fun failed => ?_⟩⟩
  · exact congrArg Host.Outcome.next (State.frame_refused h rfl (assignInjector_busy busy))
  · exact congrArg Host.Outcome.next (State.frame_refused h rfl (assignInjector_taken idle taken))
  · exact congrArg Host.Outcome.next (State.frame_answered h rfl (assignInjector_placed idle free unassigned inService))
  · exact congrArg Host.Outcome.next (State.frame_answered h rfl (removeInjector_removed idle place))
  · exact congrArg Host.Outcome.next (State.frame_answered h rfl
      (assignStandby_paired other inService primary unassigned alone additive))
  · exact congrArg Host.Outcome.next (State.frame_refused h rfl (assignStandby_taken other inService primary taken))
  · exact congrArg Host.Outcome.next (State.frame_refused h rfl (returnInjector_inService inService))
  · exact congrArg Host.Outcome.next (State.frame_answered h rfl (returnInjector_returned failed))

/-- Settles O45: an injector is a standby where a primary names it (`State.role_not_standby`, `State.rolesKept.role_standby`). -/
theorem releaseStandby : Obligations.ReleaseStandby := by
  unfold Obligations.ReleaseStandby
  intro tag s h
  refine ⟨fun raw bad => ?_, fun i nobody => ?_, fun i j roles names => ?_⟩
  · refine congrArg Host.Outcome.next (State.frame_refused h rfl ?_)
    rw [Machine.releaseStandby, indexOf_eq_none.mpr bad]
  · exact congrArg Host.Outcome.next (State.frame_refused h rfl (releaseStandby_noStandby nobody))
  · exact congrArg Host.Outcome.next (State.frame_answered h rfl (releaseStandby_released roles names))

end Sys2Proof.Proofs
end

section
/-!
The dosing unit's invariants in one predicate (`State.dosesHeld`), some arms apart: what an operation may do to an arm, its
record and the injectors without leaving it.
-/

namespace Sys2Proof.Machine

/-! ### The invariants, some arms apart -/

/-- The dosing unit is kept as `State.dosesKept` says, and where `cal` holds its values are calibrated; but the arms in `apart`,
in the midst of an operation, need not stand by their state, nor their records be bounded. -/
structure State.dosesHeld (s : State) (cal : Prop) (apart : Fin 6 → Prop) : Prop where
  stands : ∀ a, ¬ apart a → (s.arm a).standing
  bounded : ∀ a r, ¬ apart a → (s.arm a).dosing = some r → r.bounded
  carried : ∀ a r, (s.arm a).dosing = some r → (s.arm a).active.isSome = true
  roles : s.rolesKept
  calibrated : cal → s.dosesCalibrated

theorem State.dosesHeld_iff (s : State) (cal : Prop) :
    s.dosesHeld cal (fun _ => False) ↔ s.dosesKept ∧ (cal → s.dosesCalibrated) := by
  refine ⟨fun ⟨stands, bounded, carried, roles, calibrated⟩ => ⟨⟨fun a => stands a id, fun a r hr => ?_, roles⟩, calibrated⟩,
    fun ⟨⟨stands, kept, roles⟩, calibrated⟩ => ⟨fun a _ => stands a, fun a r _ hr => (kept a r hr).1,
      fun a r hr => (kept a r hr).2, roles, calibrated⟩⟩
  exact ⟨bounded a r id hr, carried a r hr⟩

variable {s t : State} {cal : Prop} {apart : Fin 6 → Prop} {a : Fin 6} {i : Fin 8}

/-- Any arm may be taken apart. -/
theorem State.dosesHeld.part {more : Fin 6 → Prop} (h : s.dosesHeld cal apart) (le : ∀ b, apart b → more b) :
    s.dosesHeld cal more :=
  ⟨fun b hb => h.stands b (mt (le b) hb), fun b r hb => h.bounded b r (mt (le b) hb), h.carried, h.roles, h.calibrated⟩

/-- An arm without a line has no dosing record. -/
theorem State.dosesHeld.undosed (h : s.dosesHeld cal apart) (free : (s.arm a).active = none) : (s.arm a).dosing = none := by
  by_contra dosed
  obtain ⟨r, hr⟩ := Option.ne_none_iff_exists'.mp dosed
  simpa [free] using h.carried a r hr

/-- The arm apart joins the others once it stands and its record is bounded. -/
theorem State.dosesHeld.join (h : s.dosesHeld cal (fun b => apart b ∨ b = a)) (stands : (s.arm a).standing)
    (bounded : ∀ r, (s.arm a).dosing = some r → r.bounded) : s.dosesHeld cal apart := by
  refine ⟨fun b hb => ?_, fun b r hb hr => ?_, h.carried, h.roles, h.calibrated⟩
  · by_cases own : b = a
    · exact own ▸ stands
    · exact h.stands b fun c => c.elim hb own
  · by_cases own : b = a
    · exact bounded r (own ▸ hr)
    · exact h.bounded b r (fun c => c.elim hb own) hr

/-! ### What an operation may do -/

/-- A record goes on: it keeps its position and the values its line's start or a takeover gave it, and one that is DISENGAGED
with nothing owed and no shot in flight stays so. -/
structure DosingRecord.goesOn (r q : DosingRecord) : Prop where
  same : (q.position, q.serving, q.servingKf, q.additive, q.rate, q.interval) =
    (r.position, r.serving, r.servingKf, r.additive, r.rate, r.interval)
  rests : r.phase = .disengaged → r.owed = 0 → r.shot = none → q.phase = .disengaged ∧ q.owed = 0 ∧ q.shot = none

theorem DosingRecord.goesOn_refl (r : DosingRecord) : r.goesOn r := ⟨rfl, fun phase owed shot => ⟨phase, owed, shot⟩⟩

/-- The record of arm `x`, if `y` has one, is its record going on, on the same positions and under a line; and where the arm is
not apart, it stands and its record is bounded as before. -/
structure Arm.dosesOn (x y : Arm) (apart : Prop) : Prop where
  positions : y.setup.positions = x.setup.positions
  dosing : ∀ q, y.dosing = some q → ∃ r, x.dosing = some r ∧ r.goesOn q ∧ (¬ apart → r.bounded → q.bounded)
  active : y.dosing.isSome = true → x.active.isSome = true → y.active.isSome = true
  standing : ¬ apart → x.standing → y.standing

/-- An arm whose positions and record stay as they are, and that stands and carries a line where it did. -/
theorem Arm.dosesOn_of {x y : Arm} {apart : Prop} (same : (y.setup.positions, y.dosing) = (x.setup.positions, x.dosing))
    (active : x.active.isSome = true → y.active.isSome = true) (standing : x.standing → y.standing) : x.dosesOn y apart := by
  simp only [Prod.mk.injEq] at same
  obtain ⟨positions, dosing⟩ := same
  exact ⟨positions, fun q hq => ⟨q, dosing ▸ hq, q.goesOn_refl, fun _ => id⟩, fun _ => active, fun _ => standing⟩

theorem Arm.dosesOn_refl (x : Arm) (apart : Prop) : x.dosesOn x apart := Arm.dosesOn_of rfl id id

/-- An arm that follows (`Arm.follows`), its positions and its record staying as they are. -/
theorem Arm.follows.dosesOn {x y : Arm} {apart : Prop} (h : x.follows y)
    (same : (y.setup.positions, y.dosing) = (x.setup.positions, x.dosing)) : x.dosesOn y apart :=
  Arm.dosesOn_of same (fun c => h.active ▸ c) h.standing

/-- An arm whose positions, record, line, state, closing reason and causes stay as they are. -/
theorem Arm.dosesOn.same {x y : Arm} {apart : Prop}
    (h : (y.setup.positions, y.dosing, y.active, y.state, y.reason, y.holds) =
      (x.setup.positions, x.dosing, x.active, x.state, x.reason, x.holds)) : x.dosesOn y apart := by
  simp only [Prod.mk.injEq] at h
  obtain ⟨positions, dosing, active, state, reason, holds⟩ := h
  exact (Arm.follows_of active state reason holds).dosesOn (by rw [positions, dosing])

/-- An arm whose record goes on and engages an injector engaged that injector. -/
theorem Arm.dosesOn.engaged {x y : Arm} {apart : Prop} (h : x.dosesOn y apart) (dosed : y.dosing.isSome = true) :
    y.engaged = x.engaged := by
  obtain ⟨q, hq⟩ := Option.isSome_iff_exists.mp dosed
  obtain ⟨r, hr, on, -⟩ := h.dosing q hq
  have position : q.position = r.position := congrArg Prod.fst on.same
  simp only [Arm.engaged, hq, hr, h.positions, Option.bind_some, position]

/-- A solenoid that is on serves the shot in flight of a record that engages its injector. -/
theorem State.dosesHeld.lit (h : s.dosesHeld cal apart) (i : Fin 8) (on : (s.injector i).window.isSome = true) :
    ∃ a r, (s.arm a).dosing = some r ∧ (s.arm a).engaged = some i ∧ r.shot.isSome = true := by
  obtain ⟨-, -, -, lit⟩ := h.roles
  exact lit i on

/-- The injector that an arm engages stands in the position of its record. -/
theorem Arm.engaged_position {x : Arm} {i : Fin 8} (h : x.engaged = some i) :
    ∃ r, x.dosing = some r ∧ x.setup.positions.get r.position = some i := Option.bind_eq_some_iff.mp h

/-- An injector is engaged by one arm at most (R124). -/
theorem State.dosesHeld.engages_unique (h : s.dosesHeld cal apart) {b : Fin 6} (ha : (s.arm a).engaged = some i)
    (hb : (s.arm b).engaged = some i) : b = a := by
  obtain ⟨r, -, hr⟩ := Arm.engaged_position ha
  obtain ⟨q, -, hq⟩ := Arm.engaged_position hb
  obtain ⟨unique, -⟩ := h.roles
  exact (unique _ _ _ _ i hq hr).1

/-- The solenoid of an engaged injector serves the shot in flight of the record that engages it. -/
theorem State.dosesHeld.flying (h : s.dosesHeld cal apart) (engaged : (s.arm a).engaged = some i)
    (on : (s.injector i).window.isSome = true) : ∃ r, (s.arm a).dosing = some r ∧ r.shot.isSome = true := by
  obtain ⟨b, r, hr, engaged', flying⟩ := h.lit i on
  obtain rfl := h.engages_unique engaged engaged'
  exact ⟨r, hr, flying⟩

/-- An injector's entry in the store keeps what the dosing unit reads of it. -/
def InjectorStore.dosesAs (x y : InjectorStore) : Prop :=
  (y.additive, y.shotSize, y.kFactor, y.failed) = (x.additive, x.shotSize, x.kFactor, x.failed)

/-- Records go on, standbys and the store's entries stay, and a solenoid that is on serves a shot in flight. -/
theorem State.dosesHeld.step (h : s.dosesHeld cal apart) (arms : ∀ b, (s.arm b).dosesOn (t.arm b) (apart b))
    (standby : ∀ i, (t.injector i).standby = (s.injector i).standby)
    (store : ∀ i, (s.injectorStore i).dosesAs (t.injectorStore i)) (recipes : t.recipes = s.recipes)
    (lit : ∀ i, (t.injector i).window.isSome = true →
      ∃ a r, (t.arm a).dosing = some r ∧ (t.arm a).engaged = some i ∧ r.shot.isSome = true) : t.dosesHeld cal apart := by
  simp only [InjectorStore.dosesAs, Prod.mk.injEq] at store
  have additive i := (store i).1
  have shotSize i := (store i).2.1
  have kFactor i := (store i).2.2.1
  have failed i := (store i).2.2.2
  obtain ⟨unique, pairs, out, -⟩ := h.roles
  refine ⟨fun b hb => (arms b).standing hb (h.stands b hb), fun b q hb hq => ?_, fun b q hq => ?_, ⟨?_, ?_, ?_, lit⟩,
    fun c => ?_⟩
  · obtain ⟨r, hr, -, bounded⟩ := (arms b).dosing q hq
    exact bounded hb (h.bounded b r hb hr)
  · obtain ⟨r, hr, -⟩ := (arms b).dosing q hq
    exact (arms b).active (by simp [hq]) (h.carried b r hr)
  · simpa only [(arms _).positions] using unique
  · simpa only [(arms _).positions, standby, additive] using pairs
  · simpa only [(arms _).positions, standby, failed] using out
  · obtain ⟨recipe, item, record⟩ := h.calibrated c
    refine ⟨by rwa [recipes], by simpa only [additive, shotSize, kFactor] using item, fun b q hq => ?_⟩
    obtain ⟨r, hr, on, -⟩ := (arms b).dosing q hq
    have same := on.same
    simp only [Prod.mk.injEq] at same
    obtain ⟨position, serving, servingKf, recordAdditive, rate, interval⟩ := same
    obtain ⟨h1, h2, h3, h4, h5, engages, idle⟩ := record b r hr
    rw [(arms b).engaged (by simp [hq]), serving, servingKf, recordAdditive, rate, interval]
    refine ⟨h1, h2, h3, h4, h5, fun i hi => ?_, fun hn => ?_⟩
    · rw [additive]
      exact engages i hi
    · obtain ⟨phase, owed, shot⟩ := idle hn
      exact on.rests phase owed shot

/-- A change beside the arms, the injectors and the recipes. -/
theorem State.dosesHeld.beside (h : s.dosesHeld cal apart)
    (same : (t.arms, t.injectors, t.store.injectors, t.recipes) = (s.arms, s.injectors, s.store.injectors, s.recipes)) :
    t.dosesHeld cal apart := by
  simp only [Prod.mk.injEq] at same
  obtain ⟨arms, injectors, store, recipes⟩ := same
  have arm b : t.arm b = s.arm b := State.arm_congr arms b
  have injector i : t.injector i = s.injector i := State.injector_congr injectors i
  refine h.step (fun b => arm b ▸ Arm.dosesOn_refl _ _) (fun i => by rw [injector]) (fun i => ?_) recipes fun i => ?_
  · rw [show t.injectorStore i = s.injectorStore i from congrArg (fun x => Table.get x i) store]
    rfl
  · simpa only [injector, arm] using h.lit i

/-- One arm changes that keeps its shot in flight, or none is on of its engaged injector. -/
theorem State.dosesHeld.modifyArm_shot {f : Arm → Arm} (h : s.dosesHeld cal apart)
    (on : (s.arm a).dosesOn (f (s.arm a)) (apart a))
    (shot : ∀ i, (s.arm a).engaged = some i → (s.injector i).window.isSome = true →
      ∃ q, (f (s.arm a)).dosing = some q ∧ q.shot.isSome = true) : (s.modifyArm a f).dosesHeld cal apart := by
  refine h.step (fun b => ?_) (fun _ => rfl) (fun _ => rfl) rfl fun i on' => ?_
  · rw [State.arm_modifyArm]
    split
    · next own => exact own ▸ on
    · exact Arm.dosesOn_refl _ _
  · obtain ⟨b, r, hr, engaged, flying⟩ := h.lit i on'
    by_cases own : b = a
    · subst own
      obtain ⟨q, hq, flies⟩ := shot i engaged on'
      refine ⟨b, q, ?_⟩
      rw [State.arm_modifyArm, if_pos rfl, on.engaged (by simp [hq])]
      exact ⟨hq, engaged, flies⟩
    · refine ⟨b, r, ?_⟩
      rw [State.arm_modifyArm, if_neg own]
      exact ⟨hr, engaged, flying⟩

/-- One arm changes that keeps its record as it is. -/
theorem State.dosesHeld.modifyArm {f : Arm → Arm} (h : s.dosesHeld cal apart)
    (on : (s.arm a).dosesOn (f (s.arm a)) (apart a)) (dosing : (f (s.arm a)).dosing = (s.arm a).dosing := by exact rfl) :
    (s.modifyArm a f).dosesHeld cal apart := by
  refine h.modifyArm_shot on fun i engaged window => ?_
  rw [dosing]
  exact h.flying engaged window

/-- A record changes that goes on, and keeps its shot in flight where its engaged injector's solenoid is on. -/
theorem State.dosesHeld.modifyDosing {f : DosingRecord → DosingRecord} (h : s.dosesHeld cal apart)
    (on : ∀ r, (s.arm a).dosing = some r → r.goesOn (f r) ∧ (¬ apart a → r.bounded → (f r).bounded))
    (shot : ∀ r i, (s.arm a).dosing = some r → (s.arm a).engaged = some i → (s.injector i).window.isSome = true →
      r.shot.isSome = true → (f r).shot.isSome = true) : (s.modifyDosing a f).dosesHeld cal apart := by
  refine h.modifyArm_shot ⟨rfl, fun q hq => ?_, fun _ => id, fun _ => (Arm.follows_of rfl rfl rfl rfl).standing⟩
    fun i engaged window => ?_
  · obtain ⟨r, hr, rfl⟩ := Option.map_eq_some_iff.mp hq
    exact ⟨r, hr, on r hr⟩
  · obtain ⟨r, hr, flying⟩ := h.flying engaged window
    exact ⟨f r, by simp [hr], shot r i hr engaged window flying⟩

/-- An injector changes that keeps its standby, its solenoid coming on for a shot in flight only. -/
theorem State.dosesHeld.modifyInjector {f : Injector → Injector} (h : s.dosesHeld cal apart)
    (window : (f (s.injector i)).window.isSome = true → (s.injector i).window.isSome = true ∨
      ∃ a r, (s.arm a).dosing = some r ∧ (s.arm a).engaged = some i ∧ r.shot.isSome = true)
    (standby : (f (s.injector i)).standby = (s.injector i).standby := by exact rfl) :
    (s.modifyInjector i f).dosesHeld cal apart := by
  refine h.step (fun _ => Arm.dosesOn_refl _ _) (fun j => ?_) (fun _ => rfl) rfl fun j on => ?_
  · rw [State.injector_modifyInjector]
    split
    · next own => rw [own, standby]
    · rfl
  · rw [State.injector_modifyInjector] at on
    split at on
    · next own =>
      subst own
      exact (window on).elim (h.lit j) id
    · exact h.lit j on

/-! ### Updates of parts of the state -/

/-- An injector changes beside its standby and its window. -/
theorem State.dosesHeld.countInjector {f : Injector → Injector} (h : s.dosesHeld cal apart)
    (standby : (f (s.injector i)).standby = (s.injector i).standby := by exact rfl)
    (window : (f (s.injector i)).window = (s.injector i).window := by exact rfl) :
    (s.modifyInjector i f).dosesHeld cal apart :=
  h.modifyInjector (fun on => .inl (window ▸ on)) standby

/-- A window stops. -/
theorem State.dosesHeld.stopWindow {f : Injector → Injector} (h : s.dosesHeld cal apart)
    (standby : (f (s.injector i)).standby = (s.injector i).standby := by exact rfl)
    (window : (f (s.injector i)).window = none := by exact rfl) : (s.modifyInjector i f).dosesHeld cal apart :=
  h.modifyInjector (fun on => by simp [window] at on) standby

theorem State.dosesHeld.modifyDecoder {f : Decoder → Decoder} (h : s.dosesHeld cal apart) :
    (s.modifyDecoder a f).dosesHeld cal apart := h.modifyArm (.same rfl)

theorem State.dosesHeld.modifyPort {p : PortId} {f : Port → Port} (h : s.dosesHeld cal apart) :
    (s.modifyPort p f).dosesHeld cal apart := by
  cases p <;> exact h.beside rfl

theorem State.dosesHeld.modifyPermissive {p : Permissive} {f : PermissiveInput → PermissiveInput}
    (h : s.dosesHeld cal apart) : (s.modifyPermissive p f).dosesHeld cal apart := by
  cases p <;> exact h.beside rfl

theorem State.dosesHeld.modifyDeadman {f : Deadman → Deadman} (h : s.dosesHeld cal apart) :
    (s.modifyDeadman f).dosesHeld cal apart := h.beside rfl

theorem State.dosesHeld.restartDeadman (h : s.dosesHeld cal apart) : s.restartDeadman.dosesHeld cal apart := h.beside rfl

theorem State.dosesHeld.modifyOrder {slot : Fin 24} {f : Order → Order} (h : s.dosesHeld cal apart) :
    (s.modifyOrder slot f).dosesHeld cal apart := h.beside rfl

theorem State.dosesHeld.setOrder {slot : Fin 24} {o : Option Order} (h : s.dosesHeld cal apart) :
    (s.setOrder slot o).dosesHeld cal apart := h.beside rfl

theorem State.dosesHeld.endClaim {num : Option Nat} (h : s.dosesHeld cal apart) : (s.endClaim num).dosesHeld cal apart :=
  h.beside rfl

theorem State.dosesHeld.modifyPermit {e : Fin 200} {f : Permit → Permit} (h : s.dosesHeld cal apart) :
    (s.modifyPermit e f).dosesHeld cal apart := h.beside rfl

theorem State.dosesHeld.modifyMeterStore {f : MeterStore → MeterStore} (h : s.dosesHeld cal apart) :
    (s.modifyMeterStore a f).dosesHeld cal apart := h.beside rfl

theorem State.dosesHeld.setSlots {slots : Table 48 JournalSlot} (h : s.dosesHeld cal apart) :
    (s.setSlots slots).dosesHeld cal apart := h.beside rfl

theorem State.dosesHeld.raise {k : NoticeKind} {subject : Nat} (h : s.dosesHeld cal apart) :
    (s.raise k subject).dosesHeld cal apart := h.beside rfl

theorem State.dosesHeld.raiseIf {b : Bool} {k : NoticeKind} {subject : Nat} (h : s.dosesHeld cal apart) :
    (s.raiseIf b k subject).dosesHeld cal apart := by
  cases b
  · exact h
  · exact h.raise

theorem State.dosesHeld.modifyLine {ref : LineRef} {f : Line → Line} (h : s.dosesHeld cal apart) :
    (s.modifyLine ref f).dosesHeld cal apart := h.beside rfl

theorem State.dosesHeld.modifyActiveLine {f : Line → Line} (h : s.dosesHeld cal apart) :
    (s.modifyActiveLine a f).dosesHeld cal apart := by
  unfold State.modifyActiveLine
  split
  · exact h.modifyLine
  · exact h

theorem State.dosesHeld.settleDeadman (h : s.dosesHeld cal apart) : s.settleDeadman.dosesHeld cal apart := by
  rw [State.settleDeadman_eq]
  exact h.beside rfl

theorem State.dosesHeld.compose {o : Order} {cause : CloseCause} (h : s.dosesHeld cal apart) :
    (s.compose o cause).dosesHeld cal apart := by
  unfold State.compose
  split
  · exact h.beside rfl
  · exact h

theorem State.dosesHeld.forArms {f : Fin 6 → State → State} (h : s.dosesHeld cal apart)
    (keeps : ∀ a t, State.dosesHeld t cal apart → (f a t).dosesHeld cal apart) : (s.forArms f).dosesHeld cal apart :=
  State.forArms_keeps h keeps

theorem State.dosesHeld.foldl {α : Type} {f : State → α → State}
    (keeps : ∀ (t : State) x, t.dosesHeld cal apart → (f t x).dosesHeld cal apart) :
    ∀ (l : List α) {s : State}, s.dosesHeld cal apart → (l.foldl f s).dosesHeld cal apart
  | [], _, h => h
  | x :: l, _, h => State.dosesHeld.foldl keeps l (keeps _ x h)

/-! ### Queued starts, and hold causes (R83, R105, R106) -/

theorem State.dosesHeld.dropQueued (h : s.dosesHeld cal apart) : (s.dropQueued a).dosesHeld cal apart := by
  unfold State.dropQueued
  split
  · exact (h.modifyArm (.same rfl)).raise
  · exact h

theorem State.dosesHeld.dropQueuedOf {num : Nat} (h : s.dosesHeld cal apart) :
    (s.dropQueuedOf num).dosesHeld cal apart := by
  refine h.forArms fun a t ht => ?_
  split
  · split
    · exact ht.dropQueued
    · exact ht
  · exact ht

/-- A cause raised for an arm moves neither its positions nor its record. -/
theorem Arm.withCause_doses (x : Arm) (c : HoldCause) :
    ((x.withCause c).setup.positions, (x.withCause c).dosing) = (x.setup.positions, x.dosing) := by
  unfold Arm.withCause
  split
  · split <;> rfl
  · rfl

theorem State.dosesHeld.raiseHold {c : HoldCause} (h : s.dosesHeld cal apart) : (s.raiseHold a c).dosesHeld cal apart := by
  have same := (s.arm a).withCause_doses c
  have held : (s.modifyArm a (fun x => x.withCause c)).dosesHeld cal apart :=
    h.modifyArm (((s.arm a).follows_withCause c).dosesOn same) (congrArg Prod.snd same)
  obtain ⟨raised, -⟩ := s.raiseHold_heldBy a c
  rw [raised]
  exact held.beside rfl

theorem State.dosesHeld.clearHold {c : HoldCause} (h : s.dosesHeld cal apart) : (s.clearHold a c).dosesHeld cal apart := by
  have follows := (s.steady_clearHold a c).lines.arms a
  rw [State.clearHold, State.arm_modifyArm, if_pos rfl] at follows
  exact h.modifyArm (follows.dosesOn rfl)

end Sys2Proof.Machine
end

section
/-! The dosing unit's invariants through the dosing events: accrual, shots, retries, takeover, and a line's end (R130 to R142). -/

namespace Sys2Proof.Machine

/-! ### What the formulas of a record leave (R131, R140) -/

theorem DosingRecord.settleOnce_frame (r : DosingRecord) :
    r.settleOnce = { r with accumulator := r.settleOnce.accumulator, owed := r.settleOnce.owed } := by
  unfold DosingRecord.settleOnce
  split <;> rfl

/-- Settling moves the accumulator and the owed count alone. -/
theorem DosingRecord.settle_frame (r : DosingRecord) :
    r.settle = { r with accumulator := r.settle.accumulator, owed := r.settle.owed } := by
  unfold DosingRecord.settle
  rw [r.settleOnce.settleOnce.settleOnce_frame, r.settleOnce.settleOnce_frame, r.settleOnce_frame]

/-- A turn of settling finds nothing to settle, or raises the owed count. -/
theorem DosingRecord.settleOnce_or (r : DosingRecord) :
    (r.owed < 3 → r.accumulator < r.interval) ∧ r.settleOnce = r ∨ r.settleOnce.owed = r.owed + 1 := by
  unfold DosingRecord.settleOnce
  split
  · exact .inr rfl
  · next done => exact .inl ⟨fun few => by omega, rfl⟩

/-- Three turns suffice: a settled record is below its interval, or owes three shots (R131). -/
theorem DosingRecord.settle_stops (r : DosingRecord) (few : r.settle.owed < 3) :
    r.settle.accumulator < r.settle.interval := by
  unfold DosingRecord.settle at *
  rcases r.settleOnce_or with ⟨done, same⟩ | first
  · simp only [same] at *
    exact done few
  · rcases r.settleOnce.settleOnce_or with ⟨done, same⟩ | second
    · simp only [same] at *
      exact done few
    · rcases r.settleOnce.settleOnce.settleOnce_or with ⟨done, same⟩ | third
      · simp only [same] at *
        exact done few
      · omega

theorem DosingRecord.settleOnce_owed {r : DosingRecord} (h : r.owed ≤ 3) : r.settleOnce.owed ≤ 3 := by
  unfold DosingRecord.settleOnce
  split
  · next turns => exact turns.2
  · exact h

theorem DosingRecord.settleOnce_empty {r : DosingRecord} (h : r.accumulator = 0) : r.settleOnce.accumulator = 0 := by
  unfold DosingRecord.settleOnce
  split
  · exact (Nat.sub_le _ _).trans_eq h |> Nat.le_zero.mp
  · exact h

/-- A settled record is bounded (R131). -/
theorem DosingRecord.settle_bounded {r : DosingRecord} (owed : r.owed ≤ 3) (idle : r.phase ≠ .accruing → r.accumulator = 0) :
    r.settle.bounded := by
  refine ⟨?_, fun few => .inl (r.settle_stops few), fun past => ?_⟩
  · exact DosingRecord.settleOnce_owed (DosingRecord.settleOnce_owed (DosingRecord.settleOnce_owed owed))
  · rw [r.settle_frame] at past
    exact DosingRecord.settleOnce_empty (DosingRecord.settleOnce_empty (DosingRecord.settleOnce_empty (idle past)))

/-- A record that settles goes on, where it is not DISENGAGED. -/
theorem DosingRecord.goesOn.settle {r q : DosingRecord} (h : r.goesOn q) (live : r.phase ≠ .disengaged) : r.goesOn q.settle := by
  rw [q.settle_frame]
  exact ⟨h.same, fun c => absurd c live⟩

theorem DosingRecord.finish_bounded {r : DosingRecord} (h : r.bounded) : r.finish.bounded := by
  obtain ⟨owed, -, -⟩ := h
  refine ⟨?_, fun _ => ?_, fun _ => rfl⟩
  · simp only [DosingRecord.finish]
    split <;> omega
  · exact (Nat.eq_zero_or_pos r.interval).symm

variable {s t : State} {cal : Prop} {apart : Fin 6 → Prop} {a : Fin 6} {i : Fin 8}

/-! ### Judgements, and shots (R133 to R137) -/

theorem State.dosesHeld.judgeOverspeed (h : s.dosesHeld cal apart) : (s.judgeOverspeed a).dosesHeld cal apart := by
  unfold State.judgeOverspeed
  split
  · split
    · refine State.dosesHeld.raiseHold ?_
      split
      · exact h.countInjector
      · exact h
    · exact h
  · exact h

theorem State.dosesHeld.judgeReducedFlow (h : s.dosesHeld cal apart) : (s.judgeReducedFlow a).dosesHeld cal apart := by
  unfold State.judgeReducedFlow
  split
  · split
    · exact h.modifyArm (.same rfl)
    · split
      · exact (h.modifyArm (.same rfl)).raise
      · exact h
  · exact h

theorem State.dosesHeld.judgeAdditiveClear (h : s.dosesHeld cal apart) : (s.judgeAdditiveClear a).dosesHeld cal apart := by
  unfold State.judgeAdditiveClear
  split
  · split
    · exact h.clearHold
    · exact h
  · exact h

theorem State.dosesHeld.judgeDosing (h : s.dosesHeld cal apart) : (s.judgeDosing a).dosesHeld cal apart :=
  h.judgeOverspeed.judgeReducedFlow.judgeAdditiveClear

/-- A shot's window starts once the record of its injector has the shot in flight. -/
theorem State.dosesHeld.fire {f : DosingRecord → DosingRecord} {ms : Nat} (h : (s.modifyDosing a f).dosesHeld cal apart)
    {r : DosingRecord} (dosed : (s.arm a).dosing = some r) (engaged : (s.arm a).engaged = some i)
    (position : (f r).position = r.position) (shot : (f r).shot.isSome = true) :
    ((s.modifyDosing a f).modifyInjector i (fun x => { x with window := some ms })).dosesHeld cal apart := by
  have arm : (s.modifyDosing a f).arm a = { s.arm a with dosing := some (f r) } := by
    rw [State.modifyDosing, State.arm_modifyArm, if_pos rfl, dosed]
    rfl
  refine h.modifyInjector fun _ => .inr ⟨a, f r, by rw [arm], ?_, shot⟩
  rw [Arm.engaged, dosed] at engaged
  rw [arm, Arm.engaged, Option.bind_some, position]
  exact engaged

theorem State.dosesHeld.issueShot (h : s.dosesHeld cal apart) : (s.issueShot a).dosesHeld cal apart := by
  unfold State.issueShot
  split
  · next r i dosed engaged =>
    split
    · next issues =>
      refine State.dosesHeld.fire (h.modifyDosing (fun q hq => ?_) fun q _ _ _ _ _ => ?_) dosed engaged ?_ ?_
      · cases dosed.symm.trans hq
        refine ⟨DosingRecord.goesOn.settle ⟨rfl, fun c => absurd c issues.1⟩ issues.1, fun _ bounded => ?_⟩
        obtain ⟨owed, -, empty⟩ := bounded
        exact DosingRecord.settle_bounded (r := { r with owed := r.owed - 1, shot := some ⟨0, false⟩ })
          ((Nat.sub_le _ _).trans owed) empty
      · rw [DosingRecord.settle_frame]
        rfl
      · rw [DosingRecord.settle_frame]
      · rw [DosingRecord.settle_frame]
        rfl
    · exact h
  · exact h

/-- A record whose budget, shot, feedback or mark of a late pulse changes goes on, where it is not DISENGAGED or keeps its
shot. -/
theorem DosingRecord.goesOn.shot {r q : DosingRecord}
    (same : (q.position, q.serving, q.servingKf, q.additive, q.rate, q.interval, q.phase, q.owed) =
      (r.position, r.serving, r.servingKf, r.additive, r.rate, r.interval, r.phase, r.owed))
    (rests : r.phase = .disengaged → r.shot = none → q.shot = none) : r.goesOn q := by
  simp only [Prod.mk.injEq] at same
  obtain ⟨position, serving, servingKf, additive, rate, interval, phase, owed⟩ := same
  exact ⟨by simp only [position, serving, servingKf, additive, rate, interval],
    fun c d e => ⟨phase.trans c, owed.trans d, rests c e⟩⟩

/-- A good shot of the engaged injector: its window stops before its shot is over. -/
theorem State.dosesHeld.shotGood {r : DosingRecord} {retry : Bool} (h : s.dosesHeld cal apart)
    (engaged : (s.arm a).engaged = some i) : (s.shotGood a i r retry).dosesHeld cal apart := by
  refine State.dosesHeld.judgeDosing (State.dosesHeld.issueShot
    (h.stopWindow.modifyDosing (fun q _ => ⟨.shot rfl fun _ _ => rfl, fun _ => id⟩) fun q j _ engaged' on _ => ?_))
  cases engaged.symm.trans engaged'
  rw [State.injector_modifyInjector, if_pos rfl] at on
  cases on

theorem State.dosesHeld.feedbackPulse (h : s.dosesHeld cal apart) (engaged : (s.arm a).engaged = some i) :
    (s.feedbackPulse a i).dosesHeld cal apart := by
  have counted := h.modifyDosing (a := a) (f := fun r => { r with
      feedback := r.feedback + 1, shot := r.shot.map (fun x => { x with feedback := x.feedback + 1 }) })
    (fun q _ => ⟨.shot rfl fun _ none => by simp [none], fun _ => id⟩) fun q _ _ _ _ shot => by simpa using shot
  have engaged' : ((s.modifyDosing a (fun r => { r with
      feedback := r.feedback + 1, shot := r.shot.map (fun x => { x with feedback := x.feedback + 1 }) })).arm a).engaged =
        some i := by
    obtain ⟨r, dosed, position⟩ := Arm.engaged_position engaged
    simp [State.modifyDosing, Arm.engaged, dosed, position]
  unfold State.feedbackPulse
  dsimp only
  split
  · split
    · split
      · exact counted.shotGood engaged'
      · exact counted.countInjector
    · exact counted
  · exact counted

/-- The late pulse of an injector that failed counts to the feedback (R145). -/
theorem State.dosesHeld.latePulse (h : s.dosesHeld cal apart) :
    (s.modifyDosing a (fun r => { r with feedback := r.feedback + 1, late := none })).dosesHeld cal apart :=
  h.modifyDosing (fun _ _ => ⟨.shot rfl fun _ => id, fun _ => id⟩) fun _ _ _ _ _ => id

/-- A fresh attempt at a shot in flight. -/
theorem State.dosesHeld.retryShot {r : DosingRecord} (h : s.dosesHeld cal apart) (dosed : (s.arm a).dosing = some r)
    (engaged : (s.arm a).engaged = some i) (flying : r.shot.isSome = true) : (s.retryShot a i).dosesHeld cal apart := by
  refine State.dosesHeld.judgeDosing (State.dosesHeld.fire (h.modifyDosing (fun q hq => ?_) fun _ _ _ _ _ _ => rfl) dosed
    engaged rfl rfl)
  cases dosed.symm.trans hq
  exact ⟨.shot rfl fun _ none => by simp [none] at flying, fun _ => id⟩

/-! ### The dosing of a line (R132, R140 to R142) -/

theorem State.dosesHeld.serveDosing {gross : Nat} (h : s.dosesHeld cal apart) :
    (s.serveDosing a gross).dosesHeld cal apart := by
  unfold State.serveDosing
  split
  · refine State.dosesHeld.judgeDosing (State.dosesHeld.issueShot (h.modifyDosing (fun r _ => ?_) fun r _ _ _ _ shot => ?_))
    · split
      · next accrues =>
        refine ⟨DosingRecord.goesOn.settle ⟨rfl, fun c => by simp [accrues] at c⟩ (by simp [accrues]), fun _ bounded => ?_⟩
        exact DosingRecord.settle_bounded (r := { r with accumulator := r.accumulator + gross }) bounded.1
          fun past => absurd accrues past
      · exact ⟨r.goesOn_refl, fun _ => id⟩
    · split
      · rw [DosingRecord.settle_frame]
        exact shot
      · exact shot
  · exact h

theorem State.dosesHeld.finishDosing (h : s.dosesHeld cal apart) : (s.finishDosing a).dosesHeld cal apart := by
  unfold State.finishDosing
  split
  · next r dosed =>
    split
    · next accrues =>
      refine State.dosesHeld.judgeDosing (State.dosesHeld.issueShot (h.modifyArm_shot ⟨rfl, fun q hq => ?_, fun _ => id,
        fun _ => (Arm.follows_of rfl rfl rfl rfl).standing⟩ fun i engaged window => ?_))
      · cases hq
        exact ⟨r, dosed, ⟨rfl, fun c => by simp [accrues] at c⟩, fun _ => DosingRecord.finish_bounded⟩
      · obtain ⟨q, hq, flying⟩ := h.flying engaged window
        cases dosed.symm.trans hq
        exact ⟨_, rfl, flying⟩
    · exact h
  · exact h

theorem State.modifyActiveLine_injectors (s : State) (a : Fin 6) (f : Line → Line) :
    (s.modifyActiveLine a f).injectors = s.injectors := by
  unfold State.modifyActiveLine
  split <;> rfl

/-- The window of an arm's engaged injector stops. -/
theorem State.dosesHeld.idleEngaged (h : s.dosesHeld cal apart) : (s.idleEngaged a).dosesHeld cal apart := by
  unfold State.idleEngaged
  cases (s.arm a).engaged with
  | none => exact h
  | some i => exact h.stopWindow (i := i) (f := fun x => { x with window := none })

theorem State.idleEngaged_closed {s : State} {a : Fin 6} {i : Fin 8} (engaged : (s.arm a).engaged = some i) :
    ((s.idleEngaged a).injector i).window = none := by
  rw [State.injector_idleEngaged, if_pos engaged]
  rfl

/-- An arm changes whose engaged injector is IDLE. -/
theorem State.dosesHeld.modifyIdle {f : Arm → Arm} (h : s.dosesHeld cal apart)
    (idle : ∀ i, (s.arm a).engaged = some i → (s.injector i).window = none)
    (on : (s.arm a).dosesOn (f (s.arm a)) (apart a)) : (s.modifyArm a f).dosesHeld cal apart :=
  h.modifyArm_shot on fun i engaged window => by simp [idle i engaged] at window

/-- The shots of an arm apart are abandoned. -/
theorem State.dosesHeld.abandonDosing (h : s.dosesHeld cal apart) (own : apart a) :
    (s.abandonDosing a).dosesHeld cal apart := by
  rw [State.abandonDosing_eq]
  refine h.idleEngaged.modifyIdle (fun i => State.idleEngaged_closed (s := s)) ⟨rfl, fun q hq => ?_, fun _ => id, fun c => absurd own c⟩
  obtain ⟨r, hr, rfl⟩ := Option.map_eq_some_iff.mp hq
  exact ⟨r, hr, ⟨rfl, fun phase _ _ => ⟨phase, rfl, rfl⟩⟩, fun c => absurd own c⟩

theorem DosingRecord.halted_bounded (r : DosingRecord) : r.halted.bounded :=
  ⟨Nat.zero_le _, fun _ => (Nat.eq_zero_or_pos r.interval).symm, fun _ => rfl⟩

theorem State.dosesHeld.stopDosing (h : s.dosesHeld cal apart) (own : ¬ apart a) : (s.stopDosing a).dosesHeld cal apart := by
  rw [State.stopDosing_eq fun r hr => h.bounded a r own hr]
  refine h.idleEngaged.modifyIdle (fun i => State.idleEngaged_closed (s := s)) ⟨rfl, fun q hq => ?_, fun _ => id, fun _ => (Arm.follows_of rfl rfl rfl rfl).standing⟩
  obtain ⟨r, hr, rfl⟩ := Option.map_eq_some_iff.mp hq
  refine ⟨r, hr, ⟨rfl, fun phase _ _ => ⟨?_, rfl, rfl⟩⟩, fun _ _ => r.halted_bounded⟩
  simp [DosingRecord.halted, phase]

/-- An arm whose record is discarded. -/
theorem Arm.dosesOn_undosed {x y : Arm} {apart : Prop} (positions : y.setup.positions = x.setup.positions)
    (dosing : y.dosing = none) (standing : ¬ apart → x.standing → y.standing) : x.dosesOn y apart :=
  ⟨positions, fun q hq => by simp [dosing] at hq, fun some => by simp [dosing] at some, standing⟩

/-- A line's additive quantities are fixed, its injector being IDLE, and its record is discarded (R142). -/
theorem State.dosesHeld.fixDosing {quiet : Bool} (h : s.dosesHeld cal apart) : (s.fixDosing a quiet).dosesHeld cal apart := by
  cases dosing : (s.arm a).dosing with
  | none =>
    unfold State.fixDosing
    rw [dosing]
    exact h
  | some r =>
    rw [State.fixDosing_of dosing]
    refine State.dosesHeld.raiseIf (h.idleEngaged.modifyActiveLine.modifyIdle (fun i engaged => ?_)
      (Arm.dosesOn_undosed rfl rfl fun _ => (Arm.follows_of rfl rfl rfl rfl).standing))
    rw [State.arm_congr (State.modifyActiveLine_arms _ a _)] at engaged
    rw [State.injector_congr (State.modifyActiveLine_injectors _ a _)]
    exact State.idleEngaged_closed engaged

end Sys2Proof.Machine
end

section
/-! An injector fails: its standby takes over its position and its record, or the record is DISENGAGED (R137 to R139). -/

namespace Sys2Proof.Machine

/-! ### The state that a failure leaves -/

/-- The record that the standby `i`, calibrated so, takes over (R138). -/
def DosingRecord.takenOver (r : DosingRecord) (i : Fin 8) (cal : InjectorStore) : DosingRecord :=
  { r with
    dosedBefore := r.dosedBefore + r.feedback * 1000000 / r.servingKf
    feedback := 0
    serving := i
    servingKf := cal.kFactor
    interval := dosingInterval cal.shotSize r.rate
    target := shotTarget cal.shotSize cal.kFactor
    budget := 2
    shot := none }

/-- The record that no standby takes over (R139). -/
def DosingRecord.givenUp (r : DosingRecord) : DosingRecord :=
  { r with phase := .disengaged, owed := 0, accumulator := 0, shot := none }

/-- The injector `j` has failed that served arm `a`: `x` stands in its position, and the arm's record is `q` (R137 to R139). -/
def State.replaced (s : State) (a : Fin 6) (j : Fin 8) (x : Option (Fin 8)) (q : DosingRecord) : State :=
  { s with
    injectors := s.injectors.modify j (fun y => { y with
      standby := none, window := none, stats := { y.stats with failed := min 65535 (y.stats.failed + 1) } })
    store := { s.store with injectors := s.store.injectors.modify j (fun y => { y with failed := true }) }
    arms := s.arms.modify a (fun y => { y with
      setup := { y.setup with positions := y.setup.positions.set q.position x }, dosing := some q }) }

variable {s t : State} {cal : Prop} {apart : Fin 6 → Prop} {a : Fin 6} {i j : Fin 8} {r : DosingRecord}

theorem State.arm_replaced (s : State) (a b : Fin 6) (j : Fin 8) (x : Option (Fin 8)) (q : DosingRecord) :
    (s.replaced a j x q).arm b = if b = a then { s.arm b with
      setup := { (s.arm b).setup with positions := (s.arm b).setup.positions.set q.position x }, dosing := some q }
    else s.arm b := s.arms.get_modify a b _

theorem State.injector_replaced (s : State) (a : Fin 6) (i j : Fin 8) (x : Option (Fin 8)) (q : DosingRecord) :
    (s.replaced a j x q).injector i = if i = j then { s.injector i with
      standby := none, window := none
      stats := { (s.injector i).stats with failed := min 65535 ((s.injector i).stats.failed + 1) } }
    else s.injector i := s.injectors.get_modify j i _

theorem State.injectorStore_replaced (s : State) (a : Fin 6) (i j : Fin 8) (x : Option (Fin 8)) (q : DosingRecord) :
    (s.replaced a j x q).injectorStore i =
      if i = j then { s.injectorStore i with failed := true } else s.injectorStore i := s.store.injectors.get_modify j i _

/-- The store keeps an injector's calibration as the injector fails. -/
theorem State.failing_calibration (s : State) (i j : Fin 8) :
    (((s.modifyInjectorStore j (fun y => { y with failed := true })).injectorStore i).kFactor,
      ((s.modifyInjectorStore j (fun y => { y with failed := true })).injectorStore i).shotSize) =
      ((s.injectorStore i).kFactor, (s.injectorStore i).shotSize) := by
  rw [State.injectorStore_modifyInjectorStore]
  split <;> rfl

/-- The third failure with a standby: it takes over, flags the line, and issues what is then owed (R138). -/
theorem State.injectorFails_takeOver (standby : (s.injector j).standby = some i) :
    s.injectorFails a r j =
      (((((s.replaced a j (some i) (({ r with late := r.lateFor j } : DosingRecord).takenOver i (s.injectorStore i)).settle).raise
        .injectorFailed (number j)).modifyActiveLine a (fun l =>
          { l with flags := { l.flags with standbyUsed := true } })).issueShot a).judgeDosing a) := by
  have calibration := s.failing_calibration i j
  simp only [Prod.mk.injEq] at calibration
  obtain ⟨kFactor, shotSize⟩ := calibration
  have position : (({ r with late := r.lateFor j } : DosingRecord).takenOver i (s.injectorStore i)).settle.position =
      r.position := by
    rw [DosingRecord.settle_frame]
    rfl
  rw [State.injectorFails, standby]
  dsimp only
  rw [State.takeOver]
  refine congrArg (fun t : State => ((t.modifyActiveLine a (fun l =>
    { l with flags := { l.flags with standbyUsed := true } })).issueShot a).judgeDosing a) ?_
  simp only [State.replaced, position]
  simp only [← bump16_eq, DosingRecord.takenOver, ← kFactor, ← shotSize]
  rw [← Table.modify_modify s.injectors j (fun x =>
      { x with window := none, stats := { x.stats with failed := bump16 x.stats.failed } }) (fun x => { x with standby := none })]
  rfl

/-- An injector without a standby keeps none as it fails. -/
theorem State.failed_alone (standby : (s.injector j).standby = none) :
    s.injectors.modify j (fun x =>
      { x with window := none, stats := { x.stats with failed := min 65535 (x.stats.failed + 1) } }) =
      s.injectors.modify j (fun x => { x with
        standby := none, window := none, stats := { x.stats with failed := min 65535 (x.stats.failed + 1) } }) := by
  rw [Table.modify_eq_set, Table.modify_eq_set]
  congr 1
  unfold State.injector at standby
  rw [← standby]

/-- The third failure without one: the record is given up, and ADDITIVE is raised (R139). -/
theorem State.injectorFails_disengage (standby : (s.injector j).standby = none) :
    s.injectorFails a r j =
      (((s.replaced a j none ({ r with late := r.lateFor j } : DosingRecord).givenUp).raise .injectorFailed
        (number j)).raiseHold a .additive).judgeReducedFlow a := by
  rw [State.injectorFails, standby]
  refine congrArg (fun t : State => (t.raiseHold a .additive).judgeReducedFlow a) ?_
  rw [State.replaced, ← s.failed_alone standby]
  simp only [← bump16_eq]
  rfl

/-! ### The invariants of that state -/

theorem State.position_replaced (s : State) (a b : Fin 6) (p : Fin 2) (j : Fin 8) (x : Option (Fin 8)) (q : DosingRecord) :
    ((s.replaced a j x q).arm b).setup.positions.get p =
      if b = a ∧ p = q.position then x else (s.arm b).setup.positions.get p := by
  rw [State.arm_replaced]
  by_cases own : b = a
  · rw [if_pos own]
    by_cases here : p = q.position
    · simp [own, here]
    · simp [own, here, Table.get_set_ne]
  · simp [own]

theorem State.standby_replaced (s : State) (a : Fin 6) (k j : Fin 8) (x : Option (Fin 8)) (q : DosingRecord) :
    ((s.replaced a j x q).injector k).standby = if k = j then none else (s.injector k).standby := by
  rw [State.injector_replaced]
  split <;> rfl

theorem State.failed_replaced (s : State) (a : Fin 6) (k j : Fin 8) (x : Option (Fin 8)) (q : DosingRecord) :
    ((s.replaced a j x q).injectorStore k).failed = true ↔ k = j ∨ (s.injectorStore k).failed = true := by
  rw [State.injectorStore_replaced]
  split <;> simp [*]

theorem State.additive_replaced (s : State) (a : Fin 6) (k j : Fin 8) (x : Option (Fin 8)) (q : DosingRecord) :
    ((s.replaced a j x q).injectorStore k).additive = (s.injectorStore k).additive := by
  rw [State.injectorStore_replaced]
  split <;> rfl

theorem State.shotSize_replaced (s : State) (a : Fin 6) (k j : Fin 8) (x : Option (Fin 8)) (q : DosingRecord) :
    ((s.replaced a j x q).injectorStore k).shotSize = (s.injectorStore k).shotSize := by
  rw [State.injectorStore_replaced]
  split <;> rfl

theorem State.kFactor_replaced (s : State) (a : Fin 6) (k j : Fin 8) (x : Option (Fin 8)) (q : DosingRecord) :
    ((s.replaced a j x q).injectorStore k).kFactor = (s.injectorStore k).kFactor := by
  rw [State.injectorStore_replaced]
  split <;> rfl

/-- What stands in a position after the failure: the standby in the failed injector's, and in the others what stood there. -/
theorem State.rolesKept.stands_replaced {q : DosingRecord} (h : s.rolesKept) {x : Option (Fin 8)}
    (place : (s.arm a).setup.positions.get q.position = some j) {b : Fin 6} {p : Fin 2} {k : Fin 8}
    (at_ : ((s.replaced a j x q).arm b).setup.positions.get p = some k) :
    (b = a ∧ p = q.position ∧ x = some k) ∨ ((s.arm b).setup.positions.get p = some k ∧ k ≠ j) := by
  rw [State.position_replaced] at at_
  split at at_
  · next own => exact .inl ⟨own.1, own.2, at_⟩
  · next other =>
    refine .inr ⟨at_, fun own => other ?_⟩
    subst own
    exact h.1 _ _ _ _ k at_ place

/-- Roles agree after the failure of an engaged injector, its standby standing in its position (R137 to R139). -/
theorem State.rolesKept.replaced {q : DosingRecord} (h : s.rolesKept)
    (place : (s.arm a).setup.positions.get q.position = some j) (engaged : (s.arm a).engaged = some j) :
    (s.replaced a j (s.injector j).standby q).rolesKept := by
  have stands {b p k} := State.rolesKept.stands_replaced (b := b) (p := p) (k := k) h (x := (s.injector j).standby) place
  obtain ⟨unique, pairs, out, lit⟩ := h
  refine ⟨fun b p c p' k hb hc => ?_, fun k i hk => ?_, fun k hk => ?_, fun k on => ?_⟩
  · rcases stands hb with ⟨rfl, rfl, first⟩ | ⟨sb, -⟩ <;> rcases stands hc with ⟨rfl, rfl, second⟩ | ⟨sc, -⟩
    · exact ⟨rfl, rfl⟩
    · obtain ⟨-, nowhere, -⟩ := pairs j k first
      exact absurd sc (nowhere _ _)
    · obtain ⟨-, nowhere, -⟩ := pairs j k second
      exact absurd sb (nowhere _ _)
    · exact unique _ _ _ _ k sb sc
  · rw [State.standby_replaced] at hk
    split at hk
    · cases hk
    · next other =>
      obtain ⟨⟨b, p, hp⟩, nowhere, only, additive⟩ := pairs k i hk
      refine ⟨⟨b, p, ?_⟩, fun c p' hc => ?_, fun l hl => ?_, ?_⟩
      · rw [State.position_replaced, if_neg, hp]
        rintro ⟨rfl, rfl⟩
        exact other (Option.some.inj (hp.symm.trans place))
      · rcases stands hc with ⟨-, -, own⟩ | ⟨hc, -⟩
        · exact other (only j own).symm
        · exact nowhere _ _ hc
      · rw [State.standby_replaced] at hl
        split at hl
        · cases hl
        · exact only l hl
      · rw [State.additive_replaced, State.additive_replaced, additive]
  · rw [State.failed_replaced] at hk
    refine ⟨fun b p hp => ?_, fun l hl => ?_⟩
    · rcases stands hp with ⟨-, -, own⟩ | ⟨hp, other⟩
      · obtain ⟨-, nowhere, -⟩ := pairs j k own
        exact hk.elim (fun same => nowhere _ _ (same ▸ place)) fun failed => (out k failed).2 j own
      · exact hk.elim other fun failed => (out k failed).1 _ _ hp
    · rw [State.standby_replaced] at hl
      split at hl
      · cases hl
      · obtain ⟨-, nowhere, -⟩ := pairs l k hl
        exact hk.elim (fun same => nowhere _ _ (same ▸ place)) fun failed => (out k failed).2 l hl
  · rw [State.injector_replaced] at on
    split at on
    · cases on
    · next other =>
      obtain ⟨b, r, hr, engaged', flying⟩ := lit k on
      refine ⟨b, r, ?_⟩
      rw [State.arm_replaced, if_neg]
      · exact ⟨hr, engaged', flying⟩
      · rintro rfl
        exact other (Option.some.inj (engaged'.symm.trans engaged))

theorem State.engaged_replaced (s : State) (a : Fin 6) (j : Fin 8) (x : Option (Fin 8)) (q : DosingRecord) :
    ((s.replaced a j x q).arm a).engaged = x := by
  rw [State.arm_replaced, if_pos rfl]
  simp [Arm.engaged]

theorem State.dosing_replaced (s : State) (a b : Fin 6) (j : Fin 8) (x : Option (Fin 8)) (q : DosingRecord) :
    ((s.replaced a j x q).arm b).dosing = if b = a then some q else (s.arm b).dosing := by
  rw [State.arm_replaced]
  split <;> rfl

/-- Values stay calibrated through a failure (R138, R139): the standby serves the record `q` with its own, or `q` rests. -/
theorem State.dosesCalibrated.replaced {q : DosingRecord} (h : s.dosesCalibrated) (roles : s.rolesKept)
    (dosed : (s.arm a).dosing = some r) (engaged : (s.arm a).engaged = some j)
    (same : (q.additive, q.rate) = (r.additive, r.rate))
    (serves : ∀ i, (s.injector j).standby = some i → (q.serving, q.servingKf, q.interval) =
      (i, (s.injectorStore i).kFactor, dosingInterval (s.injectorStore i).shotSize r.rate))
    (rests : (s.injector j).standby = none → (q.phase, q.owed, q.shot, q.servingKf, q.interval) =
      (.disengaged, 0, none, r.servingKf, r.interval)) :
    (s.replaced a j (s.injector j).standby q).dosesCalibrated := by
  simp only [Prod.mk.injEq] at same serves rests
  obtain ⟨recordAdditive, rate⟩ := same
  obtain ⟨recipe, item, record⟩ := h
  refine ⟨recipe, ?_, fun b q' hq' => ?_⟩
  · simpa only [State.additive_replaced, State.shotSize_replaced, State.kFactor_replaced] using item
  · simp only [State.additive_replaced]
    rw [State.dosing_replaced] at hq'
    split at hq'
    · next own =>
      subst own
      cases hq'
      obtain ⟨h1, h2, h3, h4, h5, engages, -⟩ := record b r dosed
      obtain ⟨-, recordAdditive'⟩ := engages j engaged
      rw [State.engaged_replaced, recordAdditive, rate]
      cases standby : (s.injector j).standby with
      | none =>
        obtain ⟨phase, owed, shot, kf, interval⟩ := rests standby
        rw [kf, interval]
        exact ⟨h1, h2, h3, h4, h5, nofun, fun _ => ⟨phase, owed, shot⟩⟩
      | some i =>
        obtain ⟨serving, kf, interval⟩ := serves i standby
        obtain ⟨-, pairs, -⟩ := roles
        obtain ⟨-, -, -, additive⟩ := pairs j i standby
        obtain ⟨shotSize, kFactor⟩ := item i (by omega)
        rw [kf, interval, serving]
        refine ⟨h1, h2, h3, ?_, kFactor, fun k hk => ?_, nofun⟩
        · rw [dosingInterval, Nat.le_div_iff_mul_le (by omega)]
          omega
        · cases hk
          exact ⟨rfl, additive.trans recordAdditive'⟩
    · next other =>
      rw [State.arm_replaced, if_neg other]
      exact record b q' hq'

/-- The dosing unit after the failure of the engaged injector of arm `a` (R137 to R139). -/
theorem State.dosesHeld.replaced {q : DosingRecord} (h : s.dosesHeld cal apart) (dosed : (s.arm a).dosing = some r)
    (engaged : (s.arm a).engaged = some j) (same : (q.position, q.additive, q.rate) = (r.position, r.additive, r.rate))
    (bounded : r.bounded → q.bounded)
    (serves : ∀ i, (s.injector j).standby = some i → (q.serving, q.servingKf, q.interval) =
      (i, (s.injectorStore i).kFactor, dosingInterval (s.injectorStore i).shotSize r.rate))
    (rests : (s.injector j).standby = none → (q.phase, q.owed, q.shot, q.servingKf, q.interval) =
      (.disengaged, 0, none, r.servingKf, r.interval)) :
    (s.replaced a j (s.injector j).standby q).dosesHeld cal apart := by
  have place : (s.arm a).setup.positions.get q.position = some j := by
    rw [Arm.engaged, dosed] at engaged
    rw [show q.position = r.position from congrArg Prod.fst same]
    exact engaged
  refine ⟨fun b hb => ?_, fun b q' hb hq' => ?_, fun b q' hq' => ?_, h.roles.replaced place engaged, fun c =>
    (h.calibrated c).replaced h.roles dosed engaged (congrArg Prod.snd same) serves rests⟩
  · rw [State.arm_replaced]
    split
    · exact (Arm.follows_of rfl rfl rfl rfl).standing (h.stands b hb)
    · exact h.stands b hb
  · rw [State.dosing_replaced] at hq'
    split at hq'
    · next own =>
      cases hq'
      subst own
      exact bounded (h.bounded b r hb dosed)
    · exact h.bounded b q' hb hq'
  · rw [State.arm_replaced]
    rw [State.dosing_replaced] at hq'
    split
    · next own =>
      subst own
      exact h.carried b r dosed
    · next other =>
      rw [if_neg other] at hq'
      exact h.carried b q' hq'

theorem DosingRecord.takenOver_settle_bounded {x : InjectorStore} (h : r.bounded) : (r.takenOver i x).settle.bounded :=
  DosingRecord.settle_bounded (r := r.takenOver i x) h.1 h.2.2

theorem DosingRecord.givenUp_bounded (r : DosingRecord) : r.givenUp.bounded :=
  ⟨Nat.zero_le _, fun _ => (Nat.eq_zero_or_pos r.interval).symm, fun _ => rfl⟩

theorem State.dosesHeld.injectorFails (h : s.dosesHeld cal apart) (dosed : (s.arm a).dosing = some r)
    (engaged : (s.arm a).engaged = some j) : (s.injectorFails a r j).dosesHeld cal apart := by
  cases standby : (s.injector j).standby with
  | none =>
    rw [State.injectorFails_disengage standby, ← standby]
    have failed := h.replaced (q := ({ r with late := r.lateFor j } : DosingRecord).givenUp) dosed engaged rfl
      (fun _ => DosingRecord.givenUp_bounded _) (fun i hi => by cases standby.symm.trans hi) fun _ => rfl
    exact failed.raise.raiseHold.judgeReducedFlow
  | some i =>
    rw [State.injectorFails_takeOver standby, ← standby]
    refine State.dosesHeld.judgeDosing (State.dosesHeld.issueShot (State.dosesHeld.modifyActiveLine (State.dosesHeld.raise
      (h.replaced dosed engaged ?_ (fun bounded => ?_) (fun k hk => ?_) fun hn => ?_))))
    · rw [DosingRecord.settle_frame]
      rfl
    · exact DosingRecord.takenOver_settle_bounded (r := { r with late := r.lateFor j }) bounded
    · cases standby.symm.trans hk
      rw [DosingRecord.settle_frame]
      rfl
    · cases standby.symm.trans hn

theorem State.dosesHeld.windowExpires (h : s.dosesHeld cal apart) : (s.windowExpires j).dosesHeld cal apart := by
  unfold State.windowExpires
  split
  · exact h.countInjector
  · split
    · exact h
    · next a found =>
      have engaged : (s.arm a).engaged = some j := by simpa using List.find?_some found
      split
      · exact h
      · next r dosed =>
        split
        · next flying =>
          split
          · exact h.retryShot dosed engaged flying.2
          · exact h.injectorFails dosed engaged
        · exact h

end Sys2Proof.Machine
end

section
/-! The dosing unit's invariants through the decoder, the probes, the permissives and the stop, and a line's start and end. -/

namespace Sys2Proof.Machine

variable {s t : State} {cal : Prop} {apart : Fin 6 → Prop} {a : Fin 6} {i : Fin 8}

/-! ### The pulse decoder (03) -/

theorem State.dosesHeld.judgeAllowance (h : s.dosesHeld cal apart) : (s.judgeAllowance a).dosesHeld cal apart := by
  unfold State.judgeAllowance
  dsimp only
  split
  · exact h.modifyDecoder.raiseHold
  · exact h

theorem State.dosesHeld.judgeMisses {lost : Channel} (h : s.dosesHeld cal apart) :
    (s.judgeMisses a lost).dosesHeld cal apart := by
  unfold State.judgeMisses
  split
  · exact h.modifyDecoder.modifyActiveLine
  · exact h

theorem State.dosesHeld.meterEdge {c : Channel} (h : s.dosesHeld cal apart) : (s.meterEdge a c).dosesHeld cal apart := by
  unfold State.meterEdge
  dsimp only
  split
  · exact h
  · split
    · exact h.modifyDecoder
    · split
      · exact h.modifyDecoder
      · split
        · exact h.modifyDecoder.judgeAllowance.judgeMisses
        · exact h.modifyDecoder

/-! ### Probes (04) -/

theorem State.dosesHeld.probeActs {e : ProbeEvent} (h : s.dosesHeld cal apart) : (s.probeActs a e).dosesHeld cal apart := by
  cases e
  case none => exact h
  case failed => exact h.raise.raiseHold
  case recovered => exact h.clearHold

theorem State.dosesHeld.judgeProbe {timedOut : Bool} (h : s.dosesHeld cal apart) :
    (s.judgeProbe a timedOut).dosesHeld cal apart := by
  have judged : ∀ probes, State.dosesHeld { s with probes := probes } cal apart := fun _ => h.beside rfl
  exact (judged _).probeActs

theorem State.dosesHeld.endGate {timedOut : Bool} (h : s.dosesHeld cal apart) : (s.endGate timedOut).dosesHeld cal apart := by
  have begun : State.dosesHeld { s with gate := Gate.cold } cal apart := h.beside rfl
  exact begun.forArms fun _ _ ht => ht.judgeProbe

/-! ### Permissives, stop and deadman (06) -/

theorem State.dosesHeld.losePermissive {p : Permissive} (h : s.dosesHeld cal apart) :
    (s.losePermissive p).dosesHeld cal apart := by
  cases level : (s.permissive p).level with
  | false =>
    rw [State.losePermissive, level, if_neg nofun]
    exact h
  | true =>
    cases recognized : (s.permissive p).recognized with
    | lost =>
      rw [State.losePermissive_lost level recognized]
      exact h.modifyPermissive
    | present =>
      rw [State.losePermissive_present level recognized]
      have lost : (s.modifyPermissive p (fun _ => ⟨false, .lost, none⟩)).dosesHeld cal apart := h.modifyPermissive
      exact (lost.forArms (f := fun a t => t.raiseHold a (permissiveCause p)) fun _ _ ht => ht.raiseHold).raise

theorem State.dosesHeld.returnPermissive {p : Permissive} (h : s.dosesHeld cal apart) :
    (s.returnPermissive p).dosesHeld cal apart := by
  unfold State.returnPermissive
  dsimp only
  split
  · exact h
  · exact h.modifyPermissive

theorem State.dosesHeld.restorePermissive {p : Permissive} (h : s.dosesHeld cal apart) :
    (s.restorePermissive p).dosesHeld cal apart := by
  unfold State.restorePermissive
  split
  · exact h.modifyPermissive.forArms fun _ _ ht => ht.clearHold
  · exact h

theorem State.dosesHeld.stopReleased (h : s.dosesHeld cal apart) : s.stopReleased.dosesHeld cal apart := by
  unfold State.stopReleased
  split
  · exact h.beside rfl
  · exact h

theorem State.dosesHeld.stopTimeout (h : s.dosesHeld cal apart) : s.stopTimeout.dosesHeld cal apart := by
  unfold State.stopTimeout
  split
  · exact h.beside rfl
  · exact h

theorem State.dosesHeld.warnDeadman (h : s.dosesHeld cal apart) : s.warnDeadman.dosesHeld cal apart := by
  unfold State.warnDeadman
  split
  · exact h.beside rfl
  · exact h

theorem State.dosesHeld.expireDeadman (h : s.dosesHeld cal apart) : s.expireDeadman.dosesHeld cal apart := by
  unfold State.expireDeadman
  split
  · refine State.dosesHeld.modifyDeadman (h.forArms fun a t ht => ?_)
    split
    · exact ht.raiseHold
    · exact ht
  · exact h

theorem State.dosesHeld.deadmanButton {pressed : Bool} (h : s.dosesHeld cal apart) :
    (s.deadmanButton pressed).dosesHeld cal apart := by
  have moved : (s.modifyDeadman (fun d => { d with pressed := pressed })).dosesHeld cal apart := h.modifyDeadman
  unfold State.deadmanButton State.pressDeadman
  dsimp only
  split
  · split
    · exact (moved.forArms fun _ _ ht => ht.clearHold).modifyDeadman
    · exact moved.forArms fun _ _ ht => ht.clearHold
  · exact moved

/-! ### One millisecond -/

theorem Arm.dosesOn_elapse (x : Arm) (apart : Prop) : x.dosesOn x.elapse apart := by
  refine ⟨rfl, fun q hq => ?_, fun _ => id, fun _ => (Arm.follows_of rfl rfl rfl rfl).standing⟩
  obtain ⟨r, hr, rfl⟩ := Option.map_eq_some_iff.mp hq
  exact ⟨r, hr, .shot rfl fun _ => id, fun _ => id⟩

theorem State.dosesHeld.elapse (h : s.dosesHeld cal apart) : s.elapse.dosesHeld cal apart := by
  refine h.step (fun b => ?_) (fun k => ?_) (fun _ => rfl) rfl fun k on => ?_
  · rw [State.arm_elapse]
    exact Arm.dosesOn_elapse _ _
  · rw [State.injector_elapse]
    rfl
  · rw [State.injector_elapse] at on
    obtain ⟨b, r, hr, engaged, flying⟩ := h.lit k (by simpa [Injector.elapse, Machine.elapse] using on)
    refine ⟨b, { r with late := none }, ?_, ?_, flying⟩
    · simp [Arm.elapse, hr]
    · rw [State.arm_elapse, (Arm.dosesOn_elapse _ True).engaged (by simp [Arm.elapse, hr])]
      exact engaged

/-! ### Orders (02) -/

theorem State.dosesHeld.closeQuietly {slot : Fin 24} {cause : CloseCause} (h : s.dosesHeld cal apart) :
    (s.closeQuietly slot cause).dosesHeld cal apart := by
  unfold State.closeQuietly
  split
  · exact h.compose.endClaim.dropQueuedOf.setOrder
  · exact h

theorem State.dosesHeld.closeOrder {slot : Fin 24} {cause : CloseCause} (h : s.dosesHeld cal apart) :
    (s.closeOrder slot cause).dosesHeld cal apart := by
  unfold State.closeOrder
  split
  · exact h.closeQuietly.raise.raise
  · exact h

theorem State.dosesHeld.judgeOrder {slot : Fin 24} (h : s.dosesHeld cal apart) :
    (s.judgeOrder slot).dosesHeld cal apart := by
  cases ho : s.order slot with
  | none =>
    simp only [State.judgeOrder, ho]
    exact h
  | some o =>
    rcases State.judgeOrder_cases ho with ⟨-, -, e⟩ | ⟨-, -, e⟩ | ⟨-, -, -, e⟩ | ⟨-, -, e⟩ <;> rw [e]
    · exact h.closeOrder
    · exact h.closeOrder
    · exact h.modifyOrder
    · exact h

/-! ### The close command, and the end of a line (R89, R92) -/

theorem Arm.dosesOn_closeForLineEnd (x : Arm) (apart : Prop) :
    x.dosesOn x.closeForLineEnd apart ∧ x.closeForLineEnd.dosing = x.dosing := by
  have same : (x.closeForLineEnd.setup.positions, x.closeForLineEnd.dosing) = (x.setup.positions, x.dosing) := by
    unfold Arm.closeForLineEnd
    split <;> rfl
  exact ⟨Arm.dosesOn_of same (fun c => x.closeForLineEnd_active ▸ c) fun c => (Arm.closeForLineEnd_stands c).1,
    congrArg Prod.snd same⟩

theorem State.dosesHeld.closeForLineEnd {r : LineResult} {f : LineFlags → LineFlags} (h : s.dosesHeld cal apart) :
    (s.closeForLineEnd a r f).dosesHeld cal apart := by
  have told : ((s.modifyActiveLine a (fun l => { l with result := some r, flags := f l.flags })).modifyArm a
      (fun x => { x with noFlowTimer := none, suspendTimer := none })).dosesHeld cal apart :=
    h.modifyActiveLine.modifyArm (.same rfl)
  obtain ⟨on, same⟩ := Arm.dosesOn_closeForLineEnd (((s.modifyActiveLine a (fun l =>
    { l with result := some r, flags := f l.flags })).modifyArm a
      (fun x => { x with noFlowTimer := none, suspendTimer := none })).finishDosing a |>.arm a) (apart a)
  exact (told.finishDosing.modifyArm on same).settleDeadman

theorem State.dosesHeld.decideOverrun (h : s.dosesHeld cal apart) : (s.decideOverrun a).dosesHeld cal apart := by
  unfold State.decideOverrun
  split
  · exact h
  · exact h.modifyActiveLine.modifyArm (.same rfl)

theorem State.dosesHeld.fixLine {quiet : Bool} (h : s.dosesHeld cal apart) : (s.fixLine a quiet).dosesHeld cal apart :=
  h.modifyActiveLine.fixDosing.decideOverrun

theorem State.dosing_fixDosing (s : State) (a : Fin 6) (quiet : Bool) : ((s.fixDosing a quiet).arm a).dosing = none := by
  cases dosing : (s.arm a).dosing with
  | none =>
    unfold State.fixDosing
    rw [dosing]
    exact dosing
  | some r =>
    have raiseIf_arm (u : State) (b : Bool) (k : NoticeKind) (subject : Nat) :
        (u.raiseIf b k subject).arm a = u.arm a := by cases b <;> rfl
    rw [State.fixDosing_of dosing, raiseIf_arm, State.arm_modifyArm, if_pos rfl]

/-- A line's end discards its record (R142). -/
theorem State.dosing_fixLine (s : State) (a : Fin 6) (quiet : Bool) : ((s.fixLine a quiet).arm a).dosing = none := by
  have undosed := (s.modifyActiveLine a (fun l =>
    { l with record := { l.record with atEnd := some (s.readings a) } })).dosing_fixDosing a quiet
  unfold State.fixLine State.decideOverrun
  dsimp only
  split
  · exact undosed
  · rw [State.arm_modifyArm, if_pos rfl, State.arm_congr (State.modifyActiveLine_arms _ a _)]
    exact undosed

/-- The line of an arm apart ceases to be active. -/
theorem State.dosesHeld.releaseLine (h : s.dosesHeld cal apart) (own : apart a) (undosed : (s.arm a).dosing = none) :
    (s.modifyArm a Arm.releaseLine).dosesHeld cal apart :=
  h.modifyArm (Arm.dosesOn_undosed rfl rfl fun c => absurd own c) undosed.symm

theorem State.dosesHeld.finishLine (h : s.dosesHeld cal apart) (own : apart a) :
    (s.finishLine a).dosesHeld cal apart := by
  unfold State.finishLine
  split
  · exact h
  · exact (h.fixLine.modifyLine.releaseLine own (s.dosing_fixLine a false)).raise.judgeOrder

/-- A bare arm that was apart goes IDLE or LOCKED. -/
theorem State.dosesHeld.rest {f : Arm → Arm} (h : s.dosesHeld cal (fun b => apart b ∨ b = a)) (bare : (s.arm a).bare)
    (same : ((f (s.arm a)).setup.positions, (f (s.arm a)).dosing, (f (s.arm a)).active, (f (s.arm a)).holds) =
      ((s.arm a).setup.positions, (s.arm a).dosing, (s.arm a).active, (s.arm a).holds) := by exact rfl)
    (state : (f (s.arm a)).state = .idle ∨ (f (s.arm a)).state = .locked)
    (reason : (f (s.arm a)).reason = none := by exact rfl) : (s.modifyArm a f).dosesHeld cal apart := by
  simp only [Prod.mk.injEq] at same
  obtain ⟨positions, dosing, active, holds⟩ := same
  obtain ⟨free, clear⟩ := bare
  have undosed := h.undosed free
  refine State.dosesHeld.join (h.modifyArm ⟨positions, fun q hq => ?_, fun _ c => active ▸ c, fun c => absurd (.inr rfl) c⟩
    dosing) ?_ fun r hr => ?_
  · rw [dosing, undosed] at hq
    cases hq
  · rw [State.arm_modifyArm, if_pos rfl]
    refine ⟨?_, ?_, fun held => absurd (holds.trans clear) held⟩
    · rcases state with e | e <;> simp [active, free, e]
    · rcases state with e | e <;> simp [reason, e]
  · rw [State.arm_modifyArm, if_pos rfl, dosing, undosed] at hr
    cases hr

theorem State.dosesHeld.endSuspended {r : LineResult} {f : LineFlags → LineFlags} (h : s.dosesHeld cal apart)
    (own : ¬ apart a) : (s.endSuspended a r f).dosesHeld cal apart := by
  have recorded : (s.modifyActiveLine a (fun l => { l with result := some r, flags := f l.flags })).dosesHeld cal
    apart := h.modifyActiveLine
  have abandoned := State.dosesHeld.abandonDosing (a := a) (recorded.part (more := fun b => apart b ∨ b = a)
    fun _ => .inl) (.inr rfl)
  refine (abandoned.finishLine (.inr rfl)).rest (State.finishLine_bare ?_) (state := .inl rfl)
  exact ((State.steady_abandonDosing _ a).lines.arms a).standing (recorded.stands a own)

/-! ### A line's start (R81, R82, R84, R130) -/

/-- The injector that a line's start engages stands in its position, and has the additive wanted (R130). -/
theorem State.positionServing_serves {additive : Nat} {p : Fin 2} (h : s.positionServing a additive = some (p, i)) :
    (s.arm a).setup.positions.get p = some i ∧ (s.injectorStore i).additive = additive := by
  obtain ⟨q, -, hq⟩ := List.exists_of_findSome?_eq_some h
  obtain ⟨j, place, serves⟩ := Option.bind_eq_some_iff.mp hq
  split at serves
  · next served =>
    cases serves
    simp only [State.serves, Bool.and_eq_true, beq_iff_eq] at served
    exact ⟨place, served.2⟩
  · cases serves

/-- A record opens on an arm that has none: roles agree as before, no shot of that arm being in flight. -/
theorem State.rolesKept.opens {r : DosingRecord} (h : s.rolesKept) (undosed : (s.arm a).dosing = none) :
    (s.modifyArm a (fun x => { x with dosing := some r })).rolesKept := by
  have positions b : ((s.modifyArm a (fun x => { x with dosing := some r })).arm b).setup.positions =
      (s.arm b).setup.positions := by
    rw [State.arm_modifyArm]
    split <;> rfl
  obtain ⟨unique, pairs, out, lit⟩ := h
  refine ⟨by simpa only [positions] using unique, by simp only [positions]; exact pairs, by simp only [positions]; exact out,
    fun i on => ?_⟩
  obtain ⟨b, q, hq, engaged, flying⟩ := lit i on
  refine ⟨b, q, ?_⟩
  rw [State.arm_modifyArm, if_neg]
  · exact ⟨hq, engaged, flying⟩
  · rintro rfl
    cases undosed.symm.trans hq

/-- The record opened for a calibrated recipe and a calibrated injector of its additive is calibrated (R130). -/
theorem State.dosesCalibrated.opens {x : Recipe} {p : Fin 2} (h : s.dosesCalibrated) {k : Fin 16}
    (recipe : s.recipes.get k = some x) (serves : s.positionServing a x.additive = some (p, i)) :
    (s.modifyArm a (fun y => { y with dosing := some (DosingRecord.opened x p i (s.injectorStore i)) })).dosesCalibrated := by
  obtain ⟨recipes, item, record⟩ := h
  obtain ⟨place, additive⟩ := State.positionServing_serves serves
  obtain ⟨wanted, least, most⟩ := recipes k x recipe
  obtain ⟨shotSize, kFactor⟩ := item i (by omega)
  refine ⟨recipes, item, fun b q hq => ?_⟩
  rw [State.arm_modifyArm] at hq ⊢
  split
  · next own =>
    subst own
    rw [if_pos rfl] at hq
    cases hq
    have engaged : Arm.engaged { s.arm b with dosing := some (DosingRecord.opened x p i (s.injectorStore i)) } = some i := place
    rw [engaged]
    refine ⟨wanted, least, most, ?_, kFactor, fun j hj => ?_, nofun⟩
    · show 2000 ≤ dosingInterval (s.injectorStore i).shotSize x.rate
      rw [dosingInterval, Nat.le_div_iff_mul_le (by omega)]
      omega
    · cases hj
      exact ⟨rfl, additive⟩
  · next other =>
    rw [if_neg other] at hq
    exact record b q hq

theorem DosingRecord.opened_bounded (x : Recipe) (p : Fin 2) (i : Fin 8) (y : InjectorStore) :
    (DosingRecord.opened x p i y).bounded :=
  ⟨Nat.zero_le _, fun _ => (Nat.eq_zero_or_pos _).symm, fun _ => rfl⟩

theorem State.dosesHeld.openDosing {recipe : Option (Fin 16)} (h : s.dosesHeld cal apart)
    (undosed : (s.arm a).dosing = none) (active : (s.arm a).active.isSome = true) :
    (s.openDosing a recipe).dosesHeld cal apart := by
  unfold State.openDosing
  split
  · exact h
  · next x hx =>
    obtain ⟨k, -, recipe⟩ := Option.bind_eq_some_iff.mp hx
    split
    · exact h
    · next p i serves =>
      refine ⟨fun b hb => ?_, fun b q hb hq => ?_, fun b q hq => ?_, h.roles.opens undosed,
        fun c => (h.calibrated c).opens recipe serves⟩
      · rw [State.arm_modifyArm]
        split
        · exact (Arm.follows_of rfl rfl rfl rfl).standing (h.stands b hb)
        · exact h.stands b hb
      · rw [State.arm_modifyArm] at hq
        split at hq
        · cases hq
          exact DosingRecord.opened_bounded x p i _
        · exact h.bounded b q hb hq
      · rw [State.arm_modifyArm] at hq ⊢
        split
        · next own => exact own ▸ active
        · next other =>
          rw [if_neg other] at hq
          exact h.carried b q hq

/-- A bare arm that was apart takes its line. -/
theorem State.dosesHeld.startArm {ref : LineRef} {trial : Option Nat} (h : s.dosesHeld cal (fun b => apart b ∨ b = a))
    (bare : (s.arm a).bare) : (s.modifyArm a (fun x => x.startLine ref trial)).dosesHeld cal apart := by
  have undosed := h.undosed bare.1
  refine State.dosesHeld.join (h.modifyArm ⟨rfl, fun q hq => ?_, fun _ _ => rfl, fun c => absurd (.inr rfl) c⟩) ?_
    fun r hr => ?_
  · cases undosed.symm.trans hq
  · rw [State.arm_modifyArm, if_pos rfl]
    exact ⟨by simp [Arm.startLine], by simp [Arm.startLine], fun held => absurd bare.2 held⟩
  · rw [State.arm_modifyArm, if_pos rfl] at hr
    cases undosed.symm.trans hr

theorem State.dosesHeld.beginLine {slot : Fin 24} {k : Nat} (h : s.dosesHeld cal (fun b => apart b ∨ b = a))
    (bare : (s.arm a).bare) : (s.beginLine a slot k).dosesHeld cal apart := by
  have undosed := h.undosed bare.1
  have placed (f : Order → Order) (g : MeterStore → MeterStore) :
      ((s.modifyOrder slot f).modifyMeterStore a g).dosesHeld cal (fun b => apart b ∨ b = a) :=
    h.modifyOrder.modifyMeterStore
  refine State.dosesHeld.restartDeadman (State.dosesHeld.openDosing ((placed _ _).startArm bare) ?_ ?_)
  · rw [State.arm_modifyArm, if_pos rfl]
    exact undosed
  · rw [State.arm_modifyArm, if_pos rfl]
    rfl

/-- A bare arm that was apart goes IDLE, or its queued start begins (R84). -/
theorem State.dosesHeld.recheckQueued (h : s.dosesHeld cal (fun b => apart b ∨ b = a)) (bare : (s.arm a).bare) :
    (s.recheckQueued a).dosesHeld cal apart := by
  have dropped : ((s.dropQueued a).modifyArm a Arm.goIdle).dosesHeld cal apart :=
    h.dropQueued.rest ((s.loadsSame_dropQueued a).bare bare) (state := .inl rfl)
  unfold State.recheckQueued
  split
  · exact h.rest bare (state := .inl rfl)
  · split
    · split
      · exact dropped
      · refine State.dosesHeld.beginLine (h.modifyArm (.same rfl)) ?_
        rw [State.arm_modifyArm, if_pos rfl]
        exact bare
    · exact dropped

/-- A line's end on an arm, and the re-check of the queued start (R84, R92). -/
theorem State.dosesHeld.completeClose (h : s.dosesHeld cal apart) (own : ¬ apart a) :
    ((s.finishLine a).recheckQueued a).dosesHeld cal apart :=
  ((h.part fun _ => .inl).finishLine (.inr rfl)).recheckQueued (State.finishLine_bare (h.stands a own))

/-! ### The metering sample (R85, R86, R91, R96, R98) -/

theorem State.dosesHeld.judgeFlow {pulses : Nat} (h : s.dosesHeld cal apart) :
    (s.judgeFlow a pulses).dosesHeld cal apart := by
  unfold State.judgeFlow
  split
  · exact h
  · next l _ =>
    split
    · exact h.closeForLineEnd
    · split
      · next flows =>
        exact h.modifyArm (Arm.follows.dosesOn (y := (s.arm a).staged l.remaining pulses)
          (Arm.follows_flowing flows (Arm.stage_flowing flows _) rfl rfl rfl) rfl)
      · exact h

theorem State.dosesHeld.leakDetected (h : s.dosesHeld cal apart) (own : ¬ apart a) :
    (s.leakDetected a).dosesHeld cal apart := by
  have flagged : (s.modifyActiveLine a (fun l =>
    { l with result := some (l.result.getD .aborted), flags := { l.flags with leak := true } })).dosesHeld cal apart :=
    h.modifyActiveLine
  have abandoned := State.dosesHeld.abandonDosing (a := a) (flagged.part (more := fun b => apart b ∨ b = a)
    fun _ => .inl) (.inr rfl)
  have finished := (abandoned.finishLine (a := a) (.inr rfl)).dropQueued (a := a)
  refine State.dosesHeld.raise (finished.rest ?_ (state := .inr rfl))
  refine (State.loadsSame_dropQueued _ a).bare (State.finishLine_bare ?_)
  exact ((State.steady_abandonDosing _ a).lines.arms a).standing (flagged.stands a own)

theorem State.dosesHeld.judgeClose {pulses : Nat} (h : s.dosesHeld cal apart) (own : ¬ apart a) :
    (s.judgeClose a pulses).dosesHeld cal apart := by
  unfold State.judgeClose
  dsimp only
  split
  · exact h.leakDetected own
  · split
    · next closes =>
      split
      · exact h.completeClose own
      · next reason =>
        have follows := (State.steady_suspend closes.1 reason).lines.arms a
        rw [State.suspend, State.arm_congr (State.raise_arms _ _ _), State.arm_modifyArm, if_pos rfl] at follows
        exact (h.modifyArm (follows.dosesOn rfl)).raise
      · exact h
    · exact h

theorem State.dosesHeld.sample (h : s.dosesHeld cal apart) (own : ¬ apart a) : (s.sample a).dosesHeld cal apart := by
  have metered : (s.meterSample a (s.sampleOf a)).dosesHeld cal apart :=
    (State.dosesHeld.modifyMeterStore (h.modifyArm (.same rfl))).modifyActiveLine
  unfold State.sample
  dsimp only
  split
  · exact (State.dosesHeld.judgeFlow (metered.serveDosing.modifyArm (.same rfl))).judgeClose own
  · unfold State.straySample State.addStray
    dsimp only
    split
    · exact State.dosesHeld.raise (State.dosesHeld.modifyArm (metered.modifyArm (.same rfl)) (.same rfl))
    · exact State.dosesHeld.modifyArm (metered.modifyArm (.same rfl)) (.same rfl)

end Sys2Proof.Machine
end

section
/-! The dosing unit's invariants through the requests that place and pair injectors, and write recipes and calibrations. -/

namespace Sys2Proof.Machine

variable {s t : State} {cal : Prop} {apart : Fin 6 → Prop} {a : Fin 6} {p : Fin 2} {i j : Fin 8}

/-- A change beside the arms that keeps roles and calibrations. -/
theorem State.dosesHeld.besideArms (h : s.dosesHeld cal apart) (arms : t.arms = s.arms) (roles : t.rolesKept)
    (calibrated : s.dosesCalibrated → t.dosesCalibrated) : t.dosesHeld cal apart := by
  have arm b : t.arm b = s.arm b := State.arm_congr arms b
  exact ⟨fun b hb => arm b ▸ h.stands b hb, fun b r hb hr => h.bounded b r hb (arm b ▸ hr),
    fun b r hr => arm b ▸ h.carried b r (arm b ▸ hr), roles, fun c => calibrated (h.calibrated c)⟩

/-! ### ASSIGN INJECTOR and REMOVE INJECTOR (R125, R126) -/

/-- Position `p` of arm `a` holds `x`, and the injector `i` has no standby. -/
def State.placed (s : State) (a : Fin 6) (p : Fin 2) (x : Option (Fin 8)) (i : Fin 8) : State :=
  (s.setPosition a p x).modifyInjector i (fun y => { y with standby := none })

theorem State.arm_placed (s : State) (a b : Fin 6) (p : Fin 2) (x : Option (Fin 8)) (i : Fin 8) :
    (s.placed a p x i).arm b = if b = a then
      { s.arm b with setup := { (s.arm b).setup with positions := (s.arm b).setup.positions.set p x } }
    else s.arm b := s.arms.get_modify a b _

theorem State.position_placed (s : State) (a b : Fin 6) (p q : Fin 2) (x : Option (Fin 8)) (i : Fin 8) :
    ((s.placed a p x i).arm b).setup.positions.get q =
      if b = a ∧ q = p then x else (s.arm b).setup.positions.get q := by
  rw [State.arm_placed]
  by_cases own : b = a
  · by_cases here : q = p
    · simp [own, here]
    · simp [own, here, Table.get_set_ne]
  · simp [own]

theorem State.injector_placed (s : State) (a : Fin 6) (p : Fin 2) (x : Option (Fin 8)) (i k : Fin 8) :
    (s.placed a p x i).injector k =
      if k = i then { s.injector k with standby := none } else s.injector k := s.injectors.get_modify i k _

/-- Roles agree where an unassigned injector takes a free position, or leaves its own. -/
theorem State.rolesKept.placed {x : Option (Fin 8)} (h : s.rolesKept)
    (leaves : ∀ k, (s.arm a).setup.positions.get p = some k → k = i)
    (comes : ∀ k, x = some k → k = i ∧ s.unassigned i ∧ (s.injectorStore i).failed = false)
    (undosed : (s.arm a).dosing = none) : (s.placed a p x i).rolesKept := by
  obtain ⟨unique, pairs, out, lit⟩ := h
  have stands {b q k} (at_ : ((s.placed a p x i).arm b).setup.positions.get q = some k) :
      (b = a ∧ q = p ∧ x = some k) ∨ (s.arm b).setup.positions.get q = some k := by
    rw [State.position_placed] at at_
    split at at_
    · next own => exact .inl ⟨own.1, own.2, at_⟩
    · exact .inr at_
  have names {k l} (hk : ((s.placed a p x i).injector k).standby = some l) : k ≠ i ∧ (s.injector k).standby = some l := by
    rw [State.injector_placed] at hk
    split at hk
    · cases hk
    · next other => exact ⟨other, hk⟩
  refine ⟨fun b q c r k hb hc => ?_, fun k l hk => ?_, fun k failed => ?_, fun k on => ?_⟩
  · rcases stands hb with ⟨rfl, rfl, first⟩ | sb <;> rcases stands hc with ⟨rfl, rfl, second⟩ | sc
    · exact ⟨rfl, rfl⟩
    · obtain ⟨rfl, ⟨nowhere, -⟩, -⟩ := comes k first
      exact absurd sc (nowhere _ _)
    · obtain ⟨rfl, ⟨nowhere, -⟩, -⟩ := comes k second
      exact absurd sb (nowhere _ _)
    · exact unique _ _ _ _ k sb sc
  · obtain ⟨other, named⟩ := names hk
    obtain ⟨⟨b, q, hq⟩, nowhere, only, additive⟩ := pairs k l named
    refine ⟨⟨b, q, ?_⟩, fun c r hc => ?_, fun m hm => only m (names hm).2, additive⟩
    · rw [State.position_placed, if_neg, hq]
      rintro ⟨rfl, rfl⟩
      exact other (leaves k hq)
    · rcases stands hc with ⟨-, -, own⟩ | hc
      · obtain ⟨rfl, ⟨-, nobody⟩, -⟩ := comes l own
        exact nobody k named
      · exact nowhere _ _ hc
  · obtain ⟨nowhere, nobody⟩ := out k failed
    refine ⟨fun b q hb => ?_, fun m hm => nobody m (names hm).2⟩
    rcases stands hb with ⟨-, -, own⟩ | hb
    · obtain ⟨rfl, -, inService⟩ := comes k own
      exact Bool.false_ne_true (inService.symm.trans failed)
    · exact nowhere _ _ hb
  · have on : (s.injector k).window.isSome = true := by
      rw [State.injector_placed] at on
      split at on <;> exact on
    obtain ⟨b, r, hr, engaged, flying⟩ := lit k on
    refine ⟨b, r, ?_⟩
    rw [State.arm_placed, if_neg]
    · exact ⟨hr, engaged, flying⟩
    · rintro rfl
      cases undosed.symm.trans hr

theorem State.dosesHeld.placed {x : Option (Fin 8)} (h : s.dosesHeld cal apart)
    (leaves : ∀ k, (s.arm a).setup.positions.get p = some k → k = i)
    (comes : ∀ k, x = some k → k = i ∧ s.unassigned i ∧ (s.injectorStore i).failed = false)
    (undosed : (s.arm a).dosing = none) : (s.placed a p x i).dosesHeld cal apart := by
  have dosed {b r} (hr : ((s.placed a p x i).arm b).dosing = some r) :
      (s.placed a p x i).arm b = s.arm b := by
    rw [State.arm_placed] at hr ⊢
    split
    · next own =>
      subst own
      rw [if_pos rfl] at hr
      cases undosed.symm.trans hr
    · rfl
  refine ⟨fun b hb => ?_, fun b r hb hr => ?_, fun b r hr => ?_, h.roles.placed leaves comes undosed, fun c => ?_⟩
  · rw [State.arm_placed]
    split
    · exact (Arm.follows_of rfl rfl rfl rfl).standing (h.stands b hb)
    · exact h.stands b hb
  · exact h.bounded b r hb (dosed hr ▸ hr)
  · rw [dosed hr]
    exact h.carried b r (dosed hr ▸ hr)
  · obtain ⟨recipe, item, record⟩ := h.calibrated c
    refine ⟨recipe, item, fun b r hr => ?_⟩
    rw [dosed hr]
    exact record b r (dosed hr ▸ hr)

/-- An IDLE arm has no dosing record. -/
theorem State.dosesHeld.undosed_idle (h : s.dosesHeld cal apart) (own : ¬ apart a) (idle : (s.arm a).state = .idle) :
    (s.arm a).dosing = none := by
  obtain ⟨active, -, -⟩ := h.stands a own
  exact h.undosed (by simpa [idle] using active)

theorem State.dosesHeld.checked {checks : List (Bool × ReplyCode)} {act : Answer} (h : s.dosesHeld cal apart)
    (acts : (∀ c ∈ checks, c.1 = false) → act.1.dosesHeld cal apart) : (s.checked checks act).1.dosesHeld cal apart := by
  unfold State.checked
  split
  · exact h
  · next passes => exact acts fun c hm => by simpa using List.find?_eq_none.mp passes c hm

theorem State.dosesHeld.assignInjector {arm position injector : Nat} (h : s.dosesHeld cal (fun _ => False)) :
    (assignInjector arm position injector s).1.dosesHeld cal (fun _ => False) := by
  unfold Machine.assignInjector
  split
  · next a p i _ _ _ =>
    refine h.checked fun passed => ?_
    simp only [List.forall_mem_cons, Bool.or_eq_false_iff, bne_eq_false_iff_eq, Option.isSome_eq_false_iff,
      Option.isNone_iff_eq_none] at passed
    obtain ⟨idle, ⟨free, role⟩, inService, -⟩ := passed
    refine h.placed (fun k hk => ?_) (fun k hk => ?_) (h.undosed_idle id idle)
    · cases free.symm.trans hk
    · cases hk
      exact ⟨rfl, State.role_unassigned_iff.mp role, inService⟩
  · exact h

theorem State.dosesHeld.removeInjector {arm position : Nat} (h : s.dosesHeld cal (fun _ => False)) :
    (removeInjector arm position s).1.dosesHeld cal (fun _ => False) := by
  unfold Machine.removeInjector
  split
  · next a p _ _ =>
    refine h.checked fun passed => ?_
    have idle : (s.arm a).state = .idle := by simpa using passed ((s.arm a).state != .idle, .armBusy) (by simp)
    split
    · next i place =>
      refine h.placed (fun k hk => ?_) nofun (h.undosed_idle id idle)
      cases place.symm.trans hk
      rfl
    · exact h
  · exact h

/-! ### ASSIGN STANDBY, RELEASE STANDBY and RETURN INJECTOR (R127 to R129) -/

/-- Roles agree where a primary takes an unassigned injector of its additive as its standby, or is left without one. -/
theorem State.rolesKept.paired {x : Option (Fin 8)} (h : s.rolesKept)
    (comes : ∀ i, x = some i → (∃ a p, (s.arm a).setup.positions.get p = some j) ∧ s.unassigned i ∧
      (s.injectorStore i).failed = false ∧ (s.injectorStore i).additive = (s.injectorStore j).additive) :
    (s.modifyInjector j (fun y => { y with standby := x })).rolesKept := by
  obtain ⟨unique, pairs, out, lit⟩ := h
  have names {k l} (hk : ((s.modifyInjector j (fun y => { y with standby := x })).injector k).standby = some l) :
      (k = j ∧ x = some l) ∨ (s.injector k).standby = some l := by
    rw [State.injector_modifyInjector] at hk
    split at hk
    · next own => exact .inl ⟨own, hk⟩
    · exact .inr hk
  refine ⟨unique, fun k l hk => ?_, fun k failed => ?_, fun k on => ?_⟩
  · rcases names hk with ⟨rfl, own⟩ | hk
    · obtain ⟨place, ⟨nowhere, nobody⟩, -, additive⟩ := comes l own
      refine ⟨place, nowhere, fun m hm => ?_, additive⟩
      rcases names hm with ⟨same, -⟩ | hm
      · exact same
      · exact absurd hm (nobody m)
    · obtain ⟨place, nowhere, only, additive⟩ := pairs k l hk
      refine ⟨place, nowhere, fun m hm => ?_, additive⟩
      rcases names hm with ⟨-, own⟩ | hm
      · obtain ⟨-, ⟨-, nobody⟩, -⟩ := comes l own
        exact absurd hk (nobody k)
      · exact only m hm
  · obtain ⟨nowhere, nobody⟩ := out k failed
    refine ⟨nowhere, fun m hm => ?_⟩
    rcases names hm with ⟨-, own⟩ | hm
    · obtain ⟨-, -, inService, -⟩ := comes k own
      exact Bool.false_ne_true (inService.symm.trans failed)
    · exact nobody m hm
  · refine lit k ?_
    rw [State.injector_modifyInjector] at on
    split at on <;> exact on

theorem State.dosesHeld.assignStandby {primary standby : Nat} (h : s.dosesHeld cal apart) :
    (assignStandby primary standby s).1.dosesHeld cal apart := by
  unfold Machine.assignStandby
  split
  · next j i _ _ =>
    refine h.checked fun passed => ?_
    simp only [List.forall_mem_cons, Bool.or_eq_false_iff, bne_eq_false_iff_eq, Bool.not_eq_false', State.isPrimary_iff]
      at passed
    obtain ⟨-, ⟨inService, primary⟩, ⟨role, -⟩, additive, -⟩ := passed
    refine h.besideArms rfl (h.roles.paired fun k hk => ?_) id
    cases hk
    exact ⟨primary, State.role_unassigned_iff.mp role, inService, additive.symm⟩
  · exact h

theorem State.dosesHeld.releaseStandby {injector : Nat} (h : s.dosesHeld cal apart) :
    (releaseStandby injector s).1.dosesHeld cal apart := by
  unfold Machine.releaseStandby
  split
  · exact h
  · split
    · exact h.besideArms rfl (h.roles.paired nofun) id
    · exact h
    · exact h

/-- A FAILED injector returns to service in no role. -/
theorem State.rolesKept.returned (h : s.rolesKept) :
    (s.modifyInjectorStore i (fun x => { x with failed := false })).rolesKept := by
  obtain ⟨unique, pairs, out, lit⟩ := h
  refine ⟨unique, fun k l hk => ?_, fun k failed => out k ?_, lit⟩
  · obtain ⟨place, nowhere, only, additive⟩ := pairs k l hk
    refine ⟨place, nowhere, only, ?_⟩
    rw [State.injectorStore_modifyInjectorStore, State.injectorStore_modifyInjectorStore]
    split <;> split <;> exact additive
  · rw [State.injectorStore_modifyInjectorStore] at failed
    split at failed
    · cases failed
    · exact failed

theorem State.dosesCalibrated.modifyInjectorStore {f : InjectorStore → InjectorStore} (h : s.dosesCalibrated)
    (item : (f (s.injectorStore i)).additive ≠ 0 →
      500 ≤ (f (s.injectorStore i)).shotSize ∧ 100000 ≤ (f (s.injectorStore i)).kFactor)
    (additive : (f (s.injectorStore i)).additive = (s.injectorStore i).additive ∨ ∀ a, (s.arm a).engaged ≠ some i) :
    (s.modifyInjectorStore i f).dosesCalibrated := by
  obtain ⟨recipe, items, record⟩ := h
  refine ⟨recipe, fun k => ?_, fun b r hr => ?_⟩
  · rw [State.injectorStore_modifyInjectorStore]
    split
    · next own => exact own ▸ item
    · exact items k
  · obtain ⟨h1, h2, h3, h4, h5, engages, idle⟩ := record b r hr
    refine ⟨h1, h2, h3, h4, h5, fun k hk => ?_, idle⟩
    obtain ⟨serving, same⟩ := engages k hk
    refine ⟨serving, ?_⟩
    rw [State.injectorStore_modifyInjectorStore]
    split
    · next own =>
      subst own
      exact additive.elim (fun e => e.trans same) fun nobody => absurd hk (nobody b)
    · exact same

theorem State.dosesHeld.returnInjector {injector : Nat} (h : s.dosesHeld cal apart) :
    (returnInjector injector s).1.dosesHeld cal apart := by
  unfold Machine.returnInjector
  split
  · exact h
  · next i _ =>
    refine h.checked fun _ => h.besideArms rfl h.roles.returned fun c => c.modifyInjectorStore ?_ (.inl rfl)
    obtain ⟨-, item, -⟩ := c
    exact item i

/-- A dosing totalizer advances. -/
theorem State.dosesHeld.totalled {f : InjectorStore → DosingTotalizer} (h : s.dosesHeld cal apart) :
    (s.modifyInjectorStore i (fun x => { x with total := f x })).dosesHeld cal apart := by
  refine h.step (fun _ => Arm.dosesOn_refl _ _) (fun _ => rfl) (fun k => ?_) rfl h.lit
  rw [State.injectorStore_modifyInjectorStore]
  split <;> rfl

/-! ### WRITE RECIPE and WRITE CALIBRATION (R122, R150) -/

theorem within_iff {lo hi x : Nat} : within lo hi x = true ↔ lo ≤ x ∧ x ≤ hi := by
  simp [within]

theorem State.dosesHeld.writeRecipe {slot additive rate tolerance : Nat} (h : s.dosesHeld cal apart) :
    (writeRecipe slot additive rate tolerance s).1.dosesHeld cal apart := by
  unfold Machine.writeRecipe
  split
  · exact h
  · next k _ =>
    refine h.checked fun passed => h.besideArms rfl h.roles fun c => ?_
    have inRange := passed _ (List.mem_cons_self ..)
    simp only [Bool.or_eq_false_iff, Bool.not_eq_false', within_iff] at inRange
    obtain ⟨⟨⟨wanted, -⟩, least, most⟩, -⟩ := inRange
    obtain ⟨recipe, item, record⟩ := c
    refine ⟨fun l x hx => ?_, item, record⟩
    have hx : (s.recipes.set k (some ⟨additive, rate, tolerance⟩)).get l = some x := hx
    by_cases own : l = k
    · subst own
      rw [Table.get_set_self] at hx
      cases hx
      exact ⟨wanted, least, most⟩
    · rw [Table.get_set_ne _ _ own] at hx
      exact recipe l x hx

/-- Roles agree where an injector is calibrated that keeps its additive, or is unassigned. -/
theorem State.rolesKept.calibrated {additive shotSize kf : Nat} (h : s.rolesKept)
    (same : additive = (s.injectorStore i).additive ∨ s.unassigned i) :
    (s.modifyInjectorStore i (fun x => { x with additive := additive, shotSize := shotSize, kFactor := kf })).rolesKept := by
  obtain ⟨unique, pairs, out, lit⟩ := h
  refine ⟨unique, fun k l hk => ?_, fun k failed => out k ?_, lit⟩
  · obtain ⟨⟨a, p, place⟩, nowhere, only, shared⟩ := pairs k l hk
    refine ⟨⟨a, p, place⟩, nowhere, only, ?_⟩
    have keeps (m : Fin 8) (assigned : ¬ s.unassigned m) : ((s.modifyInjectorStore i (fun x =>
        { x with additive := additive, shotSize := shotSize, kFactor := kf })).injectorStore m).additive =
          (s.injectorStore m).additive := by
      rw [State.injectorStore_modifyInjectorStore]
      split
      · next own =>
        subst own
        exact same.resolve_right assigned
      · rfl
    rw [keeps l fun ⟨_, nobody⟩ => nobody k hk, keeps k fun ⟨nowhere, _⟩ => nowhere a p place, shared]
  · rw [State.injectorStore_modifyInjectorStore] at failed
    split at failed <;> exact failed

theorem State.dosesHeld.writeInjectorItem {injector additive shotSize kf : Nat} (h : s.dosesHeld cal apart) :
    (writeInjectorItem injector additive shotSize kf s).1.dosesHeld cal apart := by
  unfold Machine.writeInjectorItem
  split
  · exact h.checked fun _ => h
  · next i _ =>
    refine h.checked fun passed => ?_
    have idle := passed ((s.engagedBy i).isSome || (s.injector i).window.isSome, .armBusy) (by simp)
    have inRange := passed (!within 1 255 additive || !within 500 50000 shotSize || !within 100000 9999999 kf
      || (additive != (s.injectorStore i).additive && s.role i != .unassigned), .badField) (by simp)
    simp only [Bool.or_eq_false_iff, Bool.and_eq_false_iff, Bool.not_eq_false', within_iff, bne_eq_false_iff_eq,
      Option.isSome_eq_false_iff, Option.isNone_iff_eq_none, State.role_unassigned_iff] at idle inRange
    obtain ⟨⟨⟨-, shot, -⟩, factor, -⟩, same⟩ := inRange
    have written := h.besideArms (t := s.modifyInjectorStore i (fun x =>
      { x with additive := additive, shotSize := shotSize, kFactor := kf })) rfl (h.roles.calibrated same) fun c =>
        c.modifyInjectorStore (fun _ => ⟨shot, factor⟩) (.inr fun a engaged => ?_)
    · exact written.beside rfl
    · simpa [engaged] using List.find?_eq_none.mp idle.1 a (mem_armList a)

end Sys2Proof.Machine
end

section
/-! The dosing unit's invariants through the other requests, the power failure and the restarts; and along every step. -/

namespace Sys2Proof.Machine

variable {s : State} {cal : Prop} {apart : Fin 6 → Prop} {a : Fin 6}

/-! ### START LINE, END LINE, CANCEL ORDER and the stop (R36, R81, R88, R114) -/

theorem State.dosesHeld.startLine {arm num k : Nat} (h : s.dosesHeld cal (fun _ => False)) :
    (startLine arm num k s).1.dosesHeld cal (fun _ => False) := by
  unfold Machine.startLine
  split
  · exact h
  · next a _ =>
    split
    · exact h
    · split
      · exact h
      · refine h.checked fun _ => ?_
        split
        · next idle =>
          obtain ⟨active, -, -⟩ := h.stands a id
          have free : (s.arm a).active = none := by simpa [idle] using active
          have sampled := h.sample (a := a) id
          have follows := (State.steady_sample_stray free).lines.arms a
          exact (sampled.part fun _ => .inl).beginLine
            (Arm.bare_of_standing (sampled.stands a id) (follows.active.trans free))
        · exact h.modifyArm (.same rfl)

theorem State.dosesHeld.endLine {arm : Nat} (h : s.dosesHeld cal (fun _ => False)) :
    (endLine arm s).1.dosesHeld cal (fun _ => False) := by
  unfold Machine.endLine
  split
  · exact h
  · split
    · exact h
    · exact h
    · exact h
    · exact h.endSuspended id
    · exact h.closeForLineEnd
    · exact h.closeForLineEnd
    · exact h.closeForLineEnd

theorem State.dosesHeld.cancelActive {slot : Fin 24} (h : s.dosesHeld cal apart) :
    (s.cancelActive slot).dosesHeld cal apart := by
  refine h.forArms fun a t ht => ?_
  split
  · split
    · exact ht.closeForLineEnd
    · exact ht
  · exact ht

theorem State.dosesHeld.cancelOrder {num : Nat} (h : s.dosesHeld cal apart) :
    (cancelOrder num s).1.dosesHeld cal apart := by
  unfold Machine.cancelOrder
  split
  · exact h
  · split
    · exact h
    · exact State.dosesHeld.dropQueuedOf h.setOrder
    · exact State.dosesHeld.dropQueuedOf h.endClaim.setOrder
    · split
      · exact State.dosesHeld.modifyOrder (h.cancelActive.modifyOrder.dropQueuedOf)
      · exact h.modifyOrder.closeOrder

theorem State.dosesHeld.stopPressed (h : s.dosesHeld cal (fun _ => False)) :
    s.stopPressed.dosesHeld cal (fun _ => False) := by
  have moved f : (s.modifyStop f).dosesHeld cal (fun _ => False) := h.beside rfl
  have aborted {t : State} (ht : t.dosesHeld cal (fun _ => False)) :
      (t.forArms (fun a t => t.stopLine a)).dosesHeld cal (fun _ => False) := ht.forArms fun a u hu => by
    unfold State.stopLine
    split
    · exact hu.closeForLineEnd
    · exact hu
  unfold State.stopPressed
  split
  · exact h
  · split
    · exact moved _
    · exact ((aborted ((moved _).forArms fun _ _ ht => ht.stopDosing id)).forArms fun _ _ ht => ht.dropQueued).raise

/-! ### The permits and the orders (01, 02) -/

theorem State.dosesHeld.withdrawClaim {slot : Fin 24} (h : s.dosesHeld cal apart) :
    (s.withdrawClaim slot).dosesHeld cal apart := by
  unfold State.withdrawClaim
  split
  · exact h.modifyOrder.endClaim
  · exact h

theorem State.dosesHeld.barClaim {claim : Option (Fin 24)} (h : s.dosesHeld cal apart) :
    (s.barClaim claim).dosesHeld cal apart := by
  unfold State.barClaim
  split
  · exact h
  · split
    · split
      · exact h.withdrawClaim.raise
      · exact h
    · exact h

theorem State.dosesHeld.writePermit {num carrier : Nat} {classes : BitVec 8} {expiry state : Nat}
    (h : s.dosesHeld cal apart) : (writePermit num carrier classes expiry state s).1.dosesHeld cal apart := by
  unfold Machine.writePermit
  split
  · exact h
  · refine h.checked fun _ => ?_
    split
    · refine h.checked fun _ => ?_
      dsimp only [State.ok]
      split
      · exact h.modifyPermit.barClaim
      · exact h.modifyPermit
    · unfold createPermit
      split
      · exact h
      · exact h.beside rfl

theorem State.dosesHeld.barPermit {num : Nat} (h : s.dosesHeld cal apart) :
    (barPermit num s).1.dosesHeld cal apart := by
  unfold Machine.barPermit
  split
  · exact h
  · split
    · exact h.modifyPermit.barClaim
    · exact h

theorem State.dosesHeld.deletePermit {num : Nat} (h : s.dosesHeld cal apart) :
    (deletePermit num s).1.dosesHeld cal apart := by
  unfold Machine.deletePermit
  split
  · exact h
  · exact h.checked fun _ => h.beside rfl

theorem State.dosesHeld.postOrder {num permit carrier tanker : Nat} {lines : List LineSpec}
    (h : s.dosesHeld cal apart) : (postOrder num permit carrier tanker lines s).1.dosesHeld cal apart := by
  refine h.checked fun _ => ?_
  split
  · exact h.setOrder
  · exact h

theorem State.dosesHeld.amendOrder {num permit tanker : Nat} {lines : List LineSpec} (h : s.dosesHeld cal apart) :
    (amendOrder num permit tanker lines s).1.dosesHeld cal apart := by
  unfold Machine.amendOrder
  split
  · exact h
  · exact h.checked fun _ => State.dosesHeld.dropQueuedOf h.setOrder

theorem State.dosesHeld.presentPermit {num tanker order : Nat} (h : s.dosesHeld cal apart) :
    (presentPermit num tanker order s).1.dosesHeld cal apart := by
  unfold Machine.presentPermit
  split
  · exact h
  · split
    · next e p slot o _ _ =>
      refine h.checked fun _ => ?_
      have bound permits f : ({ s.modifyOrder slot f with permits := permits } : State).dosesHeld cal apart := h.beside rfl
      dsimp only [State.ok, State.claimOrder]
      split
      · exact (bound _ _).raise
      · exact bound _ _
    · exact h

theorem State.dosesHeld.releaseClaim {order : Nat} (h : s.dosesHeld cal apart) :
    (releaseClaim order s).1.dosesHeld cal apart := by
  unfold Machine.releaseClaim
  split
  · exact h
  · exact h.checked fun _ => h.withdrawClaim

theorem State.dosesHeld.finishOrder {order : Nat} (h : s.dosesHeld cal apart) :
    (finishOrder order s).1.dosesHeld cal apart := by
  unfold Machine.finishOrder
  split
  · exact h
  · exact h.checked fun _ => h.modifyOrder.closeOrder

/-! ### The tables, holds and arms (02, 05, 06) -/

theorem State.dosesHeld.writeProduct {slot nameLength : Nat} {name : List Byte} {cls coefA coefB : Nat}
    (h : s.dosesHeld cal apart) : (writeProduct slot nameLength name cls coefA coefB s).1.dosesHeld cal apart := by
  unfold Machine.writeProduct
  split
  · exact h
  · exact h.checked fun _ => h.beside rfl

theorem State.dosesHeld.writeArmSetup {arm product lowStart restart topOff overrunLimit : Nat}
    (h : s.dosesHeld cal apart) :
    (writeArmSetup arm product lowStart restart topOff overrunLimit s).1.dosesHeld cal apart := by
  unfold Machine.writeArmSetup
  split
  · exact h
  · exact h.checked fun _ => h.modifyArm (.same rfl)

theorem State.dosesHeld.holdRequest {c : HoldCause} {arm : Nat} (h : s.dosesHeld cal apart) :
    (holdRequest c arm s).1.dosesHeld cal apart := by
  unfold Machine.holdRequest
  split
  · exact h
  · exact h.checked fun _ => h.raiseHold

theorem State.dosesHeld.releaseArm {arm : Nat} (h : s.dosesHeld cal apart) :
    (releaseArm arm s).1.dosesHeld cal apart := by
  unfold Machine.releaseArm
  split
  · exact h
  · exact h.checked fun _ => h.clearHold

theorem State.dosesHeld.resumeArm {arm : Nat} (h : s.dosesHeld cal apart) :
    (resumeArm arm s).1.dosesHeld cal apart := by
  unfold Machine.resumeArm
  split
  · exact h
  · next a _ =>
    refine h.checked fun passed => ?_
    have suspended : (s.arm a).state = .suspended := by
      simpa using passed ((s.arm a).state != .suspended, .wrongState) (by simp)
    have follows := Arm.follows_resume suspended (passed ((s.arm a).holds.blocksResume, .held) (by simp))
    have resumed : (s.modifyArm a Arm.resume).dosesHeld cal apart := h.modifyArm (follows.dosesOn rfl)
    exact resumed.restartDeadman

theorem State.dosesHeld.clearLockout {arm : Nat} (h : s.dosesHeld cal apart) :
    (clearLockout arm s).1.dosesHeld cal apart := by
  unfold Machine.clearLockout
  split
  · exact h
  · next a _ =>
    refine h.checked fun passed => h.modifyArm (Arm.dosesOn_of rfl id fun ⟨active, reason, holds⟩ => ?_)
    have locked : (s.arm a).state = .locked := by
      have first := passed ((s.arm a).state != .locked || decide ((s.arm a).zeroRun < 10), .wrongState) (by simp)
      simpa using (Bool.or_eq_false_iff.mp first).1
    exact ⟨by simpa [locked] using active, by simpa [locked] using reason, by simpa [locked] using holds⟩

/-! ### The calibration store (08) -/

theorem State.dosesHeld.writeMeterItem {arm : Nat} {bad : Bool} {write : MeterStore → MeterStore}
    (h : s.dosesHeld cal apart) : (writeMeterItem arm bad write s).1.dosesHeld cal apart := by
  unfold Machine.writeMeterItem
  split
  · exact h.checked fun _ => h
  · exact h.checked fun _ => h.beside rfl

theorem State.dosesHeld.setSeal {level : Nat} (h : s.dosesHeld cal apart) : (setSeal level s).1.dosesHeld cal apart := by
  unfold Machine.setSeal
  split
  · exact h
  · refine h.checked fun _ => ?_
    dsimp only [State.ok, State.raiseSeal]
    split
    · exact h.beside rfl
    · exact h.beside rfl

theorem State.dosesHeld.writeTrialFactor {arm factor : Nat} (h : s.dosesHeld cal apart) :
    (writeTrialFactor arm factor s).1.dosesHeld cal apart := by
  refine h.checked fun _ => ?_
  split
  · exact h.modifyMeterStore
  · exact h

/-! ### Statistics, journal, notices and reads (03, 09, 10) -/

theorem State.dosesHeld.readAndClearStatistics {arm : Nat} (h : s.dosesHeld cal apart) :
    (readAndClearStatistics arm s).1.dosesHeld cal apart := by
  unfold Machine.readAndClearStatistics
  split
  · exact h
  · exact State.dosesHeld.foldl (fun _ _ ht => ht.modifyDecoder) _ h

theorem State.dosesHeld.collectNote {seq : Nat} (h : s.dosesHeld cal apart) :
    (collectNote seq s).1.dosesHeld cal apart := by
  refine h.checked fun _ => ?_
  split
  · exact h.setSlots
  · exact h

theorem State.dosesHeld.markPrinted {seq : Nat} (h : s.dosesHeld cal apart) :
    (markPrinted seq s).1.dosesHeld cal apart := by
  refine h.checked fun _ => ?_
  split
  · exact h.setSlots
  · exact h

theorem State.dosesHeld.fetchNotice {p : PortId} (h : s.dosesHeld cal apart) :
    (fetchNotice p s).1.dosesHeld cal apart := by
  unfold Machine.fetchNotice
  dsimp only
  split
  · exact h
  · cases p <;> exact h.beside rfl

theorem State.dosesHeld.noticeDone {p : PortId} (h : s.dosesHeld cal apart) :
    (noticeDone p s).1.dosesHeld cal apart := by
  unfold Machine.noticeDone
  split
  · exact h
  · cases p <;> exact h.beside rfl

theorem State.dosesHeld.readOrder {num slot part : Nat} (h : s.dosesHeld cal apart) :
    (readOrder num slot part s).1.dosesHeld cal apart := by
  unfold Machine.readOrder
  dsimp only
  split
  · exact h
  · split
    · exact h
    · split
      · exact h
      · split <;> exact h

theorem State.dosesHeld.readNote {seq part : Nat} (h : s.dosesHeld cal apart) :
    (readNote seq part s).1.dosesHeld cal apart := by
  refine h.checked fun _ => ?_
  split
  · split
    · exact h
    · split <;> exact h
  · exact h

theorem State.dosesHeld.readTotals {part : Nat} (h : s.dosesHeld cal apart) :
    (readTotals part s).1.dosesHeld cal apart := by
  unfold Machine.readTotals
  split
  · exact h
  · split <;> exact h

/-! ### Power failure and restarts (09, 10) -/

/-- Arms apart that stand without a record join the others. -/
theorem State.dosesHeld.joinAll (h : s.dosesHeld cal (fun _ => True)) (stands : s.armsStand)
    (undosed : ∀ a, (s.arm a).dosing = none) : s.dosesHeld cal (fun _ => False) :=
  ⟨fun a _ => stands a, fun a r _ hr => (by cases (undosed a).symm.trans hr), h.carried, h.roles, h.calibrated⟩

/-- Every window stops, the arms keeping their records or discarding them. -/
theorem State.dosesHeld.idleInjectors {arms : Table 6 Arm} (h : s.dosesHeld cal apart)
    (on : ∀ b, (s.arm b).dosesOn (arms.get b) (apart b)) :
    (State.idleInjectors { s with arms := arms }).dosesHeld cal apart := by
  have injector k : (State.idleInjectors { s with arms := arms }).injector k = { s.injector k with window := none } :=
    Table.get_map _ _ k
  refine h.step on (fun k => ?_) (fun _ => rfl) rfl fun k window => ?_
  · rw [injector]
  · rw [injector] at window
    cases window

theorem State.dosesHeld.takeLine {quiet : Bool} (h : s.dosesHeld cal apart) (own : apart a) :
    (s.takeLine a quiet).dosesHeld cal apart := by
  unfold State.takeLine
  split
  · exact (h.abandonDosing own).fixLine.releaseLine own (State.dosing_fixLine _ a quiet)
  · exact h

/-- An arm without a line has no dosing record after its line is taken. -/
theorem State.dosesHeld.undosed_takeLine {quiet : Bool} (h : s.dosesHeld cal apart) :
    ((s.takeLine a quiet).arm a).dosing = none := by
  unfold State.takeLine
  split
  · rw [State.arm_modifyArm, if_pos rfl]
    rfl
  · next free => exact h.undosed (by simpa using free)

theorem State.dosesHeld.save (h : s.dosesHeld cal (fun _ => False)) : s.save.dosesHeld cal (fun _ => False) := by
  have taken : (s.forArms (fun a t => (t.takeLine a true).modifyArm a Arm.rest)).dosesHeld cal (fun _ => True) :=
    (h.part fun _ => False.elim).forArms fun a t ht =>
      (ht.takeLine trivial).modifyArm (Arm.dosesOn_undosed rfl rfl fun c => absurd trivial c) ht.undosed_takeLine.symm
  have joined := taken.joinAll s.armsStand_rested fun a => taken.undosed (s.free_rested a)
  unfold State.save
  dsimp only
  generalize s.forArms (fun a t => (t.takeLine a true).modifyArm a Arm.rest) = t at joined ⊢
  have idle : t.idleInjectors.dosesHeld cal (fun _ => False) := joined.idleInjectors fun _ => Arm.dosesOn_refl _ _
  have stopped : State.dosesHeld { t.idleInjectors with orders := t.orders.map (Option.map Order.stopTimers) } cal
    (fun _ => False) := idle.beside rfl
  have settled := stopped.settleDeadman
  generalize State.settleDeadman _ = u at settled ⊢
  exact settled.beside rfl

/-- The cold start's blocks: no record is open, no injector has a role, and the calibrations stand as stored. -/
theorem State.dosesHeld.coldBlocks (h : s.dosesHeld cal apart) : s.coldBlocks.dosesHeld cal (fun _ => False) := by
  have arm b : s.coldBlocks.arm b = Arm.cold := Table.get_fill _ _
  have injector k : s.coldBlocks.injector k = Injector.cold := Table.get_fill _ _
  have recipe k : s.coldBlocks.recipes.get k = none := Table.get_fill _ _
  have position p : Arm.cold.setup.positions.get p = none := Table.get_fill _ _
  refine (State.dosesHeld_iff _ _).mpr ⟨⟨fun b => arm b ▸ Arm.cold_standing, fun b r hr => ?_, ?_, ?_, ?_, ?_⟩, fun c => ?_⟩
  · rw [arm] at hr
    cases hr
  · simp only [arm, position]
    exact nofun
  · simp only [injector]
    exact nofun
  · simp only [arm, position, injector]
    exact fun _ _ => ⟨nofun, nofun⟩
  · simp only [injector]
    exact nofun
  · obtain ⟨-, item, -⟩ := h.calibrated c
    refine ⟨fun k x hx => ?_, item, fun b r hr => ?_⟩
    · cases (recipe k).symm.trans hx
    · rw [arm] at hr
      cases hr

theorem State.dosesHeld.coldStart (h : s.dosesHeld cal apart) : s.coldStart.dosesHeld cal (fun _ => False) := by
  have recovered := State.dosesHeld.foldl (f := State.recover) (fun t o ht => by
    unfold State.recover
    split
    · exact ht.compose
    · exact ht) s.journal.saveArea h.coldBlocks
  unfold State.coldStart State.announceRecovery
  dsimp only
  split <;> split
  · exact recovered.raise.raise
  · exact recovered.raise
  · exact recovered.raise
  · exact recovered

theorem State.dosesHeld.restartSlot {slot : Fin 24} (h : s.dosesHeld cal (fun _ => True)) :
    (s.restartSlot slot).dosesHeld cal (fun _ => True) := by
  unfold State.restartSlot
  split
  · exact h
  · split
    · refine State.dosesHeld.closeQuietly (State.dosesHeld.modifyOrder (h.forArms fun a t ht => ?_))
      split
      · split
        · exact (ht.takeLine trivial).modifyLine
        · exact ht
      · exact ht
    · exact h.endClaim.setOrder

theorem State.dosesHeld.restart (h : s.dosesHeld cal (fun _ => False)) : s.restart.dosesHeld cal (fun _ => False) := by
  have closed := State.dosesHeld.foldl (f := State.restartSlot) (fun _ _ ht => ht.restartSlot) slotList
    (h.part (more := fun _ => True) fun _ => False.elim)
  have blocks : s.restartBlocks.dosesHeld cal (fun _ => False) := by
    unfold State.restartBlocks
    dsimp only
    generalize slotList.foldl State.restartSlot s = t at closed ⊢
    have arm b : (t.arms.map Arm.restart).get b = (t.arm b).restart := Table.get_map _ _ _
    have rested := closed.idleInjectors (arms := t.arms.map Arm.restart) fun b => by
      rw [arm]
      exact Arm.dosesOn_undosed rfl rfl fun c => absurd trivial c
    have joined := rested.joinAll (fun b => (congrArg Arm.standing (arm b)).mpr (t.arm b).rest_standing)
      fun b => congrArg Arm.dosing (arm b)
    have untried : (State.idleInjectors { t with arms := t.arms.map Arm.restart }).discardTrials.dosesHeld cal
      (fun _ => False) := joined.beside rfl
    exact untried.settleDeadman
  unfold State.restart
  dsimp only
  generalize s.restartBlocks = t at blocks ⊢
  have emptied : State.dosesHeld { t with terminal := t.terminal.empty, console := t.console.empty } cal
    (fun _ => False) := blocks.beside rfl
  exact State.dosesHeld.foldl (fun _ _ ht => ht.raise.raise) _ emptied

end Sys2Proof.Machine
end

section
/-! The dosing unit's invariants along every step. -/

namespace Sys2Proof.Machine

variable {s : State} {cal : Prop} {a : Fin 6}

/-! ### Requests, and the frames that carry them -/

theorem State.dosesHeld.request {judge : State → Answer} (h : s.dosesHeld cal (fun _ => False)) (j : Request judge) :
    (judge s).1.dosesHeld cal (fun _ => False) := by
  cases j
  case refused | readBay | listNotes => exact h
  case readPermit =>
    unfold readPermit
    split <;> exact h
  case readOrder => exact h.readOrder
  case readArm =>
    unfold readArm
    split <;> exact h
  case readInjector =>
    unfold readInjector
    split <;> exact h
  case readNote => exact h.readNote
  case readTotals => exact h.readTotals
  case readStatistics =>
    unfold readStatistics
    split <;> exact h
  case fetchNotice => exact h.fetchNotice
  case noticeDone => exact h.noticeDone
  case setNoticeLevels p _ _ _ _ _ _ => exact h.checked fun _ => by cases p <;> exact h.beside rfl
  case setClock => exact h.checked fun _ => h.beside rfl
  case writePermit => exact h.writePermit
  case barPermit => exact h.barPermit
  case deletePermit => exact h.deletePermit
  case writeProduct => exact h.writeProduct
  case writeRecipe => exact h.writeRecipe
  case writeArmSetup => exact h.writeArmSetup
  case assignInjector => exact h.assignInjector
  case removeInjector => exact h.removeInjector
  case assignStandby => exact h.assignStandby
  case releaseStandby => exact h.releaseStandby
  case returnInjector => exact h.returnInjector
  case postOrder => exact h.postOrder
  case amendOrder => exact h.amendOrder
  case cancelOrder => exact h.cancelOrder
  case holdRequest => exact h.holdRequest
  case releaseArm => exact h.releaseArm
  case clearLockout => exact h.clearLockout
  case collectNote => exact h.collectNote
  case writeKFactor | writeCurve | writeOffset => exact h.writeMeterItem
  case writeInjectorItem => exact h.writeInjectorItem
  case setSeal => exact h.setSeal
  case writeTrialFactor => exact h.writeTrialFactor
  case readAndClearStatistics => exact h.readAndClearStatistics
  case restart => exact h.restart
  case presentPermit => exact h.presentPermit
  case releaseClaim => exact h.releaseClaim
  case startLine => exact h.startLine
  case resumeArm => exact h.resumeArm
  case endLine => exact h.endLine
  case finishOrder => exact h.finishOrder
  case markPrinted => exact h.markPrinted

theorem State.dosesHeld.frame {judge : State → Answer} {p : PortId} {tag code : Byte} {who : Senders}
    (h : s.dosesHeld cal (fun _ => False)) (j : Request judge) :
    (s.frame p tag code who judge).dosesHeld cal (fun _ => False) := by
  have heard : (s.modifyPort p Port.hunt).dosesHeld cal (fun _ => False) := h.modifyPort
  unfold State.frame
  dsimp only
  split
  · exact heard
  · split
    · exact heard.modifyPort
    · split
      · exact (heard.request j).modifyPort
      · exact heard.modifyPort

theorem State.dosesHeld.dispatch {p : PortId} {tag code : Byte} {body : List Byte} (h : s.dosesHeld cal (fun _ => False)) :
    (s.dispatchFrame p tag code body).dosesHeld cal (fun _ => False) := by
  obtain ⟨who, judge, j, e⟩ := s.dispatchFrame_request p tag code body
  exact e ▸ h.frame j

theorem State.dosesHeld.receive {p : PortId} {b : Byte} (h : s.dosesHeld cal (fun _ => False)) :
    (s.receive p b).dosesHeld cal (fun _ => False) := by
  obtain e | ⟨f, -, e⟩ | ⟨tag, code, who, judge, j, e⟩ := s.receive_cases p b
  · exact e.symm ▸ h
  · exact e ▸ h.modifyPort
  · exact e ▸ h.frame j

/-! ### The expiries -/

theorem State.dosesHeld.expiry {c : Instr} {act : State → State} (h : s.dosesHeld cal (fun _ => False))
    (acts : ∀ t : State, t.dosesHeld cal (fun _ => False) → (act t).dosesHeld cal (fun _ => False)) :
    (s.expiry c act).dosesHeld cal (fun _ => False) := by
  unfold State.expiry
  split
  · have taken : (s.expiryTaken c).dosesHeld cal (fun _ => False) := h.beside rfl
    dsimp only
    split
    · exact acts _ taken
    · exact taken
  · exact acts s h

/-! ### Every command, and every step -/

/-- An injector's feedback pulse: its totalizer advances, and it counts where the injector is engaged or its pulse is late. -/
theorem State.dosesHeld.execFeedbackPulse {i : Fin 8} {t : State} (h : s.dosesHeld cal (fun _ => False))
    (e : execInjectorFeedbackPulse i s = .next t) : t.dosesHeld cal (fun _ => False) := by
  have totalled := h.totalled (i := i) (f := fun x => x.total.pulse x.kFactor)
  unfold execInjectorFeedbackPulse at e
  dsimp only at e
  split at e
  · next a found =>
    cases e
    exact totalled.feedbackPulse (by simpa using List.find?_some found)
  · split at e
    · cases e
      exact totalled.latePulse
    · cases e
      exact totalled

theorem State.dosesHeld.exec {c : Instr} {t : State} (h : s.dosesHeld cal (fun _ => False)) (e : exec c s = .next t) :
    t.dosesHeld cal (fun _ => False) := by
  have next {u : State} (held : u.dosesHeld cal (fun _ => False)) (e : (Host.Outcome.next u : Outcome) = .next t) :
      t.dosesHeld cal (fun _ => False) := by
    cases e
    exact held
  cases c
  case setClock => exact next (h.frame (.setClock _ _)) e
  case writePermit => exact next (h.frame (.writePermit _ _ _ _ _)) e
  case barPermit => exact next (h.frame (.barPermit _)) e
  case deletePermit => exact next (h.frame (.deletePermit _)) e
  case readPermit => exact next (h.frame (.readPermit _)) e
  case writeProduct => exact next (h.frame (.writeProduct _ _ _ _ _ _)) e
  case writeArmSetup => exact next (h.frame (.writeArmSetup _ _ _ _ _ _)) e
  case postOrder => exact next (h.frame (.postOrder _ _ _ _ _)) e
  case amendOrder => exact next (h.frame (.amendOrder _ _ _ _)) e
  case presentPermit => exact next (h.frame (.presentPermit _ _ _)) e
  case releaseClaim => exact next (h.frame (.releaseClaim _)) e
  case finishOrder => exact next (h.frame (.finishOrder _)) e
  case cancelOrder => exact next (h.frame (.cancelOrder _)) e
  case readOrder => exact next (h.frame (.readOrder _ _ _)) e
  case readStatistics => exact next (h.frame (.readStatistics _)) e
  case readAndClearStatistics => exact next (h.frame (.readAndClearStatistics _)) e
  case startLine => exact next (h.frame (.startLine _ _ _)) e
  case endLine => exact next (h.frame (.endLine _)) e
  case clearLockout => exact next (h.frame (.clearLockout _)) e
  case readArm => exact next (h.frame (.readArm _)) e
  case suspendArm => exact next (h.frame (.holdRequest _ _)) e
  case holdArm => exact next (h.frame (.holdRequest _ _)) e
  case resumeArm => exact next (h.frame (.resumeArm _)) e
  case releaseArm => exact next (h.frame (.releaseArm _)) e
  case readBay => exact next (h.frame .readBay) e
  case writeRecipe => exact next (h.frame (.writeRecipe _ _ _ _)) e
  case assignInjector => exact next (h.frame (.assignInjector _ _ _)) e
  case removeInjector => exact next (h.frame (.removeInjector _ _)) e
  case assignStandby => exact next (h.frame (.assignStandby _ _)) e
  case releaseStandby => exact next (h.frame (.releaseStandby _)) e
  case returnInjector => exact next (h.frame (.returnInjector _)) e
  case readInjector => exact next (h.frame (.readInjector _)) e
  case writeCalibrationKFactor => exact next (h.frame (.writeKFactor _ _)) e
  case writeCalibrationCurve => exact next (h.frame (.writeCurve _ _)) e
  case writeCalibrationOffset => exact next (h.frame (.writeOffset _ _)) e
  case writeCalibrationInjector => exact next (h.frame (.writeInjectorItem _ _ _ _)) e
  case setSeal => exact next (h.frame (.setSeal _)) e
  case writeTrialFactor => exact next (h.frame (.writeTrialFactor _ _)) e
  case readTotals => exact next (h.frame (.readTotals _)) e
  case collectNote => exact next (h.frame (.collectNote _)) e
  case markPrinted => exact next (h.frame (.markPrinted _)) e
  case readNote => exact next (h.frame (.readNote _ _)) e
  case listNotes => exact next (h.frame .listNotes) e
  case restart => exact next (h.frame .restart) e
  case fetchNotice => exact next (h.frame (.fetchNotice _)) e
  case noticeDone => exact next (h.frame (.noticeDone _)) e
  case setNoticeLevels => exact next (h.frame (.setNoticeLevels _ _ _ _ _ _ _)) e
  case unknownRequest | frameWhileBusy => exact next h.dispatch e
  case characterReceived => exact next h.receive e
  case characterFault | frameBadCrc | transmissionEnd | linkReset => exact next h.modifyPort e
  case claimTimeout slot =>
    refine next (h.expiry fun t ht => ?_) e
    split
    · split
      · exact ht.withdrawClaim.raise
      · exact ht
    · exact ht
  case idleOrderTimeout slot =>
    refine next (h.expiry fun t ht => ?_) e
    split
    · split
      · exact ht.modifyOrder.closeOrder
      · exact ht
    · exact ht
  case noFlowTimeout a =>
    refine next (h.expiry fun t ht => ?_) e
    split
    · exact ht.raiseHold
    · exact ht
  case suspendTimeout a =>
    refine next (h.expiry fun t ht => ?_) e
    split
    · exact ht.endSuspended id
    · exact ht
  case frameGapTimeout p =>
    refine next (h.expiry fun t ht => ?_) e
    split
    · exact ht.modifyPort
    · exact ht
  case meterEdge => exact next h.meterEdge e
  case meteringSample => exact next (h.expiry fun _ ht => ht.sample id) e
  case gateCompletion => exact next h.endGate e
  case gateTimeout => exact next (h.expiry fun _ ht => ht.endGate) e
  case permissiveLoss => exact next h.losePermissive e
  case permissiveInputReturn => exact next h.returnPermissive e
  case permissiveRestored => exact next (h.expiry fun _ ht => ht.restorePermissive) e
  case estopActivation => exact next h.stopPressed e
  case estopInputRelease => exact next h.stopReleased e
  case estopReleaseTimeout => exact next (h.expiry fun _ ht => ht.stopTimeout) e
  case deadmanWarning => exact next (h.expiry fun _ ht => ht.warnDeadman) e
  case deadmanExpiry => exact next (h.expiry fun _ ht => ht.expireDeadman) e
  case deadmanPress => exact next h.deadmanButton e
  case injectorFeedbackPulse => exact h.execFeedbackPulse e
  case verifyWindowExpiry => exact next (h.expiry fun _ ht => ht.windowExpires) e
  case calibrationSwitchChange =>
    cases e
    exact h.beside rfl
  case powerFailSave =>
    simp only [Machine.exec, execPowerFailSave] at e
    split at e
    · cases e
      exact h.beside rfl
    · exact next h.save e
  case powerFailWarningDeassert =>
    have calm : State.dosesHeld { s with bay := { s.bay with powerFail := false } } cal (fun _ => False) := h.beside rfl
    simp only [Machine.exec, execPowerFailWarningDeassert] at e
    split at e
    · exact next calm.coldStart e
    · exact next calm e
  case coldStart => exact next h.coldStart e
  case clockAdvance =>
    cases e
    exact h.expiry fun _ ht => ht.beside rfl
  case referenceEdge =>
    simp only [Machine.exec, execReferenceEdge] at e
    split at e
    · cases e
      exact h.beside rfl
    · exact next h.endGate e
  case probeEdge =>
    cases e
    exact h.beside rfl

theorem State.dosesHeld.stepped {t : State} (h : s.dosesHeld cal (fun _ => False)) (e : Machine.step s = .next t) :
    t.dosesHeld cal (fun _ => False) := by
  unfold Machine.step at e
  split at e
  · next c rest _ =>
    have taken : State.dosesHeld { s with pending := rest } cal (fun _ => False) := h.beside rfl
    exact taken.exec e
  · cases e
    exact h.elapse.beside rfl

end Sys2Proof.Machine
end

section
namespace Sys2Proof.Proofs
open Sys2Proof Sys2Proof.Machine

/-- Settles O58: the dosing unit's invariants, the calibrations where they hold, pass through every step
(`State.dosesHeld.stepped`). -/
theorem dosingIsKept : Obligations.DosingIsKept := by
  unfold Obligations.DosingIsKept
  intro s t e kept
  have held := (State.dosesHeld_iff s s.dosesCalibrated).mpr ⟨kept, id⟩
  exact (State.dosesHeld_iff t s.dosesCalibrated).mp (held.stepped e)

end Sys2Proof.Proofs
end

section
/-! Feedback pulses: what one counts to, and what follows the pulse that makes a shot good (R124, R136, R145, R156). -/

namespace Sys2Proof.Machine

variable {s : State} {a : Fin 6} {i : Fin 8} {r : DosingRecord}

/-! ### The judgements where nothing is owed (R133, R134) -/

/-- An open record changes. -/
theorem State.modifyDosing_of (dosed : (s.arm a).dosing = some r) (f : DosingRecord → DosingRecord) :
    s.modifyDosing a f = s.modifyArm a (fun x => { x with dosing := some (f r) }) :=
  State.modifyArm_congr s a (by rw [dosed, Option.map_some])

/-- Nothing owed, no shot is issued. -/
theorem State.issueShot_settled (dosed : (s.arm a).dosing = some r) (settled : r.owed = 0) : s.issueShot a = s := by
  unfold State.issueShot
  rw [dosed]
  cases (s.arm a).engaged with
  | none => rfl
  | some i => exact if_neg fun issues => absurd settled issues.2.1.ne'

/-- Nothing owed, the flag is clear, and ADDITIVE leaves the arm where less than an interval has accrued and the injector
serves. -/
theorem State.judgeDosing_settled (dosed : (s.arm a).dosing = some r) (engaged : (s.arm a).engaged = some i)
    (settled : r.owed = 0) : s.judgeDosing a = s.modifyArm a (fun x => { x with
      reducedFlow := false
      holds :=
        if r.accumulator < r.interval ∧ (s.injectorStore i).failed = false ∧ (s.injectorStore i).additive = r.additive then
          { x.holds with additive := false } else x.holds }) := by
  have calm : s.judgeOverspeed a = s := by
    unfold State.judgeOverspeed
    rw [dosed]
    exact if_neg (by simp [DosingRecord.overspeed, settled])
  have slow : s.judgeReducedFlow a = s.modifyArm a (fun x => { x with reducedFlow := false }) := by
    unfold State.judgeReducedFlow
    rw [dosed]
    exact if_pos settled
  have arm : (s.modifyArm a (fun x => { x with reducedFlow := false })).arm a = { s.arm a with reducedFlow := false } := by
    rw [State.arm_modifyArm, if_pos rfl]
  rw [State.judgeDosing, calm, slow, State.judgeAdditiveClear_eq _ a i r (by rw [arm]; exact dosed) (by rw [arm]; exact engaged)]
  simp only [settled, true_and]
  exact State.modifyArm_modifyArm s a _ _

/-- A dosing event that leaves nothing owed. -/
theorem State.judged_settled (place : (s.arm a).setup.positions.get r.position = some i) (settled : r.owed = 0) :
    ((s.modifyArm a (fun x => { x with dosing := some r })).issueShot a).judgeDosing a = s.modifyArm a (fun x => { x with
      dosing := some r
      reducedFlow := false
      holds :=
        if r.accumulator < r.interval ∧ (s.injectorStore i).failed = false ∧ (s.injectorStore i).additive = r.additive then
          { x.holds with additive := false } else x.holds }) := by
  have arm : (s.modifyArm a (fun x => { x with dosing := some r })).arm a = { s.arm a with dosing := some r } := by
    rw [State.arm_modifyArm, if_pos rfl]
  rw [State.issueShot_settled (r := r) (by rw [arm]) settled,
    State.judgeDosing_settled (r := r) (i := i) (by rw [arm]) (by rw [arm]; exact place) settled]
  exact State.modifyArm_modifyArm s a _ _

/-! ### The pulse (R136, R156) -/

/-- A pulse's totalizer, advanced (R156). -/
def State.pulsed (s : State) (i : Fin 8) : State :=
  { s with store := { s.store with injectors := s.store.injectors.modify i (fun x => { x with total :=
      ⟨(x.total.millilitres + (x.total.remainder + 1000000) / x.kFactor) % 1000000000,
        (x.total.remainder + 1000000) % x.kFactor⟩ }) } }

theorem State.pulsed_eq (calibrated : (s.injectorStore i).kFactor ≠ 0) :
    s.modifyInjectorStore i (fun x => { x with total := x.total.pulse x.kFactor }) = s.pulsed i := by
  have advanced : (s.injectorStore i).total.pulse (s.injectorStore i).kFactor =
      ⟨((s.injectorStore i).total.millilitres + ((s.injectorStore i).total.remainder + 1000000) /
        (s.injectorStore i).kFactor) % 1000000000,
        ((s.injectorStore i).total.remainder + 1000000) % (s.injectorStore i).kFactor⟩ := if_neg calibrated
  unfold State.injectorStore at advanced
  simp only [State.modifyInjectorStore, State.pulsed, Table.modify_eq_set, advanced]

theorem State.modifyInjector_injectorStore (s : State) (i k : Fin 8) (f : Injector → Injector) :
    (s.modifyInjector i f).injectorStore k = s.injectorStore k := rfl

theorem State.failed_pulsed (s : State) (i k : Fin 8) : ((s.pulsed i).injectorStore k).failed = (s.injectorStore k).failed := by
  rw [State.pulsed, State.injectorStore, Table.get_modify]
  split <;> rfl

theorem State.additive_pulsed (s : State) (i k : Fin 8) :
    ((s.pulsed i).injectorStore k).additive = (s.injectorStore k).additive := by
  rw [State.pulsed, State.injectorStore, Table.get_modify]
  split <;> rfl

theorem execFeedbackPulse_engaged (calibrated : (s.injectorStore i).kFactor ≠ 0) (engaged : s.engagedBy i = some a) :
    exec (.injectorFeedbackPulse i) s = .next ((s.pulsed i).feedbackPulse a i) := by
  have engaged : (s.pulsed i).engagedBy i = some a := engaged
  simp only [exec, execInjectorFeedbackPulse, State.pulsed_eq calibrated, engaged]

theorem execFeedbackPulse_late (calibrated : (s.injectorStore i).kFactor ≠ 0) (free : s.engagedBy i = none)
    (late : s.awaiting i = some a) : exec (.injectorFeedbackPulse i) s =
      .next ((s.pulsed i).modifyDosing a (fun r => { r with feedback := r.feedback + 1, late := none })) := by
  have free : (s.pulsed i).engagedBy i = none := free
  have late : (s.pulsed i).awaiting i = some a := late
  simp only [exec, execInjectorFeedbackPulse, State.pulsed_eq calibrated, free, late]

theorem execFeedbackPulse_stray (calibrated : (s.injectorStore i).kFactor ≠ 0) (free : s.engagedBy i = none)
    (stray : s.awaiting i = none) : exec (.injectorFeedbackPulse i) s = .next (s.pulsed i) := by
  have free : (s.pulsed i).engagedBy i = none := free
  have stray : (s.pulsed i).awaiting i = none := stray
  simp only [exec, execInjectorFeedbackPulse, State.pulsed_eq calibrated, free, stray]

/-- No shot being in flight, a pulse joins the line's feedback alone. -/
theorem State.feedbackPulse_unshot (dosed : (s.arm a).dosing = some r) (shot : r.shot = none) :
    s.feedbackPulse a i = s.modifyArm a (fun x => { x with dosing := some { r with feedback := r.feedback + 1 } }) := by
  simp only [State.feedbackPulse, State.modifyDosing_of dosed, State.arm_modifyArm, if_true, shot, Option.map_none]

/-- A pulse short of the target joins the shot too. -/
theorem State.feedbackPulse_short (dosed : (s.arm a).dosing = some r) {n : Nat} {retry : Bool}
    (shot : r.shot = some ⟨n, retry⟩) (short : n + 1 < r.target) :
    s.feedbackPulse a i = (s.modifyArm a (fun x => { x with
      dosing := some { r with feedback := r.feedback + 1, shot := some ⟨n + 1, retry⟩ } })).modifyInjector i (fun x =>
        { x with voided := false }) := by
  simp only [State.feedbackPulse, State.modifyDosing_of dosed, State.arm_modifyArm, if_true, shot, Option.map_some,
    if_neg short.not_ge]

/-- The injector of a good shot of the record `r` (R136). -/
def Injector.shotGood (x : Injector) (r : DosingRecord) (retry : Bool) : Injector :=
  { x with
    window := none
    voided := decide (0 < r.owed)
    stats := if retry = true then { x.stats with goodAfterRetry := min 65535 (x.stats.goodAfterRetry + 1) }
      else { x.stats with firstGood := min 65535 (x.stats.firstGood + 1) } }

/-- The record after the pulse that makes its shot good (R136). -/
def DosingRecord.shotGood (r : DosingRecord) : DosingRecord :=
  { r with feedback := r.feedback + 1, shot := none, budget := 2 }

/-- The pulse that reaches the target makes the shot good, and the next that is owed is issued and judged. -/
theorem State.feedbackPulse_good (dosed : (s.arm a).dosing = some r) {n : Nat} {retry : Bool}
    (shot : r.shot = some ⟨n, retry⟩) (reaches : r.target ≤ n + 1) :
    s.feedbackPulse a i = (((s.modifyInjector i (fun x => x.shotGood r retry)).modifyArm a (fun x =>
      { x with dosing := some r.shotGood })).issueShot a).judgeDosing a := by
  simp only [State.feedbackPulse, State.modifyDosing_of dosed, State.arm_modifyArm, if_true, shot, Option.map_some,
    if_pos reaches, State.shotGood]
  refine congrArg (fun t : State => (t.issueShot a).judgeDosing a) ?_
  have counted (f : Injector → Injector) : (((s.modifyArm a (fun x => { x with
      dosing := some { r with feedback := r.feedback + 1, shot := some ⟨n + 1, retry⟩ } })).modifyInjector i f).arm a).dosing =
        some { r with feedback := r.feedback + 1, shot := some ⟨n + 1, retry⟩ } :=
    congrArg Arm.dosing ((s.arm_modifyArm a a _).trans (if_pos rfl))
  rw [State.modifyDosing_of (counted _)]
  simp only [bump16_eq]
  exact State.modifyArm_modifyArm (s.modifyInjector i (fun x => x.shotGood r retry)) a (fun x => { x with
    dosing := some { r with feedback := r.feedback + 1, shot := some ⟨n + 1, retry⟩ } }) (fun x => { x with
      dosing := some r.shotGood })

end Sys2Proof.Machine
end

section
namespace Sys2Proof.Proofs
open Sys2Proof Sys2Proof.Machine

/-- Settles O46: a pulse counts to the record of the arm that engages its injector, or to one that awaits it; the one that
makes the shot good is judged as every dosing event is (`State.dosed_judged`). -/
theorem feedbackPulses : Obligations.FeedbackPulses := by
  unfold Obligations.FeedbackPulses
  intro i s calibrated
  dsimp only
  refine ⟨fun free => ⟨fun stray => ?_, fun a r dosed late only => ?_⟩, fun a r engaged only dosed =>
    ⟨fun shot => ?_, fun n retry shot short => ?_, fun n retry shot reaches => ⟨fun interval => ?_, fun settled => ?_⟩⟩⟩
  · exact execFeedbackPulse_stray calibrated (State.engagedBy_none free) (State.awaiting_none stray)
  · rw [execFeedbackPulse_late calibrated (State.engagedBy_none free) (State.awaiting_only dosed late only)]
    exact congrArg Host.Outcome.next (State.modifyDosing_of (s := s.pulsed i) dosed _)
  · rw [execFeedbackPulse_engaged calibrated (State.engagedBy_only engaged only)]
    exact congrArg Host.Outcome.next (State.feedbackPulse_unshot (s := s.pulsed i) dosed shot)
  · rw [execFeedbackPulse_engaged calibrated (State.engagedBy_only engaged only)]
    exact congrArg Host.Outcome.next (State.feedbackPulse_short (s := s.pulsed i) dosed shot short)
  · obtain ⟨q, hq, place⟩ := Arm.engaged_position engaged
    cases dosed.symm.trans hq
    refine ⟨_, execFeedbackPulse_engaged calibrated (State.engagedBy_only engaged only), ?_⟩
    rw [State.feedbackPulse_good (s := s.pulsed i) dosed shot reaches]
    exact State.dosed_judged _ a i r.shotGood place interval
  · obtain ⟨q, hq, place⟩ := Arm.engaged_position engaged
    cases dosed.symm.trans hq
    rw [execFeedbackPulse_engaged calibrated (State.engagedBy_only engaged only),
      State.feedbackPulse_good (s := s.pulsed i) dosed shot reaches]
    rw [State.judged_settled (s := (s.pulsed i).modifyInjector i (fun x => x.shotGood r retry)) (r := r.shotGood) place settled,
      State.modifyInjector_injectorStore, State.failed_pulsed, State.additive_pulsed]
    rfl

end Sys2Proof.Proofs
end

section
/-! A dosing event that issues no shot, judged for any interval (R133, R134). -/

namespace Sys2Proof.Machine

variable {s : State} {a : Fin 6} {i : Fin 8} {r : DosingRecord}

/-- The bay follows in states that agree on the bays and on how the arms stand. -/
theorem State.bayFollows_congr {s t u v : State} (before : u.bay = s.bay) (after : v.bay = t.bay)
    (states : ∀ b, (v.arm b).state = (t.arm b).state) (h : s.bayFollows t) : u.bayFollows v := by
  unfold State.bayFollows at h ⊢
  simp only [states, before, after, h]

/-- A cause raised for an arm moves neither its set-up nor its line. -/
theorem Arm.withCause_frame (x : Arm) (c : HoldCause) :
    ((x.withCause c).setup, (x.withCause c).active, (x.withCause c).dosing) = (x.setup, x.active, x.dosing) := by
  unfold Arm.withCause
  split
  · split <;> rfl
  · rfl

theorem State.running_congr {s t : State} (active : (t.arm a).active = (s.arm a).active) (orders : t.orders = s.orders) :
    t.running a = s.running a := by
  have line : t.lineAt = s.lineAt := by
    funext ref
    simp only [State.lineAt, State.order, orders]
  simp only [State.running, State.activeLine, active, line]

/-- The arm with its reduced-flow flag judged, so many shots being owed (R133). -/
def Arm.slowed (x : Arm) (owed : Nat) (running : Bool) : Arm :=
  { x with reducedFlow := if owed = 0 then false else if 2 ≤ owed ∧ running = true then true else x.reducedFlow }

/-- The judgements that follow a dosing event, as one change of the arm, the injector and the bay (R133, R134). -/
theorem State.judgeDosing_eq (dosed : (s.arm a).dosing = some r) (engaged : (s.arm a).engaged = some i) :
    let exceeds := r.phase = .accruing ∧ r.owed = 3 ∧ r.interval ≤ r.accumulator ∧ (s.arm a).holds.additive = false
    let caughtUp := r.owed = 0 ∧ r.accumulator < r.interval ∧ (s.injectorStore i).failed = false ∧
      (s.injectorStore i).additive = r.additive
    let slows := 2 ≤ r.owed ∧ s.running a = true
    let t := s.judgeDosing a
    t = ({ s with
      arms := s.arms.modify a (fun x =>
        let y := if exceeds then x.withCause .additive else x
        { y.slowed r.owed (s.running a) with holds := if caughtUp then { y.holds with additive := false } else y.holds })
      injectors := s.injectors.modify i (fun x =>
        { x with stats := if exceeds then { x.stats with overspeed := min 65535 (x.stats.overspeed + 1) } else x.stats })
      bay := t.bay } : State).raiseIf (decide (slows ∧ (s.arm a).reducedFlow = false)) .flowReduced (number a) ∧
    if exceeds ∧ (s.arm a).state.flowing = true ∧ (s.arm a).active.isSome = true then s.bayFollows t else t.bay = s.bay := by
  intro exceeds caughtUp slows t
  obtain ⟨raised, follows⟩ := s.judgeOverspeed_eq a i r dosed engaged
  obtain ⟨v, hv⟩ : ∃ v, v = s.judgeOverspeed a := ⟨_, rfl⟩
  rw [← hv] at raised follows
  have arm : v.arm a = if exceeds then (s.arm a).withCause .additive else s.arm a := by
    rw [raised]
    exact (s.arms.get_modify a a _).trans (if_pos rfl)
  have frame : ((v.arm a).setup, (v.arm a).active, (v.arm a).dosing) =
      ((s.arm a).setup, (s.arm a).active, (s.arm a).dosing) := by
    rw [arm]
    split
    · exact Arm.withCause_frame _ _
    · rfl
  simp only [Prod.mk.injEq] at frame
  obtain ⟨setup, active, dosing⟩ := frame
  have flag : (v.arm a).reducedFlow = (s.arm a).reducedFlow := by
    rw [arm]
    split
    · exact Arm.withCause_reducedFlow _ _
    · rfl
  have running : v.running a = s.running a := State.running_congr active ((congrArg State.orders raised).trans rfl)
  have store : v.store = s.store := (congrArg State.store raised).trans rfl
  have slowed := v.judgeReducedFlow_eq a r (dosing.trans dosed)
  rw [running, flag] at slowed
  have cleared : t = (v.judgeReducedFlow a).judgeAdditiveClear a := by rw [hv]; rfl
  have flagged : (v.judgeReducedFlow a).arm a = (v.arm a).slowed r.owed (s.running a) := by
    rw [slowed, State.arm_raiseIf]
    exact (v.arms.get_modify a a _).trans (if_pos rfl)
  have engages : ((v.arm a).slowed r.owed (s.running a)).engaged = some i := by
    rw [← engaged]
    simp only [Arm.engaged, Arm.slowed, dosing, setup]
  have serves : (v.judgeReducedFlow a).injectorStore i = s.injectorStore i := by
    rw [slowed]
    unfold State.injectorStore
    rw [← store]
    cases decide ((2 ≤ r.owed ∧ s.running a = true) ∧ (s.arm a).reducedFlow = false) <;> rfl
  rw [State.judgeAdditiveClear_eq _ a i r (flagged ▸ dosing.trans dosed) (flagged ▸ engages), serves, slowed] at cleared
  have commutes (u : State) (c : Bool) (f : Arm → Arm) :
      ({ u.raiseIf c .flowReduced (number a) with arms := (u.raiseIf c .flowReduced (number a)).arms.modify a f } : State) =
        ({ u with arms := u.arms.modify a f } : State).raiseIf c .flowReduced (number a) := by cases c <;> rfl
  rw [commutes, Table.modify_modify] at cleared
  have bay : t.bay = v.bay := by
    rw [cleared]
    cases decide ((2 ≤ r.owed ∧ s.running a = true) ∧ (s.arm a).reducedFlow = false) <;> rfl
  refine ⟨?_, ?_⟩
  · rw [bay]
    refine cleared.trans ?_
    congr 1
    conv_lhs => rw [raised]
    dsimp only
    rw [Table.modify_modify]
    rfl
  · split
    · next stops =>
      rw [if_pos stops] at follows
      refine State.bayFollows_congr rfl bay (fun b => ?_) follows
      rw [cleared, State.arm_raiseIf]
      refine (congrArg Arm.state (v.arms.get_modify a b _)).trans ?_
      split <;> rfl
    · next stays =>
      rw [if_neg stays] at follows
      exact bay.trans follows

/-- A dosing event that finds no shot to issue, judged (R133, R134): `State.dosed` says what it does, for any interval. -/
theorem State.dosed_quiet (place : (s.arm a).setup.positions.get r.position = some i)
    (quiet : ¬ (r.phase ≠ .disengaged ∧ 0 < r.owed ∧ (s.injector i).window = none)) :
    s.dosed ((s.modifyArm a (fun x => { x with dosing := some r })).judgeDosing a) a i r := by
  have arm : (s.modifyArm a (fun x => { x with dosing := some r })).arm a = { s.arm a with dosing := some r } :=
    (s.arm_modifyArm a a _).trans (if_pos rfl)
  have engaged : ((s.modifyArm a (fun x => { x with dosing := some r })).arm a).engaged = some i := by
    rw [arm]
    exact place
  obtain ⟨judged, follows⟩ := State.judgeDosing_eq (r := r) (arm ▸ rfl) engaged
  have running : (s.modifyArm a (fun x => { x with dosing := some r })).running a = s.running a :=
    State.running_congr (arm ▸ rfl) rfl
  rw [arm, running] at judged
  rw [arm] at follows
  unfold State.dosed
  simp only [if_neg quiet]
  refine ⟨judged.trans ?_, ?_⟩
  · congr 1
    refine congrArg (fun arms => ({ s with arms := arms, injectors := _, bay := _ } : State)) ?_
    rw [State.modifyArm, Table.modify_modify]
    congr 1
    funext x
    dsimp only
    rw [Arm.withCause_dosing]
    split
    · simp only [Arm.slowed, Arm.withCause_reducedFlow]
      rfl
    · rfl
  · split
    · next stops =>
      rw [if_pos stops] at follows
      exact State.bayFollows_congr rfl rfl (fun _ => rfl) follows
    · next stays =>
      rw [if_neg stays] at follows
      exact follows

end Sys2Proof.Machine
end

section
/-! The verify window's expiry: a retry, a takeover, or a DISENGAGED record (R137 to R139, R145). -/

namespace Sys2Proof.Machine

variable {s : State} {a : Fin 6} {i j : Fin 8} {r : DosingRecord}

/-- An expiry command of the sender's own acts whatever time its timer shows (notes/assumptions/3.md). -/
theorem execVerifyWindowExpiry_own (own : .verifyWindowExpiry i ∉ s.due) :
    exec (.verifyWindowExpiry i) s = .next (s.windowExpires i) :=
  congrArg Host.Outcome.next (State.expiry_own own _)

/-- An expiry behind the good pulse does not happen. -/
theorem State.windowExpires_voided (voided : (s.injector i).voided = true) :
    s.windowExpires i = s.modifyInjector i (fun x => { x with voided := false }) := if_pos voided

/-- A window's expiry for the shot in flight retries it while the budget lasts, and else the injector fails. -/
theorem State.windowExpires_running (fresh : (s.injector i).voided = false) (engaged : s.engagedBy i = some a)
    (dosed : (s.arm a).dosing = some r) {ms : Nat} {shot : Shot} (window : (s.injector i).window = some ms)
    (flying : r.shot = some shot) :
    s.windowExpires i = if 0 < r.budget then s.retryShot a i else s.injectorFails a r i := by
  simp only [State.windowExpires, fresh, engaged, dosed, window, flying, Option.isSome_some, and_self, if_true,
    Bool.false_eq_true, if_false]

/-- A fresh attempt is judged as a dosing event that issues no shot. -/
theorem State.retryShot_dosed (dosed : (s.arm a).dosing = some r)
    (place : (s.arm a).setup.positions.get r.position = some i) :
    (s.modifyInjector i (fun x => { x with window := some 3000 })).dosed (s.retryShot a i) a i
      { r with budget := r.budget - 1, shot := some ⟨0, true⟩ } := by
  have retried : s.retryShot a i = ((s.modifyInjector i (fun x => { x with window := some 3000 })).modifyArm a (fun x =>
      { x with dosing := some { r with budget := r.budget - 1, shot := some ⟨0, true⟩ } })).judgeDosing a := by
    rw [State.retryShot, State.modifyDosing_of dosed]
    rfl
  rw [retried]
  refine State.dosed_quiet place fun issues => ?_
  rw [State.injector_modifyInjector, if_pos rfl] at issues
  cases issues.2.2

/-! ### The takeover (R138) -/

/-- What a failed attempt leaves in `late`: the injector whose pulse it lacked (R145). -/
theorem DosingRecord.lateFor_of {shot : Shot} (flying : r.shot = some shot) :
    r.lateFor i = if r.target ≤ shot.feedback + 1 then some i else none := by
  rw [DosingRecord.lateFor, flying, Option.bind_some]

/-- The record that the standby `j` of the failed injector `i` takes over, with its late pulse noted (R138, R145). -/
def State.taken (s : State) (r : DosingRecord) (i j : Fin 8) : DosingRecord :=
  (({ r with late := r.lateFor i } : DosingRecord).takenOver j (s.injectorStore j)).settled

/-- The standby serves the record with its own values, and what is then owed is issued and judged. -/
theorem State.injectorFails_dosed {ref : LineRef} (standby : (s.injector i).standby = some j)
    (interval : 0 < dosingInterval (s.injectorStore j).shotSize r.rate) (active : (s.arm a).active = some ref) :
    (((s.replaced a i (some j) (s.taken r i j)).modifyLine ref (fun l =>
      { l with flags := { l.flags with standbyUsed := true } })).raise .injectorFailed (number i)).dosed
        (s.injectorFails a r i) a j (s.taken r i j) := by
  have arm := (s.arm_replaced a a i (some j) (s.taken r i j)).trans (if_pos rfl)
  have settles : (({ r with late := r.lateFor i } : DosingRecord).takenOver j (s.injectorStore j)).settle = s.taken r i j :=
    DosingRecord.settle_eq_settled _ interval
  obtain ⟨u, hu⟩ : ∃ u, u = (((s.replaced a i (some j) (s.taken r i j)).modifyLine ref (fun l =>
    { l with flags := { l.flags with standbyUsed := true } })).raise .injectorFailed (number i)) := ⟨_, rfl⟩
  have flagged : ((s.replaced a i (some j) (s.taken r i j)).raise .injectorFailed (number i)).modifyActiveLine a (fun l =>
      { l with flags := { l.flags with standbyUsed := true } }) = u := by
    rw [State.modifyActiveLine_of (s := (s.replaced a i (some j) (s.taken r i j)).raise .injectorFailed (number i))
      ((congrArg Arm.active arm).trans active), hu]
    rfl
  have arm : u.arm a = _ := (congrArg (fun t : State => t.arm a) hu).trans arm
  have kept : u.modifyArm a (fun x => { x with dosing := some (s.taken r i j) }) = u :=
    State.modifyArm_self (by rw [arm])
  have judged := u.dosed_judged a j (s.taken r i j) (by rw [arm]; exact Table.get_set_self _ _ _) interval
  rw [kept] at judged
  rw [← hu, State.injectorFails_takeOver standby, settles, flagged]
  exact judged

/-! ### The record that no standby takes over (R139) -/

/-- A cause raised for an arm reads nothing of its set-up and its record. -/
theorem Arm.withCause_placed (x : Arm) (c : HoldCause) (setup : ArmSetup) (dosing : Option DosingRecord) :
    ({ x with setup := setup, dosing := dosing } : Arm).withCause c =
      { x.withCause c with setup := setup, dosing := dosing } := by
  unfold Arm.withCause
  split
  · split <;> rfl
  · rfl

/-- With no standby the position is empty, the record is given up, and ADDITIVE is raised for the arm. -/
theorem State.injectorFails_alone (standby : (s.injector i).standby = none) : ∃ t : State,
    s.injectorFails a r i = t.raise .injectorFailed (number i) ∧
    t = { s with
      injectors := s.injectors.modify i (fun x =>
        { x with window := none, stats := { x.stats with failed := min 65535 (x.stats.failed + 1) } })
      store := { s.store with injectors := s.store.injectors.modify i (fun x => { x with failed := true }) }
      arms := s.arms.modify a (fun x => { x.withCause .additive with
        setup := { x.setup with positions := x.setup.positions.set r.position none }
        dosing := some ({ r with late := r.lateFor i } : DosingRecord).givenUp
        reducedFlow := false })
      bay := t.bay } ∧
    if (s.arm a).state.flowing = true ∧ (s.arm a).active.isSome = true ∧ (s.arm a).holds.additive = false
      then s.bayFollows t else t.bay = s.bay := by
  obtain ⟨q, hq⟩ : ∃ q, q = ({ r with late := r.lateFor i } : DosingRecord).givenUp := ⟨_, rfl⟩
  have position : q.position = r.position := by rw [hq, DosingRecord.givenUp]
  have settled : q.owed = 0 := by rw [hq, DosingRecord.givenUp]
  rw [← hq]
  obtain ⟨u, hu⟩ : ∃ u, u = s.replaced a i none q := ⟨_, rfl⟩
  have arm : u.arm a = _ := (congrArg (fun t : State => t.arm a) hu).trans ((s.arm_replaced a a i none q).trans (if_pos rfl))
  obtain ⟨w, hw⟩ : ∃ w, w = (u.raise .injectorFailed (number i)).raiseHold a .additive := ⟨_, rfl⟩
  obtain ⟨raised, bay⟩ := (u.raise .injectorFailed (number i)).raiseHold_heldBy a .additive
  rw [← hw] at raised bay
  have holds b : w.arm b = if b = a then (u.arm b).withCause .additive else u.arm b :=
    hw ▸ State.heldBy_arm ((u.raise .injectorFailed (number i)).raiseHold_heldBy a .additive) b
  have dosing : (w.arm a).dosing = some q := by
    have frame := (u.arm a).withCause_frame .additive
    simp only [Prod.mk.injEq] at frame
    rw [holds, if_pos rfl, frame.2.2, arm]
  have slowed : s.injectorFails a r i = w.modifyArm a (fun x => { x with reducedFlow := false }) := by
    rw [State.injectorFails_disengage standby, ← hq, ← hu, ← hw, State.judgeReducedFlow, dosing]
    exact if_pos settled
  refine ⟨{ u with
    arms := (u.arms.modify a (fun x => x.withCause .additive)).modify a (fun x => { x with reducedFlow := false })
    bay := w.bay }, ?_, ?_, ?_⟩
  · rw [slowed]
    conv_lhs => rw [raised]
    rfl
  · rw [s.failed_alone standby, hu, State.replaced, Table.modify_modify, Table.modify_modify, position]
    simp only [Arm.withCause_placed]
  · rw [show (u.raise .injectorFailed (number i)).arm a = u.arm a from rfl, arm] at bay
    split
    · next stops =>
      refine State.bayFollows_congr (s := u.raise .injectorFailed (number i)) (t := w) (hu ▸ rfl) rfl (fun b => ?_)
        ((if_pos stops).mp bay)
      rw [holds, State.arm, Table.get_modify, Table.get_modify]
      split <;> rfl
    · next stays =>
      exact ((if_neg stays).mp bay).trans (hu ▸ rfl)

end Sys2Proof.Machine
end

section
namespace Sys2Proof.Proofs
open Sys2Proof Sys2Proof.Machine

/-- Settles O47: a retry is a dosing event that issues no shot (`State.dosed_quiet`); a failure leaves `State.replaced`, which
the standby's takeover judges as a dosing event, and the disengaging by its cause (`State.raiseHold_heldBy`). -/
theorem verifyWindows : Obligations.VerifyWindows := by
  unfold Obligations.VerifyWindows
  intro i s own
  refine ⟨fun voided => ?_, fun a r ms shot fresh engaged only dosed window flying => ?_⟩
  · rw [execVerifyWindowExpiry_own own, State.windowExpires_voided voided]
    rfl
  · have expires := (execVerifyWindowExpiry_own own).trans (congrArg Host.Outcome.next
      (State.windowExpires_running fresh (State.engagedBy_only engaged only) dosed window flying))
    obtain ⟨q, hq, place⟩ := Arm.engaged_position engaged
    cases dosed.symm.trans hq
    dsimp only
    rw [← DosingRecord.lateFor_of (i := i) flying]
    refine ⟨fun budget => ⟨_, expires, ?_⟩, fun spent alone => ?_, fun j spent standby other interval ref active =>
      ⟨_, expires, ?_⟩⟩
    · rw [if_pos budget]
      exact State.retryShot_dosed dosed place
    · obtain ⟨t, fails, rest⟩ := State.injectorFails_alone (a := a) (r := r) alone
      refine ⟨t, expires.trans ?_, rest⟩
      rw [if_neg (by omega), fails]
    · rw [if_neg (by omega)]
      exact State.injectorFails_dosed standby interval active

end Sys2Proof.Proofs
end

section
/-! A line sample of a flowing arm whose line takes additive: what accrues, and what is issued and judged (R131 to R135). -/

namespace Sys2Proof.Machine

/-- Two changes of an entry that agree on it. -/
theorem Table.modify_congr {n : Nat} {α : Type} {t : Table n α} {k : Fin n} {f g : α → α} (same : f (t.get k) = g (t.get k)) :
    t.modify k f = t.modify k g := by
  rw [Table.modify_eq_set, Table.modify_eq_set, same]

/-! ### The dosing service (R132) -/

section Served

variable {s : State} {a : Fin 6} {i : Fin 8} {r : DosingRecord}

/-- An injector in SHOT is issued no other shot. -/
theorem State.issueShot_busy (engaged : (s.arm a).engaged = some i) (busy : (s.injector i).window ≠ none) :
    s.issueShot a = s := by
  unfold State.issueShot
  rw [engaged]
  cases (s.arm a).dosing with
  | none => rfl
  | some r => exact if_neg fun issues => busy (Option.isNone_iff_eq_none.mp issues.2.2)

/-- The service of an ACCRUING record is one dosing event. -/
theorem State.serveDosing_dosed {gross : Nat} (dosed : (s.arm a).dosing = some r) (engaged : (s.arm a).engaged = some i)
    (accrues : r.phase = .accruing) (acts : 0 < r.interval ∨ (s.injector i).window ≠ none) :
    s.dosed (s.serveDosing a gross) a i ({ r with accumulator := r.accumulator + gross } : DosingRecord).settle := by
  obtain ⟨q, hq⟩ : ∃ q, q = ({ r with accumulator := r.accumulator + gross } : DosingRecord).settle := ⟨_, rfl⟩
  have frame : q.position = r.position ∧ q.interval = r.interval := by
    rw [hq, DosingRecord.settle_frame]
    exact ⟨rfl, rfl⟩
  have place : (s.arm a).setup.positions.get q.position = some i := by
    rw [Arm.engaged, dosed] at engaged
    rw [frame.1]
    exact engaged
  have serves : s.serveDosing a gross =
      ((s.modifyArm a (fun x => { x with dosing := some q })).issueShot a).judgeDosing a := by
    rw [State.serveDosing, dosed, if_pos Option.isSome_some, State.modifyDosing_of dosed, if_pos accrues, ← hq]
  rw [serves, ← hq]
  rcases acts with interval | busy
  · exact State.dosed_judged s a i q place (frame.2 ▸ interval)
  · have engages : ((s.modifyArm a (fun x => { x with dosing := some q })).arm a).engaged = some i := by
      rw [State.arm_modifyArm, if_pos rfl]
      exact place
    rw [State.issueShot_busy engages busy]
    exact State.dosed_quiet place fun issues => busy issues.2.2

/-- A dosing event, said of the record `q` that its issue leaves. -/
theorem State.dosed_issued {t : State} {q : DosingRecord} (h : s.dosed t a i r)
    (issued : r.issued (s.injector i).window = q) :
    let exceeds := q.phase = .accruing ∧ q.owed = 3 ∧ q.interval ≤ q.accumulator ∧ (s.arm a).holds.additive = false
    let caughtUp := q.owed = 0 ∧ q.accumulator < q.interval ∧ (s.injectorStore i).failed = false ∧
      (s.injectorStore i).additive = q.additive
    let slows := 2 ≤ q.owed ∧ s.running a = true
    t = ({ s with
      arms := s.arms.modify a (fun x =>
        let y := if exceeds then x.withCause .additive else x
        { y with
          dosing := some q
          reducedFlow := if q.owed = 0 then false else if slows then true else x.reducedFlow
          holds := if caughtUp then { y.holds with additive := false } else y.holds })
      injectors := s.injectors.modify i (fun x => { x with
        window := if r.phase ≠ .disengaged ∧ 0 < r.owed ∧ (s.injector i).window = none then some 3000 else x.window
        stats := if exceeds then { x.stats with overspeed := min 65535 (x.stats.overspeed + 1) } else x.stats })
      bay := t.bay } : State).raiseIf (decide (slows ∧ (s.arm a).reducedFlow = false)) .flowReduced (number a) ∧
    if exceeds ∧ (s.arm a).state.flowing = true ∧ (s.arm a).active.isSome = true then s.bayFollows t else t.bay = s.bay := by
  subst issued
  exact h

/-- The arm after a dosing event that does not hold it: its record is `q`, and its flag is judged (R133). -/
def Arm.served (x : Arm) (q : DosingRecord) (running : Bool) : Arm :=
  { x with
    dosing := some q
    reducedFlow := if q.owed = 0 then false else if 2 ≤ q.owed ∧ running = true then true else x.reducedFlow }

/-- A dosing event that does not find the overspeed condition, on an arm without ADDITIVE: the shot issued, and the flag. -/
theorem State.dosed_calm {t : State} {q : DosingRecord} (h : s.dosed t a i r)
    (issued : r.issued (s.injector i).window = q) (calm : q.owed ≠ 3) (clear : (s.arm a).holds.additive = false) :
    t = ({ s with
      arms := s.arms.modify a (fun x => x.served q (s.running a))
      injectors := s.injectors.modify i (fun x => { x with
        window := if r.phase ≠ .disengaged ∧ 0 < r.owed ∧ (s.injector i).window = none then some 3000 else x.window })
      } : State).raiseIf (decide ((2 ≤ q.owed ∧ s.running a = true) ∧ (s.arm a).reducedFlow = false))
        .flowReduced (number a) := by
  obtain ⟨event, bay⟩ := State.dosed_issued h issued
  simp only [calm, false_and, and_false, if_false] at event bay
  rw [bay] at event
  refine event.trans ?_
  congr 1
  refine congrArg (fun arms => ({ s with arms := arms, injectors := _ } : State))
    (Table.modify_congr ?_)
  have kept : ({ (s.arms.get a).holds with additive := false } : HoldSet) = (s.arms.get a).holds := by
    unfold State.arm at clear
    rw [← clear]
  simp only [kept, ite_self]
  rfl

end Served

/-! ### The sample (R52, R55, R85, R87, R91) -/

section Sampled

variable {s : State} {a : Fin 6} {ref : LineRef} {l : Line} {i : Fin 8} {r : DosingRecord}
  (active : (s.arm a).active = some ref) (hl : s.lineAt ref = some l) (dosing : (s.arm a).dosing = some r)
  (engaged : (s.arm a).engaged = some i) (accrues : r.phase = .accruing)
  (acts : 0 < r.interval ∨ (s.injector i).window ≠ none)

/-- The arm that a line sample meters. -/
theorem State.arm_meteredLine (s : State) (a : Fin 6) (ref : LineRef) (v : SampleVolumes) (l : Line) :
    (s.meteredLine a ref v l).arm a = { (s.arm a).metered v with lineCarries := v.carries } :=
  (State.arm_modifyArm s a a (fun x => { x.metered v with lineCarries := v.carries })).trans (if_pos rfl)

include dosing engaged accrues acts in
/-- A line sample's service is one dosing event. -/
theorem State.lineServed_dosed : (s.meteredLine a ref (s.lineVolumes a) (s.nextLine a l)).dosed (s.lineServed a ref l) a i
    ({ r with accumulator := r.accumulator + (s.lineVolumes a).gross } : DosingRecord).settle := by
  have arm := s.arm_meteredLine a ref (s.lineVolumes a) (s.nextLine a l)
  exact State.serveDosing_dosed (arm ▸ dosing) (arm ▸ engaged) accrues acts

variable (bound : (s.arm a).stageGross + (s.lineVolumes a).gross ≤ 4294967295)
  (below : (s.nextLine a l).delivered < l.preset * 1000)

include active hl dosing engaged accrues acts bound below in
/-- Below its preset the sample counts the arm, and stages it where its dosing leaves it flowing; then it judges the close. -/
theorem State.sample_dosed : s.sample a = ((s.lineServed a ref l).modifyArm a (fun x =>
    x.sampled (s.arm a).decoder.sampleCount (s.lineVolumes a).gross (l.preset * 1000 - (s.nextLine a l).delivered))).judgeClose
      a (s.arm a).decoder.sampleCount := by
  obtain ⟨-, frame, orders, -⟩ := State.dosed_frame (State.lineServed_dosed (ref := ref) (l := l) dosing engaged accrues acts)
  rw [State.arm_meteredLine] at frame
  have counted : s.sampledFlow a = (s.lineCounted a ref l).judgeFlow a (s.arm a).decoder.sampleCount := by
    rw [State.sampledFlow, State.sampleOf_line active, State.meterSample_eq active hl]
    refine congrArg (fun t : State => t.judgeFlow a _) (State.modifyArm_congr (s.lineServed a ref l) a
      (Arm.countSample_eq _ ?_))
    rw [frame.stageGross]
    exact bound
  have arm : (s.lineCounted a ref l).arm a =
      ((s.lineServed a ref l).arm a).counts (s.arm a).decoder.sampleCount (s.lineVolumes a).gross := State.lineCounted_at
  have carries : ((s.lineCounted a ref l).arm a).active = some ref := by
    rw [arm]
    exact frame.active.trans active
  have line : (s.lineCounted a ref l).lineAt ref = some (s.nextLine a l) := by
    refine Eq.trans ?_ (State.lineAt_modifyLine hl (fun _ => s.nextLine a l))
    have same : (s.lineCounted a ref l).orders = (s.modifyLine ref (fun _ => s.nextLine a l)).orders := orders
    simp only [State.lineAt, State.order, same]
  rw [State.sample_line active, counted]
  refine congrArg (fun t : State => t.judgeClose a _) ?_
  simp only [State.judgeFlow, State.activeLine_of carries, line]
  rw [if_neg fun c => below.not_ge c.2]
  by_cases flowing : ((s.lineServed a ref l).arm a).state.flowing = true
  · have flows : ((s.lineCounted a ref l).arm a).state.flowing = true := arm ▸ flowing
    rw [if_pos flows, State.modifyArm_congr _ a (g := fun x =>
      x.stages (l.preset * 1000 - (s.nextLine a l).delivered) (s.arm a).decoder.sampleCount) (Arm.staged_eq flows _ _),
      State.lineCounted, State.modifyArm_modifyArm]
    exact State.modifyArm_congr _ a (if_pos flowing).symm
  · have still : ¬ ((s.lineCounted a ref l).arm a).state.flowing = true := arm ▸ flowing
    rw [if_neg still, State.lineCounted]
    exact State.modifyArm_congr _ a (if_neg flowing).symm

/-- A flowing arm after a sample of so many pulses and these volumes that its dosing does not hold, its record being `q`. -/
def Arm.dosedSample (x : Arm) (v : SampleVolumes) (q : DosingRecord) (running : Bool) (remaining pulses : Nat) : Arm :=
  (({ x.counted v v.gross with lineCarries := v.carries } : Arm).served q running).stages remaining pulses

/-- A flowing arm is judged no leak and no completed close. -/
theorem State.judgeClose_flowing {n : State} {pulses : Nat} (flowing : (n.arm a).state.flowing = true) :
    n.judgeClose a pulses = n := by
  have closing : (n.arm a).state ≠ .closing := fun c => by rw [c] at flowing; cases flowing
  have suspended : (n.arm a).state ≠ .suspended := fun c => by rw [c] at flowing; cases flowing
  exact State.judgeClose_rests (fun c => c.1.elim closing suspended) fun c => closing c.1

include active hl in
theorem State.running_meteredLine (v : SampleVolumes) :
    (s.meteredLine a ref v (s.nextLine a l)).running a = l.isRunning := by
  have carries : ((s.meteredLine a ref v (s.nextLine a l)).arm a).active = some ref := by
    rw [State.arm_meteredLine]
    exact active
  have line : (s.meteredLine a ref v (s.nextLine a l)).lineAt ref = some (s.nextLine a l) :=
    State.lineAt_modifyLine hl (fun _ => s.nextLine a l)
  simp only [State.running, State.activeLine_of carries, line]
  rfl

include active hl dosing engaged accrues acts bound below in
/-- The sample of a flowing arm that its dosing does not hold: its record is `q` after the service, and it is staged. -/
theorem State.sample_calm {q : DosingRecord} (flowing : (s.arm a).state.flowing = true)
    (clear : (s.arm a).holds.additive = false) {q0 : DosingRecord}
    (settles : ({ r with accumulator := r.accumulator + (s.lineVolumes a).gross } : DosingRecord).settle = q0)
    (issued : q0.issued (s.injector i).window = q) (calm : q.owed ≠ 3) :
    s.sample a = (({ s with
      arms := s.arms.modify a (fun x => x.dosedSample (s.lineVolumes a) q l.isRunning
        (l.preset * 1000 - (s.nextLine a l).delivered) (s.arm a).decoder.sampleCount)
      injectors := s.injectors.modify i (fun x => { x with
        window := if q0.phase ≠ .disengaged ∧ 0 < q0.owed ∧ (s.injector i).window = none then some 3000 else x.window })
      store := s.storeAfter a (s.lineVolumes a) } : State).modifyLine ref (fun _ => s.nextLine a l)).raiseIf
        (decide ((2 ≤ q.owed ∧ l.isRunning = true) ∧ (s.arm a).reducedFlow = false)) .flowReduced (number a) := by
  have event := State.lineServed_dosed (ref := ref) (l := l) dosing engaged accrues acts
  rw [settles] at event
  have served := State.dosed_calm event issued calm (by rw [State.arm_meteredLine]; exact clear)
  rw [State.running_meteredLine active hl, State.arm_meteredLine] at served
  obtain ⟨injectors, hi⟩ : ∃ t, t = s.injectors.modify i (fun x => { x with
    window := if q0.phase ≠ .disengaged ∧ 0 < q0.owed ∧ (s.injector i).window = none then some 3000 else x.window }) :=
    ⟨_, rfl⟩
  have served : s.lineServed a ref l = ({ s.meteredLine a ref (s.lineVolumes a) (s.nextLine a l) with
      arms := (s.meteredLine a ref (s.lineVolumes a) (s.nextLine a l)).arms.modify a (fun x => x.served q l.isRunning)
      injectors := injectors } : State).raiseIf (decide ((2 ≤ q.owed ∧ l.isRunning = true) ∧ (s.arm a).reducedFlow = false))
        .flowReduced (number a) := by
    rw [hi]
    exact served
  rw [← hi]
  have flows : ((s.lineServed a ref l).arm a).state.flowing = true := by
    rw [served, State.arm_raiseIf]
    refine (congrArg (fun x : Arm => x.state.flowing) ((Table.get_modify _ a a _).trans (if_pos rfl))).trans ?_
    exact (congrArg (fun x : Arm => x.state.flowing) (State.arm_meteredLine ..)).trans flowing
  rw [State.sample_dosed active hl dosing engaged accrues acts bound below, State.judgeClose_flowing, served,
    State.raiseIf_modifyArm]
  · congr 1
    refine Eq.trans (b := (((({ s with injectors := injectors, store := s.storeAfter a (s.lineVolumes a) } : State).modifyLine ref
      (fun _ => s.nextLine a l)).modifyArm a (fun x => { x.metered (s.lineVolumes a) with
        lineCarries := (s.lineVolumes a).carries })).modifyArm a (fun x => x.served q l.isRunning)).modifyArm a (fun x =>
          x.sampled (s.arm a).decoder.sampleCount (s.lineVolumes a).gross (l.preset * 1000 - (s.nextLine a l).delivered)))
            rfl ?_
    rw [State.modifyArm_modifyArm, State.modifyArm_modifyArm]
    exact State.modifyArm_congr _ a (g := fun x => x.dosedSample (s.lineVolumes a) q l.isRunning
      (l.preset * 1000 - (s.nextLine a l).delivered) (s.arm a).decoder.sampleCount) (if_pos flowing)
  · rw [State.arm_modifyArm, if_pos rfl, Arm.sampled, if_pos flows]
    exact Arm.stages_flowing _ _ _

end Sampled

end Sys2Proof.Machine
end

section
/-! A line sample that owes a shot, and one that finds the overspeed condition (R131 to R134). -/

namespace Sys2Proof.Machine

/-! ### The record as a sample settles it (R131) -/

/-- A record whose accumulator is below its interval, or whose owed count is full, is settled. -/
theorem DosingRecord.settle_rests {r : DosingRecord} (rests : r.owed < 3 → r.accumulator < r.interval) : r.settle = r := by
  have once : r.settleOnce = r := if_neg fun c => (rests c.2).not_ge c.1
  rw [DosingRecord.settle, once, once, once]

/-- One interval accrued, and no second one, is one shot more owed. -/
theorem DosingRecord.settle_one {r : DosingRecord} (owed : r.owed < 3) (reaches : r.interval ≤ r.accumulator)
    (short : r.accumulator < 2 * r.interval) :
    r.settle = { r with accumulator := r.accumulator - r.interval, owed := r.owed + 1 } := by
  have once : r.settleOnce = { r with accumulator := r.accumulator - r.interval, owed := r.owed + 1 } :=
    if_pos ⟨reaches, owed⟩
  have twice : r.settleOnce.settleOnce = r.settleOnce := by
    rw [once]
    refine if_neg fun c => ?_
    have more : r.interval ≤ r.accumulator - r.interval := c.1
    omega
  rw [DosingRecord.settle, twice, twice, once]

/-- A record with nothing owed, or whose injector is in SHOT, issues no shot. -/
theorem DosingRecord.issued_none {r : DosingRecord} {window : Option Nat} (h : r.owed = 0 ∨ window ≠ none) :
    r.issued window = r :=
  if_neg fun c => h.elim c.2.1.ne' fun busy => busy c.2.2

/-- A shot issued below the interval: one less is owed, and nothing more settles (R135). -/
theorem DosingRecord.issued_one {r : DosingRecord} (accrues : r.phase = .accruing) (owed : 0 < r.owed)
    (short : r.accumulator < r.interval) :
    r.issued none = { r with owed := r.owed - 1, shot := some ⟨0, false⟩ } := by
  have issues : r.phase ≠ .disengaged ∧ 0 < r.owed ∧ (none : Option Nat) = none :=
    ⟨accrues ▸ DosingPhase.noConfusion, owed, rfl⟩
  rw [DosingRecord.issued, if_pos issues]
  exact (DosingRecord.settle_eq_settled { r with owed := r.owed - 1, shot := some ⟨0, false⟩ }
    (Nat.zero_lt_of_lt short)).symm.trans (DosingRecord.settle_rests fun _ => short)

/-- What a volume that reaches at most one interval leaves of a record with nothing owed: past it, one shot is owed, and the
IDLE injector issues it (R131, R132, R135). -/
theorem DosingRecord.settle_idle {r : DosingRecord} {sum : Nat} (accrues : r.phase = .accruing) (owed : r.owed = 0)
    (shot : r.shot = none) (short : sum < 2 * r.interval) :
    let q := ({ r with accumulator := sum } : DosingRecord).settle
    q.issued none = { r with
      accumulator := if r.interval ≤ sum then sum - r.interval else sum
      shot := if r.interval ≤ sum then some ⟨0, false⟩ else none } ∧
    (0 < q.owed ↔ r.interval ≤ sum) ∧ q.phase = .accruing := by
  intro q
  by_cases reaches : r.interval ≤ sum
  · have settles : q = { r with accumulator := sum - r.interval, owed := r.owed + 1 } :=
      DosingRecord.settle_one (owed.trans_lt (by decide)) reaches short
    rw [if_pos reaches, if_pos reaches, settles]
    refine ⟨DosingRecord.issued_one accrues (Nat.succ_pos _) ?_, iff_of_true (Nat.succ_pos _) reaches, accrues⟩
    show sum - r.interval < r.interval
    omega
  · have settles : q = { r with accumulator := sum } := DosingRecord.settle_rests fun _ => Nat.lt_of_not_le reaches
    rw [if_neg reaches, if_neg reaches, settles, ← shot]
    exact ⟨DosingRecord.issued_none (.inl owed), iff_of_false (fun some => some.ne' owed) reaches, accrues⟩

/-! ### The arm and the injector that such a sample leaves (R133, R135) -/

/-- With nothing owed the flag is clear. -/
theorem Arm.dosedSample_none {q : DosingRecord} (owed : q.owed = 0) (x : Arm) (v : SampleVolumes) (running : Bool)
    (remaining pulses : Nat) : x.dosedSample v q running remaining pulses =
      { x.counted v v.gross with lineCarries := v.carries, dosing := some q, reducedFlow := false }.stages remaining pulses := by
  rw [Arm.dosedSample, Arm.served, if_pos owed]

/-- With two shots owed on a running line the flag is set. -/
theorem Arm.dosedSample_slowed {q : DosingRecord} (owed : 2 ≤ q.owed) (x : Arm) (v : SampleVolumes) (remaining pulses : Nat) :
    x.dosedSample v q true remaining pulses =
      { x.counted v v.gross with lineCarries := v.carries, dosing := some q, reducedFlow := true }.stages remaining pulses := by
  rw [Arm.dosedSample, Arm.served, if_neg (Nat.ne_of_gt (Nat.lt_of_lt_of_le (by decide) owed)), if_pos ⟨owed, rfl⟩]

/-- A verify window that starts only where a shot is issued. -/
theorem Table.modify_window {t : Table 8 Injector} {i : Fin 8} {issues fires : Prop} [Decidable issues] [Decidable fires]
    (same : issues ↔ fires) :
    t.modify i (fun x => { x with window := if issues then some 3000 else x.window }) =
      if fires then t.modify i (fun x => { x with window := some 3000 }) else t := by
  by_cases issue : issues
  · rw [if_pos (same.mp issue)]
    simp only [if_pos issue]
  · rw [if_neg fun fire => issue (same.mpr fire)]
    simp only [if_neg issue]
    exact (t.modify_eq_set i _).trans (t.set_get_self i)

/-! ### The overspeed condition (R134) -/

section Overspeed

variable {s : State} {a : Fin 6} {ref : LineRef} {l : Line} {i : Fin 8} {r : DosingRecord}

/-- A dosing event in the overspeed condition, on an arm already slowed: ADDITIVE is raised and counted. -/
theorem State.dosed_overspeed {t : State} (h : s.dosed t a i r) (accrues : r.phase = .accruing) (owed : r.owed = 3)
    (exceeds : r.interval ≤ r.accumulator) (busy : (s.injector i).window ≠ none)
    (clear : (s.arm a).holds.additive = false) (flag : (s.arm a).reducedFlow = true)
    (flowing : (s.arm a).state.flowing = true) (active : (s.arm a).active.isSome = true) :
    t = { s with
      arms := s.arms.modify a (fun x => { x.withCause .additive with dosing := some r })
      injectors := s.injectors.modify i (fun x =>
        { x with stats := { x.stats with overspeed := min 65535 (x.stats.overspeed + 1) } })
      bay := t.bay } ∧ s.bayFollows t := by
  have quiet : r.issued (s.injector i).window = r := DosingRecord.issued_none (.inr busy)
  obtain ⟨event, bay⟩ := State.dosed_issued h quiet
  have met : r.phase = .accruing ∧ r.owed = 3 ∧ r.interval ≤ r.accumulator ∧ (s.arm a).holds.additive = false :=
    ⟨accrues, owed, exceeds, clear⟩
  rw [if_pos ⟨met, flowing, active⟩] at bay
  refine ⟨event.trans ?_, bay⟩
  simp only [if_pos met]
  simp only [flag, Bool.true_eq_false, and_false, decide_false, State.raiseIf, Bool.false_eq_true, if_false, owed,
    OfNat.ofNat_ne_zero, false_and, busy]
  refine congrArg (fun arms => ({ s with arms := arms, injectors := _, bay := _ } : State)) (Table.modify_congr ?_)
  have kept : ((s.arms.get a).withCause .additive).reducedFlow = true := (Arm.withCause_reducedFlow _ _).trans flag
  have same : (if 2 ≤ 3 ∧ s.running a = true then true else (s.arms.get a).reducedFlow) = true := by
    split
    · rfl
    · exact flag
  rw [same, ← kept]

theorem State.arms_meteredLine (v : SampleVolumes) : (s.meteredLine a ref v l).arms =
    s.arms.modify a (fun x => { x.metered v with lineCarries := v.carries }) := rfl

/-- A cause raised reads nothing of the metering. -/
theorem Arm.withCause_metered (x : Arm) (c : HoldCause) (v : SampleVolumes) (carries : Carries) :
    ({ x.metered v with lineCarries := carries } : Arm).withCause c =
      { (x.withCause c).metered v with lineCarries := carries } := by
  unfold Arm.withCause Arm.metered
  dsimp only
  split
  · split <;> rfl
  · rfl

/-- A cause that a flowing arm does not hold closes it for a hold, its counts beginning at 0 (R90, R105). -/
theorem Arm.withCause_closes {x : Arm} {c : HoldCause} (flowing : x.state.flowing = true) (active : x.active.isSome = true)
    (clear : x.holds.has c = false) :
    (x.withCause c).state = .closing ∧ (x.withCause c).reason = some .hold ∧ (x.withCause c).zeroRun = 0 ∧
      (x.withCause c).closeCount = 0 := by
  rw [Arm.withCause, if_pos ⟨active, clear⟩, if_pos flowing]
  exact ⟨rfl, rfl, rfl, rfl⟩

variable (active : (s.arm a).active = some ref) (dosing : (s.arm a).dosing = some r) (engaged : (s.arm a).engaged = some i)
  (accrues : r.phase = .accruing) (flowing : (s.arm a).state.flowing = true) (clear : (s.arm a).holds.additive = false)
  (owed : r.owed = 3) (busy : (s.injector i).window ≠ none) (flag : (s.arm a).reducedFlow = true)
  (exceeds : r.interval ≤ r.accumulator + (s.lineVolumes a).gross)

include active dosing engaged accrues flowing clear owed busy flag exceeds in
/-- A line sample's service in the overspeed condition. -/
theorem State.lineServed_overspeed : s.lineServed a ref l = { s.meteredLine a ref (s.lineVolumes a) (s.nextLine a l) with
      arms := s.arms.modify a (fun x => { (x.withCause .additive).metered (s.lineVolumes a) with
        lineCarries := (s.lineVolumes a).carries
        dosing := some { r with accumulator := r.accumulator + (s.lineVolumes a).gross } })
      injectors := s.injectors.modify i (fun x =>
        { x with stats := { x.stats with overspeed := min 65535 (x.stats.overspeed + 1) } })
      bay := (s.lineServed a ref l).bay } ∧ s.bayFollows (s.lineServed a ref l) := by
  obtain ⟨q, hq⟩ : ∃ q : DosingRecord, q = { r with accumulator := r.accumulator + (s.lineVolumes a).gross } := ⟨_, rfl⟩
  have full : q.owed = 3 := hq ▸ owed
  have event := State.lineServed_dosed (ref := ref) (l := l) dosing engaged accrues (.inr busy)
  rw [← hq, DosingRecord.settle_rests fun few => absurd (few.trans_eq full.symm) (lt_irrefl _)] at event
  have arm := s.arm_meteredLine a ref (s.lineVolumes a) (s.nextLine a l)
  obtain ⟨served, follows⟩ := State.dosed_overspeed event (hq ▸ accrues) full (hq ▸ exceeds) busy (arm ▸ clear) (arm ▸ flag)
    (arm ▸ flowing) (arm ▸ Option.isSome_of_eq_some active)
  have arms : (s.meteredLine a ref (s.lineVolumes a) (s.nextLine a l)).arms.modify a
      (fun x => { x.withCause .additive with dosing := some q }) = s.arms.modify a (fun x =>
        { (x.withCause .additive).metered (s.lineVolumes a) with
          lineCarries := (s.lineVolumes a).carries, dosing := some q }) := by
    rw [State.arms_meteredLine, Table.modify_modify]
    refine Table.modify_congr ?_
    dsimp only
    rw [Arm.withCause_metered]
  rw [arms] at served
  rw [← hq]
  exact ⟨served, State.bayFollows_congr rfl rfl (fun _ => rfl) follows⟩

/-- The arm that a sample's overspeed condition has held. -/
def Arm.overspeedSample (x : Arm) (v : SampleVolumes) (q : DosingRecord) (pulses : Nat) : Arm :=
  let y := { x.withCause .additive with dosing := some q }
  { (y.metered v).counts pulses v.gross with lineCarries := v.carries }

include active dosing engaged accrues flowing clear owed busy flag exceeds in
/-- The sample of a flowing, slowed arm with three shots owed, past a further interval: ADDITIVE holds it. -/
theorem State.sample_overspeed (hl : s.lineAt ref = some l)
    (bound : (s.arm a).stageGross + (s.lineVolumes a).gross ≤ 4294967295)
    (below : (s.nextLine a l).delivered < l.preset * 1000) :
    s.sample a = { s.modifyLine ref (fun _ => s.nextLine a l) with
      arms := s.arms.modify a (fun x => x.overspeedSample (s.lineVolumes a)
        { r with accumulator := r.accumulator + (s.lineVolumes a).gross } (s.arm a).decoder.sampleCount)
      injectors := s.injectors.modify i (fun x =>
        { x with stats := { x.stats with overspeed := min 65535 (x.stats.overspeed + 1) } })
      store := s.storeAfter a (s.lineVolumes a)
      bay := (s.sample a).bay } ∧
    ((s.sample a).arm a).state = .closing ∧ ((s.sample a).arm a).reason = some .hold ∧ s.bayFollows (s.sample a) := by
  obtain ⟨served, follows⟩ := State.lineServed_overspeed (l := l) active dosing engaged accrues flowing clear owed busy flag
    exceeds
  obtain ⟨q, hq⟩ : ∃ q : DosingRecord, q = { r with accumulator := r.accumulator + (s.lineVolumes a).gross } := ⟨_, rfl⟩
  rw [← hq] at served ⊢
  obtain ⟨closing, reason, zeroRun, closeCount⟩ :=
    Arm.withCause_closes (c := .additive) flowing (Option.isSome_of_eq_some active) clear
  have state : ((s.lineServed a ref l).arm a).state = .closing := by
    rw [served]
    exact (congrArg Arm.state ((Table.get_modify _ a a _).trans (if_pos rfl))).trans closing
  obtain ⟨w, hw⟩ : ∃ w, w = (s.lineServed a ref l).modifyArm a
    (fun x => x.counts (s.arm a).decoder.sampleCount (s.lineVolumes a).gross) := ⟨_, rfl⟩
  have arms : w.arms = s.arms.modify a
      (fun x => x.overspeedSample (s.lineVolumes a) q (s.arm a).decoder.sampleCount) := by
    rw [hw, served]
    dsimp only [State.modifyArm]
    rw [Table.modify_modify]
    rfl
  have arm : w.arm a = (s.arm a).overspeedSample (s.lineVolumes a) q (s.arm a).decoder.sampleCount := by
    rw [State.arm, arms, Table.get_modify, if_pos rfl]
    rfl
  have sampled : s.sample a = w := by
    rw [State.sample_dosed active hl dosing engaged accrues (.inr busy) bound below,
      State.modifyArm_congr _ a (g := fun x => x.counts (s.arm a).decoder.sampleCount (s.lineVolumes a).gross)
        (if_neg fun c => by rw [state] at c; cases c), ← hw]
    refine State.judgeClose_rests (fun c => ?_) fun c => ?_ <;> rw [arm] at c
    · have many : 50 ≤ min 65535 (((s.arm a).withCause .additive).closeCount + 1) := c.2.2
      omega
    · have many : 10 ≤ if (s.arm a).decoder.sampleCount = 0 then min 65535 (((s.arm a).withCause .additive).zeroRun + 1)
          else 0 := c.2
      split at many <;> omega
  rw [sampled, arm]
  refine ⟨?_, closing, reason, ?_⟩
  · rw [← arms, hw, served]
    rfl
  · refine State.bayFollows_congr rfl (hw ▸ rfl) (fun b => ?_) follows
    rw [hw, State.arm_modifyArm]
    split <;> rfl

end Overspeed

end Sys2Proof.Machine
end

section
namespace Sys2Proof.Proofs
open Sys2Proof Sys2Proof.Machine

/-- Settles O34: a line sample's service is one dosing event (`State.sample_dosed`), which issues a shot or slows the arm
(`State.sample_calm`), or holds it in the overspeed condition (`State.sample_overspeed`). -/
theorem lineSamplesOweShots : Obligations.LineSamplesOweShots := by
  unfold Obligations.LineSamplesOweShots
  intro a s ref l r i active hl flowing dosing engaged accrues clear due v l1 pulses remaining sum bound below
  have sampled : exec (.meteringSample a) s = .next (s.sample a) := congrArg Host.Outcome.next (State.expiry_own due _)
  rw [sampled]
  refine ⟨?_, ?_, ?_⟩
  · intro owed shot idle short fires r1
    obtain ⟨issued, owes, phase⟩ := DosingRecord.settle_idle accrues owed shot short
    have calm := State.sample_calm active hl dosing engaged accrues (.inl (by omega)) bound below flowing clear rfl
      (idle ▸ issued) (fun c => by have := c.symm.trans owed; omega)
    refine congrArg Host.Outcome.next (calm.trans ?_)
    have still : ¬ ((2 ≤ r1.owed ∧ l.isRunning = true) ∧ (s.arm a).reducedFlow = false) := fun c =>
      absurd (c.1.1.trans_eq owed) (by decide)
    rw [decide_eq_false still, State.raiseIf_false]
    exact congrArg₂ (fun arms injectors =>
      ({ s with arms := arms, injectors := injectors, store := s.storeAfter a v } : State).modifyLine ref (fun _ => l1))
      (Table.modify_congr (Arm.dosedSample_none (q := r1) owed _ v l.isRunning remaining pulses))
      (Table.modify_window ⟨fun c => owes.mp c.2.1, fun fire => ⟨phase ▸ DosingPhase.noConfusion, owes.mpr fire, idle⟩⟩)
  · intro owed busy running unslowed reaches short
    obtain ⟨q, hq⟩ : ∃ q : DosingRecord, q = { r with owed := 2, accumulator := sum - r.interval } := ⟨_, rfl⟩
    have two : q.owed = 2 := hq ▸ rfl
    have settles : ({ r with accumulator := sum } : DosingRecord).settle = q :=
      (DosingRecord.settle_one (r := { r with accumulator := sum }) (owed.trans_lt (by decide)) reaches short).trans
        (by rw [hq, owed])
    have calm := State.sample_calm active hl dosing engaged accrues (.inr busy) bound below flowing clear settles
      (DosingRecord.issued_none (.inr busy)) (two ▸ by decide)
    refine congrArg Host.Outcome.next (calm.trans ?_)
    rw [decide_eq_true ⟨⟨two.ge, running⟩, unslowed⟩, State.raiseIf_true, ← hq, running]
    exact congrArg₂ (fun arms injectors =>
      (({ s with arms := arms, injectors := injectors, store := s.storeAfter a v } : State).modifyLine ref
        (fun _ => l1)).raise .flowReduced (number a))
      (Table.modify_congr (Arm.dosedSample_slowed two.ge _ v remaining pulses))
      ((Table.modify_window (fires := False) ⟨fun c => busy c.2.2, False.elim⟩).trans (if_neg not_false))
  · intro owed busy flag exceeds
    exact ⟨s.sample a, rfl, State.sample_overspeed active dosing engaged accrues flowing clear owed busy flag exceeds hl bound
      below⟩

end Sys2Proof.Proofs
end
